-- ==== Sys2Proof/Word.lean ====
section
/-! DEFINITION. The word and byte types of the device, and the sparse table type that its numbered resources are held in. -/
namespace Sys2Proof

/-- Every register is 32 bits wide (R5). -/
abbrev Word := BitVec 32
/-- Memory structures are addressed by byte (R4). -/
abbrev Byte := BitVec 8
/-- A sparse table: entries at strictly rising numbers; a number with no entry holds the table's default. -/
abbrev Tbl (α : Type) := List (Nat × α)

end Sys2Proof
end

