-- ==== Sys2Proof/Syntax.lean ====
section
/-! DEFINITION. The commands that the device takes: one constructor for each row of the opcode table, and the types of their
operands. -/
namespace Sys2Proof

/-- Who issues an access: the initiators of Table 1.5 (Table 20.7 codes them in event records). -/
inductive Initiator where
  | service
  | app (hart : Fin 7)
  | pcie
  | kernel
  deriving DecidableEq, Repr

/-- The direction of a memory access. -/
inductive AccessKind where
  | read | write
  deriving DecidableEq, Repr

/-- A nominal input timing and format as the HDMI receiver measures it (R253, Table 13.8): the fields of VIN_TIMING,
VIN_TOTAL, VIN_FMT and VIN_STATUS, and the frame rate in mHz. -/
structure VideoTiming where
  activeW : Nat
  activeH : Nat
  totalW : Nat
  totalH : Nat
  frameMhz : Nat
  enc : Nat
  depth : Nat
  full : Bool
  colorimetry : Nat
  dsc : Bool
  vrr : Bool
  allm : Bool
  frlRate : Nat
  lanes : Nat
  deriving DecidableEq, Repr

/-- A Vilva flit without its CRC (R336, Table 16.1). -/
structure Flit where
  seq : Nat
  ack : Nat
  nak : Bool
  stream : Nat
  last : Bool
  xid : Nat
  gen : Nat
  buf : Nat
  offset : Nat
  plen : Nat
  payload : List Byte
  deriving DecidableEq, Repr

/-- A management datagram as it arrives (R442, Table 22.6): its SEQ, body and signature; the command names its TYPE. -/
structure Datagram where
  seq : Nat
  payload : List Byte
  sigR : Nat
  sigS : Nat
  deriving DecidableEq, Repr

/-- An event that a block reports (R465): its code, source block, arguments, and the context and stream it concerns. -/
structure EventReport where
  code : Nat
  src : Nat
  ctx : Option (Fin 128)
  stream : Option (Fin 32)
  args : List Nat
  deriving DecidableEq, Repr

/-- A command: a write or read from outside, an event of a link, a pin or a supply, or a step of one of the device's engines.
Each constructor's docstring is its row's rule. An operand carries what the device meets from outside in that step. -/
inductive Instr where
  /-- REGISTER_WRITE (R5). -/
  | registerWrite (init : Initiator) (addr : Nat) (size : Nat) (value : Nat)
  /-- MEMORY_ACCESS (R394). -/
  | memoryAccess (init : Initiator) (kind : AccessKind) (addr : Nat) (size : Nat) (value : Nat) (symbols : Nat)
  /-- SYS_DOMAIN_REQ (R29). -/
  | sysDomainReq (init : Initiator) (value : Word)
  /-- DOMAIN_RESET (R375). -/
  | domainReset (d : Fin 9)
  /-- DOMAIN_RELEASE (R375). -/
  | domainRelease (d : Fin 9)
  /-- POWER_ON_RESET (R452). -/
  | powerOnReset
  /-- EXTERNAL_RESET (R452). -/
  | externalReset (pulseNs : Nat)
  /-- COLD_START (R419). -/
  | coldStart (step : Nat)
  /-- DDR_TRAINING (R239). -/
  | ddrTraining (speeds : List Nat)
  /-- DDR_TRAINING_END (R240). -/
  | ddrTrainingEnd
  /-- DDR_RESTORE (R241). -/
  | ddrRestore (ok : Bool) (speeds : List Nat)
  /-- PLAN_ADMISSION (R43). -/
  | planAdmission
  /-- PLAN_REPLACES_ROM (R32). -/
  | planReplacesRom
  /-- PLAN_READMISSION (R34). -/
  | planReadmission
  /-- MODE_REQ (R49). -/
  | modeReq (init : Initiator) (value : Word)
  /-- MODE_CHANGE_TAKE (R50). -/
  | modeChangeTake
  /-- MODE_WEIGHTS_RESIDENT (R50). -/
  | modeWeightsResident
  /-- MODE_SWITCH (R50). -/
  | modeSwitch
  /-- TICK_BOUNDARY (R63). -/
  | tickBoundary
  /-- HDMI_FRAME_START (R57). -/
  | hdmiFrameStart (atNs : Nat)
  /-- FRAME_START_TIMEOUT (R59). -/
  | frameStartTimeout
  /-- ALIVE_TIMER_TOGGLE (R61). -/
  | aliveTimerToggle
  /-- DOORBELL_WRITE (R67). -/
  | doorbellWrite (init : Initiator) (ctx : Fin 128) (value : Word)
  /-- TILE_BOUNDARY (R68). -/
  | tileBoundary (g : Fin 16)
  /-- SWAP_COMPLETE (R75). -/
  | swapComplete (g : Fin 16) (elapsedUs : Nat)
  /-- WINDOW_BOUNDARY (R69). -/
  | windowBoundary (g : Fin 16) (ctx : Fin 128) (begins : Bool)
  /-- GROVE_IDLE (R352). -/
  | groveIdle (g : Fin 16)
  /-- SCH_CTX_SEL (R80). -/
  | schCtxSel (init : Initiator) (value : Word)
  /-- SCH_SWAP_MBPS (R76). -/
  | schSwapMbps (init : Initiator) (g : Fin 16) (value : Word)
  /-- NOP (R93). -/
  | nop (g : Fin 16)
  /-- MATMUL (R120). -/
  | matmul (g : Fin 16)
  /-- CONV (R145). -/
  | conv (g : Fin 16)
  /-- POOL_MAX (R151). -/
  | poolMax (g : Fin 16)
  /-- POOL_AVG (R151). -/
  | poolAvg (g : Fin 16)
  /-- ARGMAX (R152). -/
  | argmax (g : Fin 16)
  /-- EW (R124). -/
  | ew (g : Fin 16)
  /-- SCAN (R179). -/
  | scan (g : Fin 16)
  /-- ATTN (R160). -/
  | attn (g : Fin 16)
  /-- MOVE (R93). -/
  | moveBytes (g : Fin 16)
  /-- XFER (R227). -/
  | xfer (g : Fin 16)
  /-- WAIT (R105). -/
  | waitXfers (g : Fin 16)
  /-- TALLY (R138). -/
  | tally (g : Fin 16)
  /-- COMMAND_COMPLETE (R102). -/
  | commandComplete (g : Fin 16) (cycles : Nat)
  /-- CAP_STOP (R103). -/
  | capStop (g : Fin 16)
  /-- TRANSFER_PIECE (R229). -/
  | transferPiece (symbols : Nat)
  /-- TRANSFER_COMPLETE (R230). -/
  | transferComplete (t : Nat)
  /-- COPY_ON_WRITE (R174). -/
  | copyOnWrite (t : Nat) (symbols : Nat)
  /-- FRAME_DRAIN_END (R168). -/
  | frameDrainEnd (frame : Nat)
  /-- LIST_NEW (R169). -/
  | listNew (init : Initiator) (value : Word)
  /-- LIST_FREE (R169). -/
  | listFree (init : Initiator) (value : Word)
  /-- APPEND (R169). -/
  | listAppend (init : Initiator) (value : Word)
  /-- TRUNCATE (R169). -/
  | listTruncate (init : Initiator) (value : Word)
  /-- FORK (R170). -/
  | listFork (init : Initiator) (value : Word)
  /-- PUBLISH (R170). -/
  | listPublish (init : Initiator) (value : Word)
  /-- AUDIT (R169). -/
  | poolAudit (init : Initiator) (value : Word)
  /-- ADMIT (R195). -/
  | seqAdmit (init : Initiator) (value : Word)
  /-- RETIRE (R195). -/
  | seqRetire (init : Initiator) (value : Word)
  /-- HOLD (R195). -/
  | seqHold (init : Initiator) (value : Word)
  /-- RELEASE (R195). -/
  | seqRelease (init : Initiator) (value : Word)
  /-- PRIO (R195). -/
  | seqPrio (init : Initiator) (value : Word)
  /-- SEQ_ENT_SEL (R205). -/
  | seqEntSel (init : Initiator) (value : Word)
  /-- SEQ_SUBMIT (R195). -/
  | seqSubmit (init : Initiator) (e : Fin 512) (value : Word)
  /-- SEQ_OUTACK (R195). -/
  | seqOutack (init : Initiator) (e : Fin 512) (value : Word)
  /-- STEP_BUILD (R196). -/
  | stepBuild (grp : Fin 16)
  /-- SEQ_GRP_GO (R198). -/
  | seqGrpGo (init : Initiator) (grp : Fin 16) (value : Word)
  /-- STEP_COMPLETION (R199). -/
  | stepCompletion (t : Nat)
  /-- SCHEDULED_BOUNDARY (R204). -/
  | scheduledBoundary (grp : Fin 16)
  /-- OBJ_NEW (R214). -/
  | objNew (init : Initiator) (value : Word)
  /-- OBJ_FREE (R214). -/
  | objFree (init : Initiator) (value : Word)
  /-- OBJ_PLACE (R214). -/
  | objPlace (init : Initiator) (value : Word)
  /-- OBJ_FLUSH (R214). -/
  | objFlush (init : Initiator) (value : Word)
  /-- OBJECT_MOVE_DONE (R216). -/
  | objectMoveDone (obj : Fin 4096)
  /-- OBJECT_DRAIN_END (R216). -/
  | objectDrainEnd (obj : Fin 4096)
  /-- AGE_EVICTION (R224). -/
  | ageEviction
  /-- TIER_OBJ_SEL (R213). -/
  | tierObjSel (init : Initiator) (value : Word)
  /-- TIER_QUOTA_SEL (R234). -/
  | tierQuotaSel (init : Initiator) (value : Word)
  /-- SCRUB_LINE (R249). -/
  | scrubLine (symbols : Nat)
  /-- HDMI_LINK_LOCK (R253). -/
  | hdmiLinkLock (timing : VideoTiming)
  /-- HDMI_LINK_LOSS (R274). -/
  | hdmiLinkLoss
  /-- INPUT_LOST (R274). -/
  | inputLost
  /-- TIMING_CHANGE (R274). -/
  | timingChange (timing : VideoTiming)
  /-- INPUT_ROW (R257). -/
  | inputRow (samples : List (List Nat)) (errors : Bool)
  /-- BAND_DECISION (R266). -/
  | bandDecision
  /-- OUTPUT_FRAME_START (R275). -/
  | outputFrameStart
  /-- DP_LINK_TRAIN (R256). -/
  | dpLinkTrain (sinkRates : List Nat) (trains : List Nat) (preferred : Option (Nat × Nat))
  /-- DP_TRAIN_RETRY (R256). -/
  | dpTrainRetry (trains : List Nat)
  /-- DP_SINK_IRQ (R256). -/
  | dpSinkIrq (trains : List Nat)
  /-- VOUT_MUTE (R280). -/
  | voutMute (init : Initiator) (value : Word)
  /-- BYP_CTRL (R281). -/
  | bypCtrl (init : Initiator) (value : Word)
  /-- VIN_HPD (R254). -/
  | vinHpd (init : Initiator) (value : Word)
  /-- MIC_FRAME (R288). -/
  | micFrame (samples : List Int)
  /-- DAWN_HOP (R293). -/
  | dawnHop (score : Fin 256)
  /-- BIAS_FAULT (R284). -/
  | biasFault (n : Fin 2)
  /-- MIC_MUTE (R287). -/
  | micMute (init : Initiator) (value : Word)
  /-- FOLLOW_TIMEOUT (R299). -/
  | followTimeout
  /-- CASCADE_VOTE_TIMEOUT (R305). -/
  | cascadeVoteTimeout
  /-- HOST_WAKE_HOLD_EXPIRY (R301). -/
  | hostWakeHoldExpiry
  /-- DAWN_HOST_WAKE (R301). -/
  | dawnHostWake (init : Initiator) (value : Word)
  /-- CAM_VSYNC (R309). -/
  | camVsync
  /-- CAM_FRAME_END (R309). -/
  | camFrameEnd (rows : List (List Nat))
  /-- CAM_NO_SIGNAL (R309). -/
  | camNoSignal
  /-- IPL_COMMIT (R312). -/
  | iplCommit (init : Initiator) (value : Word)
  /-- PRESENCE_MARK (R320). -/
  | presenceMark
  /-- PRESENCE_SCORE (R323). -/
  | presenceScore (score : Fin 256)
  /-- SET_ENABLE (R327). -/
  | setEnable (init : Initiator) (set : Fin 8) (value : Word)
  /-- SAMPLE_DECODE_DONE (R328). -/
  | sampleDecodeDone (set : Fin 8) (mcuRows : Nat) (corrupt : Bool) (symbols : Nat)
  /-- BATCH_WRITE (R327). -/
  | batchWrite (set : Fin 8)
  /-- IPL_SET_ACK (R327). -/
  | iplSetAck (init : Initiator) (set : Fin 8) (value : Word)
  /-- PORT_TRAINING (R338). -/
  | portTraining (p : Fin 2) (ok : Bool)
  /-- PORT_TRAIN_RETRY (R338). -/
  | portTrainRetry (p : Fin 2) (ok : Bool)
  /-- RING_WAIT_EXPIRY (R340). -/
  | ringWaitExpiry
  /-- IDLE (R336). -/
  | flitIdle (p : Fin 2) (flit : Flit)
  /-- WRITE (R344). -/
  | flitWrite (p : Fin 2) (flit : Flit)
  /-- READ_REQ (R344). -/
  | flitReadReq (p : Fin 2) (flit : Flit)
  /-- READ_DATA (R345). -/
  | flitReadData (p : Fin 2) (flit : Flit)
  /-- HELLO (R339). -/
  | flitHello (p : Fin 2) (flit : Flit)
  /-- RING (R339). -/
  | flitRing (p : Fin 2) (flit : Flit)
  /-- STATUS (R347). -/
  | flitStatus (p : Fin 2) (flit : Flit)
  /-- TICK (R346). -/
  | flitTick (p : Fin 2) (flit : Flit)
  /-- RESERVED_FLIT (R336). -/
  | reservedFlit (p : Fin 2) (type : Nat) (flit : Flit)
  /-- REPLAY_TIMEOUT (R337). -/
  | replayTimeout (p : Fin 2)
  /-- TICK_FLIT_TIMEOUT (R346). -/
  | tickFlitTimeout
  /-- PEER_TIMEOUT (R348). -/
  | peerTimeout (p : Fin 2)
  /-- PWR_STATE_REQ (R354). -/
  | pwrStateReq (init : Initiator) (value : Word)
  /-- PWR_VOTE (R353). -/
  | pwrVote (init : Initiator) (client : Fin 5) (value : Word)
  /-- S1_ENTRY (R352). -/
  | s1Entry
  /-- S2_ENTRY (R357). -/
  | s2Entry
  /-- S2_EXIT (R358). -/
  | s2Exit
  /-- S3_ENTRY (R358). -/
  | s3Entry
  /-- S3_EXIT (R358). -/
  | s3Exit
  /-- WAKE_IN_RISE (R354). -/
  | wakeInRise (heldUs : Nat)
  /-- WAKE_TIMER_EXPIRY (R354). -/
  | wakeTimerExpiry
  /-- PMBUS_POWER_GOOD (R361). -/
  | pmbusPowerGood
  /-- PMBUS_TIMEOUT (R362). -/
  | pmbusTimeout
  /-- PMBUS_RETRY (R362). -/
  | pmbusRetry
  /-- THERMAL_SAMPLE (R363). -/
  | thermalSample (temps : List Int)
  /-- THERMAL_DWELL_EXPIRY (R363). -/
  | thermalDwellExpiry
  /-- THERMAL_HOLD_EXPIRY (R363). -/
  | thermalHoldExpiry
  /-- PG_FAIL (R449). -/
  | pgFail (ret : Bool) (lowUs : Nat)
  /-- PG_TIMEOUT (R449). -/
  | pgTimeout (ret : Bool)
  /-- TILE_TIMER_EXPIRY (R368). -/
  | tileTimerExpiry (g : Fin 16)
  /-- LKT_GROVE_STUCK (R369). -/
  | lktGroveStuck (g : Fin 16)
  /-- LKT_DMA_TIMEOUT (R370). -/
  | lktDmaTimeout (swap : Bool) (n : Nat) (written : List Nat)
  /-- LKT_KERNEL_WD (R372). -/
  | lktKernelWd
  /-- LKT_SERVICE_WD (R372). -/
  | lktServiceWd
  /-- LKT_VIDEO_STALL (R372). -/
  | lktVideoStall
  /-- LKT_MISS_LIMIT (R373). -/
  | lktMissLimit (stream : Fin 32)
  /-- LKT_KICK_K (R372). -/
  | lktKickK (init : Initiator) (value : Word)
  /-- LKT_KICK_S (R372). -/
  | lktKickS (init : Initiator) (value : Word)
  /-- LKT_TILE_NS (R368). -/
  | lktTileNs (init : Initiator) (value : Word)
  /-- STANDING_IMAGE_REWRITE (R381). -/
  | standingImageRewrite
  /-- TEST_TILE (R384). -/
  | testTile (g : Fin 16) (delay : Bool) (good : Bool)
  /-- LKT_TEST_REQ (R386). -/
  | lktTestReq (init : Initiator) (value : Word)
  /-- TEST_END (R386). -/
  | testEnd (failed : Nat) (abandoned : Bool)
  /-- MBX_DOORBELL (R391). -/
  | mbxDoorbell (b : Fin 2) (init : Initiator) (value : Word)
  /-- CTX_START (R397). -/
  | ctxStart (b : Fin 2)
  /-- CTX_STOP (R65). -/
  | ctxStop (b : Fin 2)
  /-- CTX_PRIO (R65). -/
  | ctxPrio (b : Fin 2)
  /-- WIN_GRANT (R395). -/
  | winGrant (b : Fin 2)
  /-- WIN_REVOKE (R396). -/
  | winRevoke (b : Fin 2)
  /-- SEQ_GROUP (R191). -/
  | seqGroup (b : Fin 2)
  /-- PKG_LOAD (R403). -/
  | pkgLoad (b : Fin 2)
  /-- RESET (R374). -/
  | mbxReset (b : Fin 2)
  /-- SWAP_RATE (R76). -/
  | swapRate (b : Fin 2)
  /-- TEST (R386). -/
  | mbxTest (b : Fin 2)
  /-- CAM_RING (R313). -/
  | camRing (b : Fin 2)
  /-- ATTEST (R401). -/
  | mbxAttest (b : Fin 2)
  /-- CERT (R400). -/
  | mbxCert (b : Fin 2)
  /-- QP_BIND (R434). -/
  | qpBind (b : Fin 2)
  /-- UPD_OPEN (R427). -/
  | updOpen (b : Fin 2)
  /-- UPD_WRITE (R427). -/
  | updWrite (b : Fin 2)
  /-- UPD_CLOSE (R427). -/
  | updClose (b : Fin 2)
  /-- UPD_COMMIT (R428). -/
  | updCommit (b : Fin 2)
  /-- UPD_ABORT (R427). -/
  | updAbort (b : Fin 2)
  /-- UPD_STATUS (R427). -/
  | updStatus (b : Fin 2)
  /-- OS_READ (R427). -/
  | osRead (b : Fin 2)
  /-- OS_WRITE (R427). -/
  | osWrite (b : Fin 2)
  /-- EVENT_RECORD (R411). -/
  | eventRecord (event : EventReport)
  /-- RATE_WINDOW_END (R415). -/
  | rateWindowEnd
  /-- EVR_SEL (R417). -/
  | evrSel (init : Initiator) (port : Fin 2) (value : Word)
  /-- PERST (R431). -/
  | perst
  /-- FLR (R431). -/
  | flr
  /-- PCIE_LINK_DOWN (R439). -/
  | pcieLinkDown
  /-- PCIE_INBOUND_ACCESS (R432). -/
  | pcieInboundAccess (bar : Fin 3) (kind : AccessKind) (offset : Nat) (size : Nat) (value : Nat)
  /-- PCI_OB_BASE (R433). -/
  | pciObBase (high : Bool) (value : Word)
  /-- QPP_SQ_TAIL (R436). -/
  | qppSqTail (q : Fin 128) (value : Word)
  /-- QPP_CQ_HEAD (R435). -/
  | qppCqHead (q : Fin 128) (value : Word)
  /-- QP_SQ_HEAD (R435). -/
  | qpSqHead (init : Initiator) (q : Fin 128) (value : Word)
  /-- QP_CQ_TAIL (R436). -/
  | qpCqTail (init : Initiator) (q : Fin 128) (value : Word)
  /-- PCI_SQ_PEND (R436). -/
  | pciSqPend (init : Initiator) (group : Fin 4) (value : Word)
  /-- MGT_HELLO (R442). -/
  | mgtHello (d : Datagram)
  /-- OPEN (R405). -/
  | mgtOpen (d : Datagram)
  /-- ENROLL (R405). -/
  | mgtEnroll (d : Datagram)
  /-- CLOSE (R442). -/
  | mgtClose (d : Datagram)
  /-- LOG_READ (R416). -/
  | mgtLogRead (d : Datagram)
  /-- MGT_ATTEST (R401). -/
  | mgtAttest (d : Datagram)
  /-- MGT_CERT (R400). -/
  | mgtCert (d : Datagram)
  /-- MGT_RESET (R374). -/
  | mgtReset (d : Datagram)
  /-- MGT_TEST (R386). -/
  | mgtTest (d : Datagram)
  /-- UPDATE (R427). -/
  | mgtUpdate (d : Datagram)
  /-- CRED_SET (R405). -/
  | mgtCredSet (d : Datagram)
  /-- PLANKEY (R405). -/
  | mgtPlankey (d : Datagram)
  /-- SESSION_TIMEOUT (R442). -/
  | sessionTimeout
  /-- EXTEST (R458). -/
  | tapExtest
  /-- SAMPLE_PRELOAD (R458). -/
  | tapSamplePreload
  /-- IDCODE (R458). -/
  | tapIdcode
  /-- TAP_CLAMP (R458). -/
  | tapClamp
  /-- HIGHZ (R458). -/
  | tapHighz
  /-- BYPASS (R458). -/
  | tapBypass
  /-- POWER_UP (R450). -/
  | powerUp
  /-- POWER_GOOD_RISE (R449). -/
  | powerGoodRise (ret : Bool)
  /-- PMB_ALERT (R449). -/
  | pmbAlert
  /-- PCIE_LINK_UP (R439). -/
  | pcieLinkUp
  /-- MGT_LINK_UP (R444). -/
  | mgtLinkUp
  /-- MGT_LINK_DOWN (R444). -/
  | mgtLinkDown
  /-- ARP_REQUEST (R441). -/
  | arpRequest (senderMac : Nat) (senderIp : Nat) (targetIp : Nat)
  /-- ICMP_ECHO_REQUEST (R441). -/
  | icmpEchoRequest (targetIp : Nat) (rest : List Byte)
  /-- INFOFRAME_CAPTURE (R253). -/
  | infoframeCapture (drm : Bool) (bytes : List Byte)
  /-- BAD_FLIT (R337). -/
  | badFlit (p : Fin 2) (goodCrc : Bool) (flit : Flit)
  deriving DecidableEq, Repr

end Sys2Proof
end

