-- ==== Sys2Proof/Decode.lean ====
section
/-! DEFINITION. The command that a word of the opcode table spells: the table gives no row bits, so no word spells one. -/
namespace Sys2Proof

/-- The command a word spells by the table's bits. Every row of the opcode table has an empty list of fields: the block's
commands have no encoding of their own. -/
def decodeTableWord (_nbits _w : Nat) : Option Instr := none

end Sys2Proof
end

