-- ==== Sys2Proof/Config.lean ====
section
/-! DEFINITION. What one device fixes and the spec leaves open: opaque constants with no body (free values), and the sizes
of Table 1.7. No proof can see a value of an opaque constant. -/
namespace Sys2Proof

/-- A free value (log entry 3): the value the spec leaves open at place `site`, at the `n`-th use of a free value. -/
opaque Config.freeNat (site n : Nat) : Nat
/-- A free value that depends on its operands only (log entry 3). -/
opaque Config.freeFn (site : Nat) (args : List Nat) : Nat
/-- A free integer value that depends on its operands only (log entry 3). -/
opaque Config.freeInt (site : Nat) (args : List Int) : Int
/-- What a byte of RAM holds after power-on or after its contents were lost, `epoch` being the count of such losses
(log entry 4). -/
opaque Config.lostByte (epoch addr : Nat) : Byte
/-- The bytes of the control ROM, which the spec does not list (log entry 5). -/
opaque Config.romByte (addr : Nat) : Byte
/-- The number, within 0x80 to 0xFF, of an event code that Table 20.3 does not list (log entry 6). -/
opaque Config.eventNumber (block site : Nat) : Nat
/-- The bytes of the random generator of the security engine (R389, R404, R405; log entry 7). -/
opaque Config.randomByte (n i : Nat) : Byte
/-- The 256-bit seed of the SRAM PUF (R398; log entry 7). -/
opaque Config.pufSeed : Nat
/-- The fresh helper data that enrolment writes (R399; log entry 7). -/
opaque Config.helperData : List Byte
/-- Whether the fuzzy extractor recovers the seed from this helper data (R398; log entry 7). -/
opaque Config.helperRecovers (helper : List Byte) : Bool
/-- The Jolvaot root public key whose digest control ROM holds (R389; log entry 7). -/
opaque Config.rootKey : List Byte
/-- The signature a signer makes of a digest: the random number of the signing is open (R400, R401; log entry 7). -/
opaque Config.signatureNonce (key digest n : Nat) : Nat
/-- The 16 segments that the device's encoder writes for a payload of a tile of element width code `width`; taken only where
they decode to the payload and are shorter (R209; log entry 17). -/
opaque Config.tileSegments (width : Nat) (payload : List Byte) : List (List Byte)
/-- Whether the encoder writes a payload of zero bytes as a zero tile (R209; log entry 17). -/
opaque Config.zeroAsZero (width : Nat) : Bool
/-- Where the kernel lays the slot of a stored tile, as a tile number in its tier (R206; log entry 18). -/
opaque Config.slotIndex (kind unit index : Nat) : Nat

/-- The magic word of a flash image of a component, which the spec does not give (R424; log entry 24). -/
opaque Config.imageMagic (component : Nat) : Nat

/-- The bytes of Dawn SRAM that the kernel holds back from every plan, whose place and number the spec does not give (R241, R342,
R413, R463; log entry 25). -/
opaque Config.dawnHeld (off : Nat) : Bool

/-- Whether a DisplayPort link at a rate code carries a timing (totals and frame rate in mHz), uncompressed where `bppX16` is 0,
else with DSC at that many bits per pixel in units of 1/16: the spec gives neither the links' payload rates nor their overhead
(R256; log entry 26). -/
opaque Config.linkCarries (rate totalW totalH frameMhz bppX16 : Nat) : Bool
/-- The words of the built-in E-EDID, whose bytes the spec does not list (R254; log entry 27). -/
opaque Config.builtinEdid (i : Nat) : Nat

/-- Free value at `site` held to the range `lo` to `hi` the spec states for it. -/
def Config.freeIn (site n lo hi : Nat) : Nat := lo + Config.freeNat site n % (hi + 1 - lo)

/-- Number of Groves (Table 1.7, GROVE_COUNT). -/
def groveCount : Nat := 16
/-- Tenant contexts (Table 1.7). -/
def contextCount : Nat := 128
/-- Entries of the active sequence table (Table 1.7). -/
def seqEntryCount : Nat := 512
/-- Bytes of one Grove SRAM (Table 1.7). -/
def groveSramBytes : Nat := 0x200000
/-- Bytes of a stored tile's payload (Table 1.7). -/
def tileBytes : Nat := 4096

end Sys2Proof
end

