-- ==== Sys2Proof/Machine/Bits.lean ====
section
/-! DEFINITION. Bit fields, saturating counts, byte order and sparse tables: the plain operations every other file uses. -/
namespace Sys2Proof

/-- Bits `lo + w - 1` to `lo` of a number. -/
def fld (x lo w : Nat) : Nat := (x / 2 ^ lo) % 2 ^ w

/-- `x` with bits `lo + w - 1` to `lo` replaced by the low `w` bits of `v`. -/
def setFld (x lo w v : Nat) : Nat :=
  (x / 2 ^ (lo + w)) * 2 ^ (lo + w) + (v % 2 ^ w) * 2 ^ lo + x % 2 ^ lo

/-- Bit `n` of a number. -/
def bitOf (x n : Nat) : Bool := x / 2 ^ n % 2 == 1

/-- 1 or 0. -/
def b2n (b : Bool) : Nat := if b then 1 else 0

/-- The bits of `xs`, bit i being element i. -/
def maskOf (xs : List Bool) : Nat := xs.foldr (fun b acc => b2n b + 2 * acc) 0

/-- The numbers below `n` whose bit is set in `m`, rising. -/
def bitsOf (n m : Nat) : List Nat := (List.range n).filter (bitOf m)

/-- How many of the low `n` bits of `m` are set. -/
def popCount (n m : Nat) : Nat := (bitsOf n m).length

def ceilDiv (a b : Nat) : Nat := if b = 0 then 0 else (a + b - 1) / b

/-- The least multiple of `b` that is at least `a`. -/
def roundUp (a b : Nat) : Nat := ceilDiv a b * b

/-- A saturating 32-bit count (the Function columns say 'saturating'). -/
def satAdd32 (x n : Nat) : Nat := min (x + n) 0xFFFFFFFF

/-- The little-endian number of a byte list (R4). -/
def leNat : List Byte → Nat
  | [] => 0
  | b :: bs => b.toNat + 256 * leNat bs

/-- The low `n` bytes of a number, least significant first (R4). -/
def leBytes : Nat → Nat → List Byte
  | 0, _ => []
  | n + 1, x => BitVec.ofNat 8 x :: leBytes n (x / 256)

/-- The big-endian number of a byte list (published standards' own formats, R4). -/
def beNat (bs : List Byte) : Nat := leNat bs.reverse
def beBytes (n x : Nat) : List Byte := (leBytes n x).reverse

/-- Two's complement reading of the low `w` bits. -/
def toSigned (w x : Nat) : Int :=
  let y := x % 2 ^ w
  if 2 * y < 2 ^ w then (y : Int) else (y : Int) - (2 ^ w : Nat)

/-- The low `w` bits of an integer, in two's complement. -/
def ofSigned (w : Nat) (i : Int) : Nat := (i % (2 ^ w : Nat)).toNat

/-- `i` held between `lo` and `hi`. -/
def clampInt (lo hi i : Int) : Int := if i < lo then lo else if hi < i then hi else i

/-- Element `i`, or `d`. -/
def nth {α : Type} (d : α) (xs : List α) (i : Nat) : α := xs.getD i d

/-- Cut a list into pieces of `n` (the last may be shorter); `fuel` bounds the number of pieces. -/
def chunks {α : Type} (n : Nat) : Nat → List α → List (List α)
  | 0, _ => []
  | _ + 1, [] => []
  | f + 1, xs => xs.take n :: chunks n f (xs.drop n)

/-- A list padded with `d`, or cut, to length `n`. -/
def padTo {α : Type} (d : α) (n : Nat) (xs : List α) : List α :=
  xs.take n ++ List.replicate (n - xs.length) d

/-- Entry `k` of a sparse table, `d` where it lists none. -/
def tget {α : Type} (d : α) : Tbl α → Nat → α
  | [], _ => d
  | (j, v) :: t, k => if j = k then v else tget d t k

/-- Whether a sparse table lists entry `k`. -/
def thas {α : Type} : Tbl α → Nat → Bool
  | [], _ => false
  | (j, _) :: t, k => if j = k then true else thas t k

/-- Entry `k` of a sparse table, if it lists one. -/
def tfind {α : Type} : Tbl α → Nat → Option α
  | [], _ => none
  | (j, v) :: t, k => if j = k then some v else tfind t k

/-- Sparse table `t` without entry `k`. -/
def tdel {α : Type} : Tbl α → Nat → Tbl α
  | [], _ => []
  | (j, v) :: t, k => if j = k then tdel t k else (j, v) :: tdel t k

/-- Sparse table `t` with entry `k` holding `v`, the numbers still rising. -/
def tput {α : Type} : Tbl α → Nat → α → Tbl α
  | [], k, v => [(k, v)]
  | (j, w) :: t, k, v =>
    if j < k then (j, w) :: tput t k v
    else if j = k then (k, v) :: t
    else (k, v) :: (j, w) :: t

/-- Canonical put: no entry is kept that equals what an unlisted number holds. -/
def tputD {α : Type} [DecidableEq α] (d : α) (t : Tbl α) (k : Nat) (v : α) : Tbl α :=
  if v = d then tdel t k else tput t k v

/-- Apply `f` to entry `k`. -/
def tmod {α : Type} (d : α) (t : Tbl α) (k : Nat) (f : α → α) : Tbl α := tput t k (f (tget d t k))

/-- The canonical form: numbers strictly rising from `lo` on, no entry equal to the default `d k`. -/
def tsorted {α : Type} (lo : Nat) : Tbl α → Bool
  | [] => true
  | (j, _) :: t => decide (lo ≤ j) && tsorted (j + 1) t

/-- No entry of the table equals what its number holds unlisted. -/
def tnoDefault {α : Type} [DecidableEq α] (d : Nat → α) : Tbl α → Bool
  | [] => true
  | (j, v) :: t => decide (v ≠ d j) && tnoDefault d t

/-- Sparse table `t` without the entries whose number satisfies `p`. -/
def tdrop {α : Type} (p : Nat → Bool) : Tbl α → Tbl α
  | [] => []
  | (j, v) :: t => if p j then tdrop p t else (j, v) :: tdrop p t

/-- Every entry changed by `f`. -/
def tmap {α : Type} (f : Nat → α → α) : Tbl α → Tbl α
  | [] => []
  | (j, v) :: t => (j, f j v) :: tmap f t

/-- Fold an operation over the numbers below `n`. -/
def forRange {σ : Type} (n : Nat) (s : σ) (f : σ → Nat → σ) : σ := (List.range n).foldl f s

end Sys2Proof
end

