-- ==== Sys2Proof/Machine/Crypto.lean ====
section
/-! DEFINITION. The cryptography that chapters 2, 11, 19, 21 and 22 name: SHA-384 and HMAC over it, AES-256 with GCM and XTS,
and ECDSA and ECDH on brainpoolP384r1. The standards' own definitions, over numbers. -/
namespace Sys2Proof
open Sys2Proof

/-! ### SHA-384 -/

/-- The round constants of SHA-512 and SHA-384. -/
def sha512K : List Nat :=
  [0x428A2F98D728AE22, 0x7137449123EF65CD, 0xB5C0FBCFEC4D3B2F, 0xE9B5DBA58189DBBC,
   0x3956C25BF348B538, 0x59F111F1B605D019, 0x923F82A4AF194F9B, 0xAB1C5ED5DA6D8118,
   0xD807AA98A3030242, 0x12835B0145706FBE, 0x243185BE4EE4B28C, 0x550C7DC3D5FFB4E2,
   0x72BE5D74F27B896F, 0x80DEB1FE3B1696B1, 0x9BDC06A725C71235, 0xC19BF174CF692694,
   0xE49B69C19EF14AD2, 0xEFBE4786384F25E3, 0x0FC19DC68B8CD5B5, 0x240CA1CC77AC9C65] ++
  [0x2DE92C6F592B0275, 0x4A7484AA6EA6E483, 0x5CB0A9DCBD41FBD4, 0x76F988DA831153B5,
   0x983E5152EE66DFAB, 0xA831C66D2DB43210, 0xB00327C898FB213F, 0xBF597FC7BEEF0EE4,
   0xC6E00BF33DA88FC2, 0xD5A79147930AA725, 0x06CA6351E003826F, 0x142929670A0E6E70,
   0x27B70A8546D22FFC, 0x2E1B21385C26C926, 0x4D2C6DFC5AC42AED, 0x53380D139D95B3DF,
   0x650A73548BAF63DE, 0x766A0ABB3C77B2A8, 0x81C2C92E47EDAEE6, 0x92722C851482353B] ++
  [0xA2BFE8A14CF10364, 0xA81A664BBC423001, 0xC24B8B70D0F89791, 0xC76C51A30654BE30,
   0xD192E819D6EF5218, 0xD69906245565A910, 0xF40E35855771202A, 0x106AA07032BBD1B8,
   0x19A4C116B8D2D0C8, 0x1E376C085141AB53, 0x2748774CDF8EEB99, 0x34B0BCB5E19B48A8,
   0x391C0CB3C5C95A63, 0x4ED8AA4AE3418ACB, 0x5B9CCA4F7763E373, 0x682E6FF3D6B2B8A3,
   0x748F82EE5DEFB2FC, 0x78A5636F43172F60, 0x84C87814A1F0AB72, 0x8CC702081A6439EC] ++
  [0x90BEFFFA23631E28, 0xA4506CEBDE82BDE9, 0xBEF9A3F7B2C67915, 0xC67178F2E372532B,
   0xCA273ECEEA26619C, 0xD186B8C721C0C207, 0xEADA7DD6CDE0EB1E, 0xF57D4F7FEE6ED178,
   0x06F067AA72176FBA, 0x0A637DC5A2C898A6, 0x113F9804BEF90DAE, 0x1B710B35131C471B,
   0x28DB77F523047D84, 0x32CAAB7B40C72493, 0x3C9EBE0A15C9BEBC, 0x431D67C49C100D4C,
   0x4CC5D4BECB3E42B6, 0x597F299CFC657E2A, 0x5FCB6FAB3AD6FAEC, 0x6C44198C4A475817]
/-- The initial hash value of SHA-384. -/
def sha384H : List Nat :=
  [0xCBBB9D5DC1059ED8, 0x629A292A367CD507, 0x9159015A3070DD17, 0x152FECD8F70E5939,
   0x67332667FFC00B31, 0x8EB44A8768581511, 0xDB0C2E0D64F98FA7, 0x47B5481DBEFA4FA4]

def rotr64 (x n : Nat) : Nat := x / 2 ^ n + x % 2 ^ n * 2 ^ (64 - n)
def add64 (a b : Nat) : Nat := (a + b) % 2 ^ 64
def not64 (a : Nat) : Nat := 2 ^ 64 - 1 - a

/-- The message schedule, newest word first. -/
def shaSchedule : Nat → List Nat → List Nat
  | 0, w => w
  | n + 1, w =>
    let a := nth 0 w 1
    let b := nth 0 w 14
    let s1 := rotr64 a 19 ^^^ rotr64 a 61 ^^^ (a / 2 ^ 6)
    let s0 := rotr64 b 1 ^^^ rotr64 b 8 ^^^ (b / 2 ^ 7)
    shaSchedule n (add64 (add64 s1 (nth 0 w 6)) (add64 s0 (nth 0 w 15)) :: w)

/-- One round on the eight working variables. -/
def shaRound (v : List Nat) (kw : Nat × Nat) : List Nat :=
  match v with
  | [a, b, c, d, e, f, g, h] =>
    let s1 := rotr64 e 14 ^^^ rotr64 e 18 ^^^ rotr64 e 41
    let ch := (e &&& f) ^^^ (not64 e &&& g)
    let t1 := add64 (add64 (add64 h s1) ch) (add64 kw.1 kw.2)
    let s0 := rotr64 a 28 ^^^ rotr64 a 34 ^^^ rotr64 a 39
    let mj := (a &&& b) ^^^ (a &&& c) ^^^ (b &&& c)
    [add64 t1 (add64 s0 mj), a, b, c, add64 d t1, e, f, g]
  | _ => v

/-- One block of 128 bytes. -/
def shaBlock (h : List Nat) (b : List Byte) : List Nat :=
  let w0 := ((List.range 16).map (fun i => beNat ((b.drop (8 * i)).take 8))).reverse
  let w := (shaSchedule 64 w0).reverse
  let v := (sha512K.zip w).foldl shaRound h
  (h.zip v).map (fun p => add64 p.1 p.2)

/-- The padded message. -/
def shaPad (m : List Byte) : List Byte :=
  let n := m.length
  m ++ [0x80] ++ List.replicate ((239 - n % 128) % 128) 0 ++ beBytes 16 (8 * n)

/-- The SHA-384 digest, 48 bytes. -/
def sha384 (m : List Byte) : List Byte :=
  let p := shaPad m
  let h := (chunks 128 (p.length / 128) p).foldl shaBlock sha384H
  (h.take 6).flatMap (beBytes 8)

/-- HMAC-SHA-384. -/
def hmac384 (key m : List Byte) : List Byte :=
  let k := padTo 0 128 (if 128 < key.length then sha384 key else key)
  sha384 (k.map (· ^^^ 0x5C) ++ sha384 (k.map (· ^^^ 0x36) ++ m))

/-! ### AES-256 -/

/-- Multiplication by x in GF(2⁸). -/
def gfX (a : Nat) : Nat := if a < 128 then 2 * a else (2 * a - 256) ^^^ 0x1B
/-- Multiplication in GF(2⁸) by shift and add, over the 8 bits of `b`. -/
def gfMulAux : Nat → Nat → Nat → Nat
  | 0, _, _ => 0
  | n + 1, a, b => (if b % 2 = 1 then a else 0) ^^^ gfMulAux n (gfX a) (b / 2)
def gfMul (a b : Nat) : Nat := gfMulAux 8 a b
/-- The S-box of AES (FIPS-197, figure 7): entry n holds row n, its first byte lowest. -/
def sboxRows : List Nat :=
  [0x76ABD7FE2B670130C56F6BF27B777C63, 0xC072A49CAFA2D4ADF04759FA7DC982CA, 0x1531D871F1E5A534CCF73F362693FDB7,
   0x75B227EBE28012079A059618C323C704, 0x842FE329B3D63B52A05A6E1B1A2C8309, 0xCF584C4A39BECB6A5BB1FC20ED00D153,
   0xA89F3C507F02F94585334D43FBAAEFD0, 0xD2F3FF1021DAB6BCF5389D928F40A351, 0x73195D643D7EA7C41744975FEC130CCD,
   0xDB0B5EDE14B8EE4688902A22DC4F8160, 0x79E4959162ACD3C25C2406490A3A32E0, 0x8AE7A65EAF4566CA94ED58D6D37C8E7,
   0x8A8BBD4B1F74DDE8C6B4A61C2E2578BA, 0x9E1DC186B95735610EF6034866B53E70, 0xDF2855CEE9871E9B948ED9691198F8E1,
   0x16BB54B00F2D99416842E6BF0D89A18C]
/-- The inverse S-box of AES (FIPS-197, figure 14). -/
def sboxInvRows : List Nat :=
  [0xFBD7F3819EA340BF38A53630D56A0952, 0xCBE9DEC444438E3487FF2F9B8239E37C, 0x4EC3FA420B954CEE3D23C2A632947B54,
   0x25D18B6D49A25B76B224D92866A12E08, 0x92B6655DCC5CA4D41698688664F6F872, 0x849D8DA75746155EDAB9EDFD5048706C,
   0x645B3B80558E4F70AD3BC8C00ABD890, 0x6B8A130103BDAFC1020F3FCA8F1E2CD0, 0x73E6B4F0CECFF297EADC674F4111913A,
   0x6EDF751CE837F9E28535ADE72274AC96, 0x1BBE18AA0E62B76F89C5291D711AF147, 0xF45ACD78FEC0DB9A2079D2C64B3E56FC,
   0x5FEC8027591012B131C7078833A8DD1F, 0xEF9CC9939F7AE52D0D4AB519A97F5160, 0x619953833CBBEBC8B0F52AAE4D3BE0A0,
   0x7D0C2155631469E126D677BA7E042B17]
def aesSub (a : Nat) : Nat := nth 0 sboxRows (a / 16) / 2 ^ (8 * (a % 16)) % 256
def aesSubInv (a : Nat) : Nat := nth 0 sboxInvRows (a / 16) / 2 ^ (8 * (a % 16)) % 256

def xorList : List Nat → List Nat → List Nat
  | a :: as, b :: bs => (a ^^^ b) :: xorList as bs
  | _, _ => []

/-- The round-key words of AES-256, newest first; `n` more words to make. -/
def aesExpand : Nat → Nat → Nat → List (List Nat) → List (List Nat)
  | 0, _, _, w => w
  | n + 1, i, rc, w =>
    let t := w.headD []
    let old := nth [] w 7
    if i % 8 = 0 then
      let r := match t with | [a, b, c, d] => [aesSub b ^^^ rc, aesSub c, aesSub d, aesSub a] | x => x
      aesExpand n (i + 1) (gfX rc) (xorList old r :: w)
    else if i % 8 = 4 then aesExpand n (i + 1) rc (xorList old (t.map aesSub) :: w)
    else aesExpand n (i + 1) rc (xorList old t :: w)

/-- The 15 round keys of 16 bytes of a 32-byte key. -/
def aesKeys (key : List Nat) : List (List Nat) :=
  let w := (aesExpand 52 8 1 ((chunks 4 8 key).reverse)).reverse
  (List.range 15).map (fun r => ((w.drop (4 * r)).take 4).flatten)

def aesShift (s : List Nat) : List Nat := (List.range 16).map (fun i => nth 0 s ((i + 4 * (i % 4)) % 16))
def aesShiftInv (s : List Nat) : List Nat := (List.range 16).map (fun i => nth 0 s ((i + 16 - 4 * (i % 4)) % 16))
/-- A column mix with the coefficients of one row. -/
def aesMixWith (k : List Nat) (s : List Nat) : List Nat :=
  (List.range 16).map (fun i =>
    let c := i / 4 * 4
    ((List.range 4).map (fun j => gfMul (nth 0 k ((4 + j - i % 4) % 4)) (nth 0 s (c + j)))).foldl (· ^^^ ·) 0)
def aesMix : List Nat → List Nat := aesMixWith [2, 3, 1, 1]
def aesMixInv : List Nat → List Nat := aesMixWith [14, 11, 13, 9]

/-- AES-256 encryption of one block under expanded keys. -/
def aesEncrypt (ks : List (List Nat)) (b : List Nat) : List Nat :=
  let mid := ((ks.drop 1).take 13).foldl (fun s k => xorList (aesMix (aesShift (s.map aesSub))) k) (xorList b (ks.headD []))
  xorList (aesShift (mid.map aesSub)) (ks.getLastD [])
/-- AES-256 decryption of one block under expanded keys. -/
def aesDecrypt (ks : List (List Nat)) (b : List Nat) : List Nat :=
  let mid := ((ks.drop 1).take 13).reverse.foldl (fun s k => aesMixInv (xorList ((aesShiftInv s).map aesSubInv) k))
    (xorList b (ks.getLastD []))
  xorList ((aesShiftInv mid).map aesSubInv) (ks.headD [])

def byteNats (bs : List Byte) : List Nat := bs.map (·.toNat)
def natBytes (xs : List Nat) : List Byte := xs.map (BitVec.ofNat 8)

/-! ### GCM -/

/-- Multiplication in GF(2¹²⁸) of GHASH, bit 0 being the most significant. -/
def ghashMulAux : Nat → Nat → Nat → Nat → Nat
  | 0, _, _, z => z
  | n + 1, x, v, z =>
    let z := if x / 2 ^ n % 2 = 1 then z ^^^ v else z
    let v := if v % 2 = 1 then (v / 2) ^^^ 0xE1000000000000000000000000000000 else v / 2
    ghashMulAux n x v z
def ghashMul (x h : Nat) : Nat := ghashMulAux 128 x h 0

/-- Bytes padded with zeros to whole blocks. -/
def padBlocks (bs : List Byte) : List Byte := bs ++ List.replicate ((16 - bs.length % 16) % 16) 0

/-- GHASH of additional data and ciphertext. -/
def ghash (h : Nat) (aad ct : List Byte) : Nat :=
  let m := padBlocks aad ++ padBlocks ct ++ beBytes 8 (8 * aad.length) ++ beBytes 8 (8 * ct.length)
  (chunks 16 (m.length / 16) m).foldl (fun y b => ghashMul (y ^^^ beNat b) h) 0

/-- Counter mode from a counter block number. -/
def gcmStream (ks : List (List Nat)) (iv : List Byte) (ct : List Byte) : List Byte :=
  let n := (ct.length + 15) / 16
  let pad := (List.range n).flatMap (fun i => natBytes (aesEncrypt ks (byteNats (iv ++ beBytes 4 (i + 2)))))
  (ct.zip pad).map (fun p => p.1 ^^^ p.2)

/-- AES-256-GCM decryption with a 12-byte IV: none where the tag fails. -/
def gcmDecrypt (key iv aad ct tag : List Byte) : Option (List Byte) :=
  let ks := aesKeys (byteNats key)
  let h := beNat (natBytes (aesEncrypt ks (List.replicate 16 0)))
  let t := ghash h aad ct ^^^ beNat (natBytes (aesEncrypt ks (byteNats (iv ++ beBytes 4 1))))
  if beBytes 16 t = tag then some (gcmStream ks iv ct) else none

/-! ### XTS -/

/-- The tweak of the next block. -/
def xtsNext (t : Nat) : Nat := if t < 2 ^ 127 then 2 * t else (2 * t - 2 ^ 128) ^^^ 0x87

/-- The blocks of a data unit under a block function and a running tweak (little-endian numbers). -/
def xtsRun (f : List Nat → List Nat) : Nat → List (List Byte) → List Byte
  | _, [] => []
  | t, b :: bs =>
    let tb := byteNats (leBytes 16 t)
    natBytes (xorList (f (xorList (byteNats b) tb)) tb) ++ xtsRun f (xtsNext t) bs

/-- One data unit of AES-256-XTS (IEEE 1619): the 64-byte key pair as a number, the tweak number, and whole blocks. -/
def xts (decrypt : Bool) (keyPair tweak : Nat) (bs : List Byte) : List Byte :=
  let kb := leBytes 64 keyPair
  let k1 := aesKeys (byteNats (kb.take 32))
  let k2 := aesKeys (byteNats (kb.drop 32))
  let t := leNat (natBytes (aesEncrypt k2 (byteNats (leBytes 16 tweak))))
  xtsRun (if decrypt then aesDecrypt k1 else aesEncrypt k1) t (chunks 16 (bs.length / 16) bs)

/-! ### brainpoolP384r1 -/

def ecP : Nat := 0x8CB91E82A3386D280F5D6F7E50E641DF152F7109ED5456B412B1DA197FB71123ACD3A729901D1A71874700133107EC53
def ecA : Nat := 0x7BC382C63D8C150C3C72080ACE05AFA0C2BEA28E4FB22787139165EFBA91F90F8AA5814A503AD4EB04A8C7DD22CE2826
def ecB : Nat := 0x04A8C7DD22CE28268B39B55416F0447C2FB77DE107DCD2A62E880EA53EEB62D57CB4390295DBC9943AB78696FA504C11
def ecGx : Nat := 0x1D1C64F068CF45FFA2A63A81B7C13F6B8847A3E77EF14FE3DB7FCAFE0CBD10E8E826E03436D646AAEF87B2E247D4AF1E
def ecGy : Nat := 0x8ABE1D7520F9C2A45CB1EB8E95CFD55262B70B29FEEC5864E19C054FF99129280E4646217791811142820341263C5315
/-- The group order. -/
def ecN : Nat := 0x8CB91E82A3386D280F5D6F7E50E641DF152F7109ED5456B31F166E6CAC0425A7CF3AB6AF6B7FC3103B883202E9046565

/-- b^e mod m, over `n` bits of the exponent. -/
def powMod (m : Nat) : Nat → Nat → Nat → Nat
  | 0, _, _ => 1 % m
  | n + 1, b, e => (if e % 2 = 1 then b else 1) * powMod m n (b * b % m) (e / 2) % m
/-- The inverse modulo a prime of 384 bits. -/
def invMod (m x : Nat) : Nat := powMod m 384 (x % m) (m - 2)
def subMod (m a b : Nat) : Nat := (a % m + m - b % m) % m

/-- Point addition; none is the point at infinity. -/
def ecAdd : Option (Nat × Nat) → Option (Nat × Nat) → Option (Nat × Nat)
  | none, q => q
  | p, none => p
  | some (x1, y1), some (x2, y2) =>
    if x1 = x2 ∧ (y1 + y2) % ecP = 0 then none
    else
      let l := if x1 = x2 then (3 * x1 * x1 + ecA) * invMod ecP (2 * y1) % ecP
               else subMod ecP y2 y1 * invMod ecP (subMod ecP x2 x1) % ecP
      let x3 := subMod ecP (l * l) (x1 + x2)
      some (x3, subMod ecP (l * subMod ecP x1 x3) y1)

/-- Scalar multiplication over `n` bits. -/
def ecMulAux : Nat → Nat → Option (Nat × Nat) → Option (Nat × Nat)
  | 0, _, _ => none
  | n + 1, k, p => ecAdd (if k % 2 = 1 then p else none) (ecMulAux n (k / 2) (ecAdd p p))
def ecMul (k : Nat) (p : Option (Nat × Nat)) : Option (Nat × Nat) := ecMulAux 384 k p
def ecG : Option (Nat × Nat) := some (ecGx, ecGy)

/-- Whether a point is on the curve. -/
def ecOn (x y : Nat) : Bool := decide (x < ecP) && decide (y < ecP) && y * y % ecP == (x * x * x + ecA * x + ecB) % ecP

/-- A public key as 0x04, X and Y (R389). -/
def keyBytes : Option (Nat × Nat) → List Byte
  | some (x, y) => [0x04] ++ beBytes 48 x ++ beBytes 48 y
  | none => []
/-- A public key zero-padded to 112 bytes (R389). -/
def keyPadded (p : Option (Nat × Nat)) : List Byte := padTo 0 112 (keyBytes p)
/-- Read a public key; none where it is no point of the curve. -/
def readKey (b : List Byte) : Option (Nat × Nat) :=
  let x := beNat ((b.drop 1).take 48)
  let y := beNat ((b.drop 49).take 48)
  if b.headD 0 = 0x04 ∧ ecOn x y = true then some (x, y) else none

/-- ECDSA verification of a message under SHA-384. -/
def ecdsaVerify (key : List Byte) (m : List Byte) (r s : Nat) : Bool :=
  match readKey key with
  | none => false
  | some q =>
    if r = 0 ∨ ecN ≤ r ∨ s = 0 ∨ ecN ≤ s then false
    else
      let e := beNat (sha384 m)
      let w := invMod ecN s
      match ecAdd (ecMul (e * w % ecN) ecG) (ecMul (r * w % ecN) (some q)) with
      | some (x, _) => x % ecN == r
      | none => false

/-- ECDSA signing with a nonce. -/
def ecdsaSign (d k : Nat) (m : List Byte) : Nat × Nat :=
  match ecMul k ecG with
  | some (x, _) =>
    let r := x % ecN
    (r, invMod ecN k * (beNat (sha384 m) + r * d) % ecN)
  | none => (0, 0)

/-- The shared X coordinate of ECDH, as 48 bytes. -/
def ecdhZ (d : Nat) (key : List Byte) : Option (List Byte) :=
  ((readKey key).bind (fun q => ecMul d (some q))).map (fun p => beBytes 48 p.1)

/-! ### CRC-32 of IEEE 802.3 (R207, R336) -/

def crcBits : Nat → Nat → Nat
  | 0, c => c
  | n + 1, c => crcBits n (if c % 2 = 1 then (c / 2) ^^^ 0xEDB88320 else c / 2)
/-- The CRC-32 of a byte string. -/
def crc32 (bs : List Byte) : Nat := (bs.foldl (fun c b => crcBits 8 (c ^^^ b.toNat)) 0xFFFFFFFF) ^^^ 0xFFFFFFFF

end Sys2Proof
end

