-- ==== Sys2Proof/Machine/Arith.lean ====
section
/-! DEFINITION. The number formats, exact arithmetic and roundings of chapter 5 (R109 to R126). A finite value is a sign, a
magnitude and a power of two; every rounding is a rounding of an exact value. -/
namespace Sys2Proof

/-- A value of a floating-point or integer format: NaN, an infinity, or (−1)^neg × m × 2^e. -/
inductive Fp where
  | nan
  | inf (neg : Bool)
  | fin (neg : Bool) (m : Nat) (e : Int)
  deriving DecidableEq, Repr

/-- m × 2^d, rounded down when d is negative. -/
def shiftNat (m : Nat) (d : Int) : Nat := if d < 0 then m / 2 ^ (-d).toNat else m * 2 ^ d.toNat

/-- Numerator and denominator of (n / d) × 2^e. -/
def scaleFrac (n d : Nat) (e : Int) : Nat × Nat := if e < 0 then (n, d * 2 ^ (-e).toNat) else (n * 2 ^ e.toNat, d)

/-- n / d rounded to the nearest integer, ties to even. -/
def rneDiv (n d : Nat) : Nat :=
  let q := n / d
  let r := n % d
  if 2 * r < d then q else if d < 2 * r then q + 1 else if q % 2 = 0 then q else q + 1

/-- floor(log₂(n / d)) for positive n and d. -/
def log2Frac (n d : Nat) : Int :=
  let k : Int := (Nat.log2 n : Int) - (Nat.log2 d : Int)
  let (a, b) := scaleFrac n d (-k)
  if a < b then k - 1 else k

/-- (n / d) × 2^e rounded to nearest even with `p` bits of precision and no exponent below `emin`: a magnitude and its
exponent. -/
def roundFrac (p : Nat) (emin : Int) (n d : Nat) (e : Int) : Nat × Int :=
  if n = 0 then (0, emin)
  else
    let k := log2Frac n d + e
    let q := max (k - ((p : Int) - 1)) emin
    let (a, b) := scaleFrac n d (e - q)
    (rneDiv a b, q)

/-- Whether m × 2^e is at least 2^k. -/
def geExp2 (m : Nat) (e k : Int) : Bool :=
  if m = 0 then false else decide (k ≤ (Nat.log2 m : Int) + e)

/-- An exact value rounded to FP32, nearest even; beyond range it is an infinity (R120). -/
def fp32OfFrac (neg : Bool) (n d : Nat) (e : Int) : Fp :=
  let (m, q) := roundFrac 24 (-149) n d e
  if geExp2 m q 128 then .inf neg else .fin neg m q

/-- The exact sum of two dyadic numbers, as a signed magnitude and an exponent. -/
def addDyadic (a : Int) (ea : Int) (b : Int) (eb : Int) : Int × Int :=
  let e := min ea eb
  (a * 2 ^ (ea - e).toNat + b * 2 ^ (eb - e).toNat, e)

def signInt (neg : Bool) (m : Nat) : Int := if neg then -(m : Int) else (m : Int)

/-- A signed dyadic number rounded to FP32; an exact zero is −0 only when `negZero` says so. -/
def fp32OfDyadic (v : Int) (e : Int) (negZero : Bool) : Fp :=
  if v = 0 then .fin negZero 0 0 else fp32OfFrac (decide (v < 0)) v.natAbs 1 e

/-- IEEE 754 addition with rounding to nearest even (R120, R124). -/
def fp32Add : Fp → Fp → Fp
  | .nan, _ => .nan
  | _, .nan => .nan
  | .inf a, .inf b => if a = b then .inf a else .nan
  | .inf a, .fin _ _ _ => .inf a
  | .fin _ _ _, .inf b => .inf b
  | .fin a m e, .fin b n f =>
    let (v, g) := addDyadic (signInt a m) e (signInt b n) f
    fp32OfDyadic v g (a && b)

/-- IEEE 754 a × b + c, rounded once (R124). -/
def fp32Fma : Fp → Fp → Fp → Fp
  | .nan, _, _ => .nan
  | _, .nan, _ => .nan
  | .inf a, .fin b m _, c =>
    if m = 0 then .nan else match c with
      | .nan => .nan
      | .inf x => if x = (a != b) then .inf x else .nan
      | .fin _ _ _ => .inf (a != b)
  | .fin a m _, .inf b, c =>
    if m = 0 then .nan else match c with
      | .nan => .nan
      | .inf x => if x = (a != b) then .inf x else .nan
      | .fin _ _ _ => .inf (a != b)
  | .inf a, .inf b, c =>
    match c with
      | .nan => .nan
      | .inf x => if x = (a != b) then .inf x else .nan
      | .fin _ _ _ => .inf (a != b)
  | .fin _ _ _, .fin _ _ _, .nan => .nan
  | .fin _ _ _, .fin _ _ _, .inf x => .inf x
  | .fin a m e, .fin b n f, .fin c o g =>
    let pneg := a != b
    let (v, h) := addDyadic (signInt pneg (m * n)) (e + f) (signInt c o) g
    fp32OfDyadic v h (pneg && c)

def fpNegZero : Fp := .fin true 0 0
def fpZero : Fp := .fin false 0 0
def fpOne : Fp := .fin false 1 0
/-- a × b rounded once: the sum with −0 keeps the product's own zero sign (R124). -/
def fp32Mul (a b : Fp) : Fp :=
  match a, b with
  | .fin x m _, .fin y n _ => if m * n = 0 then .fin (x != y) 0 0 else fp32Fma a b fpNegZero
  | _, _ => fp32Fma a b fpZero

def Fp.neg : Fp → Fp
  | .nan => .nan
  | .inf s => .inf !s
  | .fin s m e => .fin (!s) m e

/-- Whether a finite value is zero. -/
def Fp.isZero : Fp → Bool
  | .fin _ m _ => m == 0
  | _ => false
def Fp.isNan : Fp → Bool
  | .nan => true
  | _ => false
def Fp.isInf : Fp → Bool
  | .inf _ => true
  | _ => false
def Fp.isNeg : Fp → Bool
  | .inf s => s
  | .fin s _ _ => s
  | .nan => false

/-- 1 / a rounded once (R124); of an infinity and of zero as IEEE 754 gives it (log entry 11). -/
def fp32Rcp : Fp → Fp
  | .nan => .nan
  | .inf s => .fin s 0 0
  | .fin s m e => if m = 0 then .inf s else fp32OfFrac s 1 m (-e)

/-- Order of two values that are no NaN, −0 below +0 (R124). -/
def fpLt : Fp → Fp → Bool
  | .inf a, .inf b => a && !b
  | .inf a, _ => a
  | _, .inf b => !b
  | .fin a m e, .fin b n f =>
    if m = 0 ∧ n = 0 then a && !b
    else
      let (v, _) := addDyadic (signInt a m) e (-(signInt b n)) f
      decide (v < 0)
  | _, _ => false

/-- MAX and MIN (R124). -/
def fp32Max (a b : Fp) : Fp := if a.isNan || b.isNan then .nan else if fpLt a b then b else a
def fp32Min (a b : Fp) : Fp := if a.isNan || b.isNan then .nan else if fpLt b a then b else a

/-! ### Formats (Table 5.1) -/

/-- Element width in bits by format code; 0 for the reserved code (R109). -/
def fmtBits (f : Nat) : Nat := nth 0 [4, 4, 8, 8, 16, 32, 4, 6, 6, 8, 8, 16, 16, 32, 8, 0] f

/-- Exponent bits, mantissa bits and bias of a floating-point format code 0x6 to 0xD. -/
def fmtFloat (f : Nat) : Nat × Nat × Nat :=
  nth (8, 23, 127) [(2, 1, 1), (2, 3, 1), (3, 2, 3), (4, 3, 7), (5, 2, 15), (8, 7, 127), (5, 10, 15), (8, 23, 127)] (f - 6)

/-- Decode a floating-point element (R109, R110). -/
def decodeFloat (f x : Nat) : Fp :=
  let (eb, mb, bias) := fmtFloat f
  let neg := bitOf x (eb + mb)
  let e := fld x mb eb
  let m := fld x 0 mb
  let top := e == 2 ^ eb - 1
  if f == 9 && top && m == 7 then .nan
  else if (f == 0xA || f == 0xB || f == 0xC || f == 0xD) && top then (if m = 0 then .inf neg else .nan)
  else if e = 0 then .fin neg m (1 - (bias : Int) - (mb : Int))
  else .fin neg (2 ^ mb + m) ((e : Int) - (bias : Int) - (mb : Int))

/-- Decode an element of any format as a value, with no zero point (R109); E8M0 is a scale and reserved codes read as NaN. -/
def decodeFmt (f x : Nat) : Fp :=
  match f with
  | 0 => let v := toSigned 4 x; .fin (decide (v < 0)) v.natAbs 0
  | 1 => .fin false (x % 16) 0
  | 2 => let v := toSigned 8 x; .fin (decide (v < 0)) v.natAbs 0
  | 3 => .fin false (x % 256) 0
  | 4 => let v := toSigned 16 x; .fin (decide (v < 0)) v.natAbs 0
  | 5 => let v := toSigned 32 x; .fin (decide (v < 0)) v.natAbs 0
  | 0xE => if x % 256 = 255 then .nan else .fin false 1 ((x % 256 : Nat) - 127 : Int)
  | 0xF => .nan
  | _ => decodeFloat f x

/-- The bits of a finite value that a format with these fields represents exactly. -/
def encodeFields (eb mb bias : Nat) (neg : Bool) (m : Nat) (e : Int) : Nat :=
  let s := b2n neg * 2 ^ (eb + mb)
  if m = 0 then s
  else
    let k : Int := (Nat.log2 m : Int) + e
    let emin : Int := 1 - (bias : Int)
    if k < emin then s + shiftNat m (e - (emin - (mb : Int)))
    else s + (k + (bias : Int)).toNat * 2 ^ mb + (shiftNat m (e - (k - (mb : Int))) - 2 ^ mb)

/-- FP32 bits of a value, the canonical NaN for a NaN (Table 5.4). -/
def fp32Bits : Fp → Nat
  | .nan => 0x7FC00000
  | .inf s => 0x7F800000 + b2n s * 2 ^ 31
  | .fin s m e => encodeFields 8 23 127 s m e

/-- The value of FP32 bits. -/
def fp32Of (x : Nat) : Fp := decodeFloat 0xD x

/-- The largest finite magnitude of a floating-point format as a magnitude and exponent (Table 5.1). -/
def fmtMax (f : Nat) : Nat × Int :=
  nth (0, 0) [(6, 0), (15, -1), (28, 0), (448, 0), (57344, 0), (255, 120), (65504, 0), (16777215, 104)] (f - 6)

/-- The bits of an infinite result by format and sign (Table 5.4). -/
def infBits (f : Nat) (neg : Bool) : Nat :=
  let s := b2n neg
  match f with
  | 0xA => 0x7C + s * 0x80
  | 0xB => 0x7F80 + s * 0x8000
  | 0xC => 0x7C00 + s * 0x8000
  | 0xD => 0x7F800000 + s * 2 ^ 31
  | _ => let (eb, mb, bias) := fmtFloat f; let (m, e) := fmtMax f; encodeFields eb mb bias neg m e

/-- The canonical NaN by format (Table 5.4). -/
def nanBits (f : Nat) : Nat :=
  match f with
  | 9 => 0x7F
  | 0xA => 0x7F
  | 0xB => 0x7FC0
  | 0xC => 0x7E00
  | 0xD => 0x7FC00000
  | _ => 0

/-- The range of an integer format (Table 5.1). -/
def intRange (f : Nat) : Int × Int :=
  nth (0, 0) [(-8, 7), (0, 15), (-128, 127), (0, 255), (-32768, 32767)] f

/-- Output conversion (R125, Table 5.4): the bits, and whether the result was beyond range. -/
def convertOut (f : Nat) (v : Fp) : Nat × Bool :=
  if f ≤ 4 then
    let (lo, hi) := intRange f
    match v with
    | .nan => (0, false)
    | .inf s => (ofSigned (fmtBits f) (if s then lo else hi), false)
    | .fin s m e =>
      let (n, d) := scaleFrac m 1 e
      let i := signInt s (rneDiv n d)
      (ofSigned (fmtBits f) (clampInt lo hi i), decide (i < lo ∨ hi < i))
  else
    let (eb, mb, bias) := fmtFloat f
    match v with
    | .nan => (nanBits f, false)
    | .inf s => (infBits f s, false)
    | .fin s m e =>
      let (q, h) := roundFrac (mb + 1) (1 - (bias : Int) - (mb : Int)) m 1 e
      let (mx, me) := fmtMax f
      let (diff, _) := addDyadic (q : Int) h (-(mx : Int)) me
      if f = 0xD then (encodeFields eb mb bias s m e, false)
      else if 0 < diff then (encodeFields eb mb bias s mx me, true)
      else (encodeFields eb mb bias s q h, false)

/-! ### Dot products (R112 to R123) -/

/-- The four terms of a k-group and the product of its group factors; `none` is a NaN scale (R119). -/
structure KGroup where
  terms : List (Fp × Fp)
  factor : Option (Int × Int)
  deriving Repr

/-- The exact value of a term's product, zero for special operands. -/
def termValue (t : Fp × Fp) : Int × Int :=
  match t with
  | (.fin a m e, .fin b n f) => (signInt (a != b) (m * n), e + f)
  | _ => (0, 0)

/-- The exact sum of a list of dyadic numbers. -/
def sumDyadic (xs : List (Int × Int)) : Int × Int := xs.foldl (fun acc x => addDyadic acc.1 acc.2 x.1 x.2) (0, 0)

/-- Whether every product of a k-group is −0 (R120). -/
def allNegZero (g : KGroup) : Bool :=
  g.terms.all (fun t => match t with
    | (.fin a m _, .fin b n _) => (m * n == 0) && ((a != b) != decide ((g.factor.getD (1, 0)).1 < 0))
    | _ => false)

/-- The exact contribution of a k-group. -/
def KGroup.value (g : KGroup) : Int × Int :=
  let (v, e) := sumDyadic (g.terms.map termValue)
  let (f, h) := g.factor.getD (0, 0)
  (v * f, e + h)

/-- The class of a term under R116: 0 finite, 1 NaN, 2 positive infinity, 3 negative infinity. -/
def termClass (scaleNeg scaleZero : Bool) (t : Fp × Fp) : Nat :=
  match t with
  | (.nan, _) => 1
  | (_, .nan) => 1
  | (.inf a, .inf b) => if scaleZero then 1 else if (a != b) != scaleNeg then 3 else 2
  | (.inf a, .fin b m _) => if m = 0 ∨ scaleZero then 1 else if (a != b) != scaleNeg then 3 else 2
  | (.fin a m _, .inf b) => if m = 0 ∨ scaleZero then 1 else if (a != b) != scaleNeg then 3 else 2
  | (.fin _ _ _, .fin _ _ _) => 0

/-- The special result of a dot product under R116, if any operand is special. -/
def specialResult (acc : Fp) (gs : List KGroup) : Option Fp :=
  let cls := gs.flatMap (fun g => match g.factor with
    | Option.none => [1]
    | some (f, _) => g.terms.map (termClass (decide (f < 0)) (f == 0)))
  let accCls := match acc with | .nan => 1 | .inf true => 3 | .inf false => 2 | .fin _ _ _ => 0
  let all := accCls :: cls
  if all.contains 1 || (all.contains 2 && all.contains 3) then some .nan
  else if all.contains 2 then some (.inf false)
  else if all.contains 3 then some (.inf true)
  else Option.none

/-- The reference model of R120. -/
def dotReference (acc : Fp) (gs : List KGroup) : Fp :=
  gs.foldl (fun acc g =>
    let (v, e) := g.value
    fp32Add acc (fp32OfDyadic v e (allNegZero g))) acc

/-- The bound of R121 on |result − exact|, as a dyadic fraction compared by cross multiplication: n roundings, u = 2⁻²⁴. -/
def withinAccBound (acc : Fp) (gs : List KGroup) (r : Fp) : Bool :=
  match acc, r with
  | .fin a m e, .fin b k f =>
    let n := 2 * gs.length
    let exact := sumDyadic ((signInt a m, e) :: gs.map KGroup.value)
    let absSum := sumDyadic (((m : Int), e) :: gs.flatMap (fun g => g.terms.map (fun t =>
      let (v, x) := termValue t
      let (y, z) := g.factor.getD (0, 0)
      (((v * y).natAbs : Int), x + z))))
    let diff := addDyadic (signInt b k) f (-exact.1) exact.2
    let lhs : Int × Int := (((diff.1.natAbs * (2 ^ 24 - n) : Nat) : Int), diff.2)
    let rhs := addDyadic ((n : Int) * absSum.1) absSum.2 ((n : Int) * ((2 ^ 24 - n : Nat) : Int)) (-150)
    decide ((addDyadic lhs.1 lhs.2 (-rhs.1) rhs.2).1 ≤ 0)
  | _, _ => false

/-- The accumulated value that the device gives (R120, R121, R123): specials under R116; else the device's own value, free
within the bound of R121, and the reference model's where that free value lies outside it (log entry 12). -/
def dotProduct (use : List Nat) (acc : Fp) (gs : List KGroup) : Fp :=
  match specialResult acc gs with
  | some r => r
  | Option.none =>
    let c := fp32Of (Config.freeFn 3 use)
    if withinAccBound acc gs c then c else dotReference acc gs

/-! ### Bounded functions of the element-wise pipeline (R100) -/

/-- 2^64. -/
def one64 : Nat := 2 ^ 64
/-- ln 2 in units of 2⁻⁶⁴. -/
def ln2Fix : Nat := 12786308645202655660
/-- log₂ e in units of 2⁻⁶⁴. -/
def log2eFix : Nat := 26613026195688644984

/-- Terms of the series of e^x for x in [0, 1) in units of 2⁻⁶⁴. -/
def expTerms (x : Nat) : Nat → Nat → Nat → Nat
  | 0, _, _ => 0
  | f + 1, i, t => t + expTerms x f (i + 1) (t * x / one64 / i)

/-- 2^r for r in [0, 1), both in units of 2⁻⁶⁴. -/
def exp2Fix (r : Nat) : Nat := expTerms (r * ln2Fix / one64) 30 1 one64

/-- 2^x for a rational x = n / d of the given sign: a magnitude and an exponent, exact to better than 2⁻⁵⁰. -/
def exp2Frac (neg : Bool) (n d : Nat) : Nat × Int :=
  let q := n / d
  let r := (n % d) * one64 / d
  if neg then
    if r = 0 then (one64, -64 - (q : Int)) else (exp2Fix (one64 - r), -65 - (q : Int))
  else (exp2Fix r, (q : Int) - 64)

/-- Bits of log₂ y for y in [1, 2) in units of 2⁻⁶⁴, by repeated squaring. -/
def log2Bits : Nat → Nat → Nat → Nat
  | 0, _, acc => acc
  | f + 1, y, acc =>
    let z := y * y / one64
    if 2 * one64 ≤ z then log2Bits f (z / 2) (2 * acc + 1) else log2Bits f z (2 * acc)

/-- What a bounded function has for a result: an exact-to-2⁻⁴⁰ value (sign, magnitude, exponent), or nothing stated. -/
inductive Bounded where
  | value (neg : Bool) (m : Nat) (e : Int)
  | open
  deriving DecidableEq, Repr

/-- x × log₂ e as a fraction over 2⁻⁶⁴ of a finite magnitude, or none when it is beyond ±600. -/
def timesLog2e (m : Nat) (e : Int) : Option (Nat × Nat) :=
  if geExp2 m e 9 then Option.none
  else let (n, d) := scaleFrac m 1 e; some (n * log2eFix, d * one64)

/-- 1 / (1 + 2^(−t)) for t = ±n/d. -/
def sigmoidFrac (neg : Bool) (n d : Nat) : Nat × Int :=
  let (p, e) := exp2Frac (!neg) n d
  let (v, g) := addDyadic (p : Int) e 1 0
  let k := Nat.log2 v.natAbs
  (2 ^ (128 + k) / v.natAbs, -128 - (k : Int) - g)

/-- The bounded functions EXP2, LOG2, RSQRT, SIGMOID, TANH, SILU and GELU by micro-op code (Table 4.7); `open` where the
spec states no result (log entry 13). -/
def boundedFn (op : Nat) (a : Fp) : Bounded :=
  match a with
  | .fin s m e =>
    match op with
    | 0x06 =>
      if geExp2 m e 9 then .open
      else let (n, d) := scaleFrac m 1 e; let (p, q) := exp2Frac s n d; .value false p q
    | 0x07 =>
      if s ∨ m = 0 then .open
      else
        let k := Nat.log2 m
        let y := shiftNat m (64 - (k : Int))
        let b := log2Bits 64 y 0
        let v : Int := ((k : Int) + e) * (one64 : Int) + (b : Int)
        .value (decide (v < 0)) v.natAbs (-64)
    | 0x09 =>
      if s ∨ m = 0 then .open
      else
        let e2 := if e % 2 = 0 then e else e - 1
        let m2 := if e % 2 = 0 then m else 2 * m
        .value false (2 ^ 160 / Nat.sqrt (m2 * 2 ^ 160)) (-80 - e2 / 2)
    | 0x0A =>
      match timesLog2e m e with
      | some (n, d) => let (p, q) := sigmoidFrac s n d; .value false p q
      | Option.none => .open
    | 0x0B =>
      if m = 0 then .value s 0 0
      else if !geExp2 m e (-20) then .value s m e
      else match timesLog2e m (e + 1) with
        | some (n, d) =>
          let (p, q) := exp2Frac false n d
          let (u, g) := addDyadic (p : Int) q (-1) 0
          let (w, _) := addDyadic (p : Int) q 1 0
          let _ := g
          .value s (u.natAbs * 2 ^ 128 / w.natAbs) (-128)
        | Option.none => .value s 1 0
    | 0x0C =>
      match timesLog2e m e with
      | some (n, d) => let (p, q) := sigmoidFrac s n d; .value s (p * m) (q + e)
      | Option.none => if s then .open else .value s m e
    | 0x0D =>
      if geExp2 m e 5 then (if s then .open else .value s m e)
      else
        let (n, d) := scaleFrac m 1 e
        let cube := 44715 * n * n * n
        let un := 2 * 797885 * (n * d * d * 1000000 + cube)
        let ud := 1000000 * 1000000 * d * d * d
        let (p, q) := sigmoidFrac s (un * log2eFix) (ud * one64)
        .value s (p * m) (q + e)
    | _ => .open
  | _ => .open

/-- Whether c lies within a relative error of 2⁻¹⁴ of a value known to 2⁻⁴⁰ of itself (R100). -/
def withinRel (c : Fp) (neg : Bool) (m : Nat) (e : Int) : Bool :=
  match c with
  | .fin t k f =>
    let diff := addDyadic (signInt t k) f (-(signInt neg m)) e
    let rhs : Int × Int := (((m * (2 ^ 26 + 1) : Nat) : Int), e - 40)
    decide ((addDyadic (diff.1.natAbs : Int) diff.2 (-rhs.1) rhs.2).1 ≤ 0)
  | _ => false

/-- The result of a bounded function (R100): a free value within the bound, the rounded value where that free value lies
outside it, and a wholly free value where the spec states no result or none within the bound exists in FP32 (log entry 13). -/
def boundedResult (use : List Nat) (op : Nat) (a : Fp) : Fp :=
  let c := fp32Of (Config.freeFn 4 use)
  match boundedFn op a with
  | .open => c
  | .value s m e =>
    if m = 0 then .fin s 0 0
    else if geExp2 m e 128 || !geExp2 m e (-126) then c
    else if withinRel c s m e then c else fp32OfFrac s m 1 e

end Sys2Proof
end

