-- ==== Sys2Proof/Machine/Regs.lean ====
section
/-! DEFINITION. The register map: every register of the spec's register tables with its key, access code, reset value and
legal values (R5, R7, R8, R9, R21). A register's key is `block * 0x10000 + offset`. -/
namespace Sys2Proof.Machine

/-- The access codes of Table 0.6 (R7) for a writable field; a bit that no field lists is read-only or reserved. -/
inductive Access where
  | ro | rw | rw1c | rwo | rk
  deriving DecidableEq, Repr

/-- The values a field may take; any other value is a reserved encoding (R9). -/
inductive Legal where
  | any
  | range (lo hi : Nat)
  | mult (m : Nat)
  | multRange (m lo hi : Nat)
  | zeroOr (lo hi : Nat)
  | mem (xs : List Nat)
  deriving DecidableEq, Repr

/-- Whether a value is no reserved encoding of a field. -/
def Legal.ok : Legal → Nat → Bool
  | .any, _ => true
  | .range lo hi, v => decide (lo ≤ v) && decide (v ≤ hi)
  | .mult m, v => v % m == 0
  | .multRange m lo hi, v => v % m == 0 && decide (lo ≤ v) && decide (v ≤ hi)
  | .zeroOr lo hi, v => v == 0 || (decide (lo ≤ v) && decide (v ≤ hi))
  | .mem xs, v => xs.contains v

/-- One writable field of a register: its lowest bit, width, access code and legal values. -/
structure RegField where
  lo : Nat
  width : Nat
  access : Access
  legal : Legal
  deriving DecidableEq, Repr

/-- One row of a register map: `count` registers from offset `off`, `stride` bytes apart. -/
structure RegRow where
  off : Nat
  stride : Nat
  count : Nat
  reset : Nat
  fields : List RegField
  deriving DecidableEq, Repr

/-- The registers of the SYS block (Table 1.6). -/
def rowsSYS : List RegRow := [
  ⟨0x0000, 4, 1, 0x71404101, []⟩,
  ⟨0x0004, 4, 1, 0x0, []⟩,
  ⟨0x0010, 4, 1, 0x0, []⟩,
  ⟨0x0014, 4, 1, 0x0, [⟨0, 32, .rk, .any⟩]⟩,
  ⟨0x0040, 4, 9, 0x1, []⟩]

/-- The registers of the SEC block (Table 1.6). -/
def rowsSEC : List RegRow := [
  ⟨0x0000, 4, 1, 0x0, []⟩,
  ⟨0x0010, 4, 4, 0x0, []⟩,
  ⟨0x0020, 4, 1, 0x0, []⟩,
  ⟨0x0030, 4, 1, 0x0, [⟨0, 32, .rk, .any⟩]⟩,
  ⟨0x0034, 4, 1, 0x0, [⟨0, 32, .rk, .any⟩]⟩,
  ⟨0x0038, 4, 1, 0x0, [⟨0, 32, .rk, .any⟩]⟩,
  ⟨0x003C, 4, 1, 0x0, [⟨0, 32, .rk, .any⟩]⟩,
  ⟨0x0040, 4, 1, 0x0, [⟨0, 32, .rk, .any⟩]⟩,
  ⟨0x0044, 4, 1, 0x0, [⟨0, 32, .rk, .any⟩]⟩,
  ⟨0x0048, 4, 1, 0x0, [⟨0, 32, .rk, .any⟩]⟩,
  ⟨0x004C, 4, 1, 0x0, [⟨0, 32, .rk, .any⟩]⟩,
  ⟨0x0060, 4, 1, 0x0, []⟩,
  ⟨0x0070, 4, 1, 0x0, [⟨0, 5, .rw1c, .any⟩]⟩,
  ⟨0x0074, 4, 1, 0x0, [⟨0, 5, .rw, .any⟩]⟩,
  ⟨0x1000, 4, 64, 0x0, [⟨0, 32, .rw, .any⟩]⟩,
  ⟨0x1100, 4, 1, 0x0, [⟨0, 32, .rw, .any⟩]⟩,
  ⟨0x1104, 4, 1, 0x0, []⟩,
  ⟨0x1200, 4, 64, 0x0, []⟩,
  ⟨0x1400, 4, 64, 0x0, [⟨0, 32, .rw, .any⟩]⟩,
  ⟨0x1500, 4, 1, 0x0, [⟨0, 32, .rw, .any⟩]⟩,
  ⟨0x1504, 4, 1, 0x0, []⟩,
  ⟨0x1600, 4, 64, 0x0, []⟩,
  ⟨0x2000, 4, 1024, 0x0, [⟨0, 32, .rk, .any⟩]⟩]

/-- The registers of the PWR block (Table 1.6). -/
def rowsPWR : List RegRow := [
  ⟨0x0000, 4, 1, 0x4000, []⟩,
  ⟨0x0004, 4, 1, 0x0, [⟨0, 2, .rw, .any⟩]⟩,
  ⟨0x0008, 4, 1, 0x3FFFF, []⟩,
  ⟨0x000C, 4, 1, 0x0, []⟩,
  ⟨0x0010, 4, 1, 0x0, []⟩,
  ⟨0x0014, 4, 1, 0x0, [⟨0, 24, .rw, .any⟩, ⟨24, 2, .rw, (.range 1 2)⟩]⟩,
  ⟨0x0018, 4, 1, 0x0, []⟩,
  ⟨0x0040, 4, 5, 0x0, []⟩,
  ⟨0x0060, 4, 1, 0x0, [⟨0, 7, .rw1c, .any⟩]⟩,
  ⟨0x0064, 4, 1, 0x0, [⟨0, 7, .rw, .any⟩]⟩]

/-- The registers of the EVR block (Table 1.6). -/
def rowsEVR : List RegRow := [
  ⟨0x0000, 4, 1, 0x0, []⟩,
  ⟨0x0004, 4, 1, 0x0, []⟩,
  ⟨0x0008, 4, 1, 0x0, []⟩,
  ⟨0x000C, 4, 1, 0x0, []⟩,
  ⟨0x0010, 4, 1, 0x3E8, [⟨0, 32, .rk, (.range 100 60000)⟩]⟩,
  ⟨0x0040, 4, 16, 0x4, [⟨0, 32, .rk, (.range 1 255)⟩]⟩,
  ⟨0x0080, 4, 1, 0x0, [⟨0, 4, .rw1c, .any⟩]⟩,
  ⟨0x0084, 4, 1, 0x0, [⟨0, 4, .rw, .any⟩]⟩,
  ⟨0x0100, 64, 2, 0x0, [⟨0, 10, .rw, .any⟩, ⟨16, 1, .rw, .any⟩]⟩,
  ⟨0x0120, 4, 8, 0x0, []⟩,
  ⟨0x0160, 4, 8, 0x0, []⟩]

/-- The registers of the LKT block (Table 1.6). -/
def rowsLKT : List RegRow := [
  ⟨0x0000, 4, 1, 0x0, [⟨0, 1, .rk, .any⟩]⟩,
  ⟨0x0004, 4, 1, 0x1F40, [⟨0, 32, .rk, (.range 6000 100000)⟩]⟩,
  ⟨0x0008, 4, 1, 0x14, [⟨0, 32, .rk, (.range 5 1000)⟩]⟩,
  ⟨0x000C, 4, 1, 0x1F4, [⟨0, 32, .rk, (.range 100 10000)⟩]⟩,
  ⟨0x0010, 4, 1, 0x7D0, [⟨0, 32, .rk, (.range 500 20000)⟩]⟩,
  ⟨0x0014, 4, 1, 0x64, [⟨0, 32, .rk, (.range 10 1000)⟩]⟩,
  ⟨0x0018, 4, 1, 0x0, [⟨0, 32, .rk, .any⟩]⟩,
  ⟨0x001C, 4, 1, 0x0, [⟨0, 32, .rk, (.zeroOr 100 10000)⟩]⟩,
  ⟨0x0020, 4, 1, 0x0, [⟨0, 32, .rw, .any⟩]⟩,
  ⟨0x0024, 4, 1, 0x0, [⟨0, 32, .rk, (.zeroOr 2 1000)⟩]⟩,
  ⟨0x0028, 4, 1, 0x304, [⟨0, 5, .rk, (.range 1 16)⟩, ⟨8, 1, .rk, .any⟩, ⟨9, 1, .rk, .any⟩]⟩,
  ⟨0x0030, 4, 1, 0x0, []⟩,
  ⟨0x0044, 4, 9, 0x0, []⟩,
  ⟨0x0080, 4, 9, 0x0, []⟩,
  ⟨0x00C0, 4, 1, 0x0, [⟨0, 2, .rk, .any⟩]⟩,
  ⟨0x00C4, 4, 1, 0x0, []⟩,
  ⟨0x00C8, 4, 1, 0x0, []⟩,
  ⟨0x00CC, 4, 1, 0x0, []⟩,
  ⟨0x00E0, 4, 1, 0x0, [⟨0, 12, .rw1c, .any⟩]⟩,
  ⟨0x00E4, 4, 1, 0x0, [⟨0, 12, .rw, .any⟩]⟩,
  ⟨0x0100, 4, 16, 0x0, []⟩]

/-- The registers of the SCH block (Table 1.6). -/
def rowsSCH : List RegRow := [
  ⟨0x0000, 4, 1, 0x0, []⟩,
  ⟨0x0100, 4, 16, 0x3E8, [⟨0, 32, .rk, (.range 500 4000)⟩]⟩,
  ⟨0x0200, 4, 32, 0x0, []⟩,
  ⟨0x0300, 4, 1, 0x0, [⟨0, 7, .rw, .any⟩]⟩,
  ⟨0x0320, 4, 8, 0x0, []⟩,
  ⟨0x0800, 4, 1, 0x0, []⟩,
  ⟨0x0804, 4, 1, 0x0, []⟩,
  ⟨0x0808, 4, 1, 0x0, []⟩,
  ⟨0x080C, 4, 1, 0x0, []⟩,
  ⟨0x0810, 4, 1, 0x0, []⟩,
  ⟨0x0814, 4, 1, 0x1, []⟩,
  ⟨0x0820, 4, 12, 0x0, []⟩,
  ⟨0x0880, 4, 1, 0x0, [⟨0, 3, .rw, .any⟩]⟩,
  ⟨0x0884, 4, 1, 0x0, []⟩,
  ⟨0x0888, 4, 1, 0x0, [⟨0, 3, .rw1c, .any⟩]⟩,
  ⟨0x088C, 4, 1, 0x0, []⟩,
  ⟨0x8000, 256, 128, 0x0, [⟨0, 16, .rw, .any⟩]⟩,
  ⟨0x8004, 256, 128, 0x0, []⟩]

/-- The registers of the DMA block (Table 1.6). -/
def rowsDMA : List RegRow := [
  ⟨0x0000, 4, 1, 0x0, []⟩,
  ⟨0x0004, 4, 1, 0x0, []⟩,
  ⟨0x0008, 4, 1, 0x0, []⟩,
  ⟨0x0010, 4, 1, 0x0, []⟩,
  ⟨0x0014, 4, 1, 0x0, []⟩,
  ⟨0x0018, 4, 1, 0x0, []⟩,
  ⟨0x001C, 4, 1, 0x0, []⟩,
  ⟨0x0020, 4, 1, 0x0, []⟩,
  ⟨0x0024, 4, 1, 0x0, []⟩,
  ⟨0x0030, 4, 1, 0x0, [⟨0, 4, .rw1c, .any⟩]⟩,
  ⟨0x0034, 4, 1, 0x0, [⟨0, 4, .rw, .any⟩]⟩]

/-- The registers of the TIER block (Table 1.6). -/
def rowsTIER : List RegRow := [
  ⟨0x0000, 4, 1, 0x0, []⟩,
  ⟨0x0004, 4, 1, 0x0, []⟩,
  ⟨0x0008, 4, 1, 0x0, []⟩,
  ⟨0x0010, 4, 1, 0x0, [⟨0, 4, .rw, .any⟩, ⟨16, 12, .rw, .any⟩]⟩,
  ⟨0x0014, 4, 1, 0x0, [⟨0, 32, .rw, .any⟩]⟩,
  ⟨0x0018, 4, 1, 0x0, [⟨0, 32, .rw, .any⟩]⟩,
  ⟨0x001C, 4, 1, 0x0, []⟩,
  ⟨0x0020, 4, 1, 0x0, []⟩,
  ⟨0x0030, 4, 1, 0x0, [⟨0, 12, .rw, .any⟩]⟩,
  ⟨0x0040, 4, 4, 0x0, []⟩,
  ⟨0x0060, 4, 1, 0x0, [⟨0, 8, .rw, .any⟩]⟩,
  ⟨0x0064, 4, 1, 0x0, []⟩,
  ⟨0x0068, 4, 1, 0x0, []⟩,
  ⟨0x0070, 4, 1, 0x0, []⟩,
  ⟨0x0074, 4, 1, 0x0, [⟨0, 5, .rw1c, .any⟩]⟩,
  ⟨0x0078, 4, 1, 0x0, [⟨0, 5, .rw, .any⟩]⟩,
  ⟨0x0400, 4, 1, 0x0, []⟩,
  ⟨0x0404, 4, 1, 0x0, []⟩,
  ⟨0x0408, 4, 1, 0x0, []⟩,
  ⟨0x040C, 4, 1, 0x0, []⟩,
  ⟨0x0410, 4, 1, 0x0, [⟨0, 4, .rw, .any⟩, ⟨16, 10, .rw, .any⟩]⟩,
  ⟨0x0414, 4, 1, 0x0, [⟨0, 32, .rw, .any⟩]⟩,
  ⟨0x0418, 4, 1, 0x0, [⟨0, 32, .rw, .any⟩]⟩,
  ⟨0x041C, 4, 1, 0x0, []⟩,
  ⟨0x0420, 4, 1, 0x0, []⟩,
  ⟨0x0430, 4, 1, 0x0, []⟩,
  ⟨0x0434, 4, 1, 0x0, []⟩,
  ⟨0x0438, 4, 1, 0x0, []⟩,
  ⟨0x043C, 4, 1, 0x0, [⟨0, 6, .rw1c, .any⟩]⟩,
  ⟨0x0440, 4, 1, 0x0, [⟨0, 6, .rw, .any⟩]⟩]

/-- The registers of the SEQ block (Table 1.6). -/
def rowsSEQ : List RegRow := [
  ⟨0x0000, 4, 1, 0x0, []⟩,
  ⟨0x0010, 4, 1, 0x0, [⟨0, 4, .rw, .any⟩, ⟨16, 9, .rw, .any⟩]⟩,
  ⟨0x0014, 4, 1, 0x0, [⟨0, 2, .rw, .any⟩]⟩,
  ⟨0x0018, 4, 1, 0x0, []⟩,
  ⟨0x001C, 4, 1, 0x0, []⟩,
  ⟨0x0020, 4, 1, 0x0, [⟨0, 9, .rw, .any⟩]⟩,
  ⟨0x0040, 4, 16, 0x0, []⟩,
  ⟨0x0080, 4, 16, 0x0, [⟨0, 32, .rw, .any⟩]⟩,
  ⟨0x0100, 32, 16, 0x0, [⟨0, 1, .rk, .any⟩, ⟨1, 2, .rk, (.range 1 2)⟩, ⟨3, 1, .rk, .any⟩, ⟨8, 7, .rk, .any⟩, ⟨16, 8, .rk, (.range 1 255)⟩]⟩,
  ⟨0x0104, 32, 16, 0x0, [⟨0, 10, .rk, (.range 1 512)⟩, ⟨16, 16, .rk, .any⟩]⟩,
  ⟨0x0108, 32, 16, 0x0, [⟨0, 24, .rk, .any⟩]⟩,
  ⟨0x010C, 32, 16, 0x0, [⟨0, 32, .rk, (.mult 4096)⟩]⟩,
  ⟨0x0110, 32, 16, 0x0, [⟨0, 32, .rk, .any⟩]⟩,
  ⟨0x0114, 32, 16, 0x0, [⟨0, 16, .rw, .any⟩]⟩,
  ⟨0x0118, 32, 16, 0x0, []⟩,
  ⟨0x011C, 32, 16, 0x0, []⟩,
  ⟨0x0300, 4, 1, 0x0, [⟨0, 8, .rw1c, .any⟩]⟩,
  ⟨0x0304, 4, 1, 0x0, [⟨0, 8, .rw, .any⟩]⟩,
  ⟨0x8000, 64, 512, 0x0, [⟨0, 16, .rw, .any⟩]⟩,
  ⟨0x8004, 64, 512, 0x0, [⟨0, 16, .rw, .any⟩]⟩,
  ⟨0x8008, 64, 512, 0x0, []⟩]

/-- The registers of the CNP block (Table 1.6). -/
def rowsCNP : List RegRow := [
  ⟨0x0000, 4, 1, 0x0, []⟩,
  ⟨0x0004, 4, 1, 0x0, []⟩,
  ⟨0x0008, 4, 1, 0x0, []⟩,
  ⟨0x000C, 4, 1, 0x0, []⟩,
  ⟨0x0010, 4, 1, 0x0, []⟩,
  ⟨0x0020, 4, 8, 0x0, []⟩]

/-- The registers of the GRV block (Table 1.6). -/
def rowsGRV : List RegRow := [
  ⟨0x0000, 4, 1, 0x0, []⟩,
  ⟨0x0004, 4, 1, 0x0, []⟩,
  ⟨0x0008, 4, 1, 0x0, []⟩,
  ⟨0x000C, 4, 1, 0x0, []⟩,
  ⟨0x0010, 4, 1, 0x0, []⟩,
  ⟨0x0014, 4, 1, 0x0, []⟩,
  ⟨0x0018, 4, 1, 0x0, []⟩,
  ⟨0x001C, 4, 1, 0x0, []⟩,
  ⟨0x0020, 4, 1, 0x0, []⟩,
  ⟨0x0024, 4, 1, 0x0, []⟩,
  ⟨0x0028, 4, 1, 0x0, []⟩,
  ⟨0x002C, 4, 1, 0x0, []⟩,
  ⟨0x0030, 4, 1, 0x0, []⟩,
  ⟨0x0034, 4, 1, 0x0, [⟨0, 4, .rw1c, .any⟩]⟩,
  ⟨0x0038, 4, 1, 0x0, [⟨0, 4, .rw, .any⟩]⟩]

/-- The registers of the VIN block (Table 1.6). -/
def rowsVIN : List RegRow := [
  ⟨0x0000, 4, 1, 0x0, []⟩,
  ⟨0x0004, 4, 1, 0x0, []⟩,
  ⟨0x0008, 4, 1, 0x0, []⟩,
  ⟨0x000C, 4, 1, 0x0, []⟩,
  ⟨0x0010, 4, 1, 0x0, []⟩,
  ⟨0x0014, 4, 1, 0x0, []⟩,
  ⟨0x0020, 4, 1, 0x0, [⟨0, 1, .rk, .any⟩]⟩,
  ⟨0x0030, 4, 1, 0x0, [⟨0, 6, .rw1c, .any⟩]⟩,
  ⟨0x0034, 4, 1, 0x0, [⟨0, 6, .rw, .any⟩]⟩,
  ⟨0x0100, 4, 8, 0x0, []⟩,
  ⟨0x0140, 4, 8, 0x0, []⟩,
  ⟨0x0800, 4, 128, 0x0, [⟨0, 32, .rk, .any⟩]⟩]

/-- The registers of the VOUT block (Table 1.6). -/
def rowsVOUT : List RegRow := [
  ⟨0x0000, 4, 1, 0x0, []⟩,
  ⟨0x0004, 4, 1, 0x0, []⟩,
  ⟨0x0008, 4, 1, 0x0, []⟩,
  ⟨0x000C, 4, 1, 0x0, []⟩,
  ⟨0x0010, 4, 1, 0x20080040, [⟨0, 10, .rw, .any⟩, ⟨10, 10, .rw, .any⟩, ⟨20, 10, .rw, .any⟩]⟩,
  ⟨0x0014, 4, 1, 0x0, []⟩,
  ⟨0x0018, 4, 1, 0xA, [⟨0, 4, .rk, (.mem [1, 2, 8, 9, 10])⟩]⟩,
  ⟨0x0030, 4, 1, 0x0, [⟨0, 4, .rw1c, .any⟩]⟩,
  ⟨0x0034, 4, 1, 0x0, [⟨0, 4, .rw, .any⟩]⟩]

/-- The registers of the BYP block (Table 1.6). -/
def rowsBYP : List RegRow := [
  ⟨0x0000, 4, 1, 0x0, [⟨0, 1, .rw, .any⟩]⟩,
  ⟨0x0004, 4, 1, 0x0, []⟩,
  ⟨0x0008, 4, 1, 0x0, []⟩,
  ⟨0x000C, 4, 1, 0x11, [⟨0, 2, .rk, .any⟩, ⟨4, 2, .rk, .any⟩]⟩,
  ⟨0x0100, 4, 384, 0x0, [⟨0, 32, .rk, .any⟩]⟩]

/-- The registers of the RCMP block (Table 1.6). -/
def rowsRCMP : List RegRow := [
  ⟨0x0000, 4, 1, 0x0, []⟩,
  ⟨0x0004, 4, 1, 0x0, [⟨0, 12, .rk, .any⟩, ⟨12, 5, .rk, .any⟩, ⟨20, 4, .rk, .any⟩, ⟨24, 2, .rk, .any⟩, ⟨28, 1, .rk, .any⟩]⟩,
  ⟨0x0008, 4, 1, 0x0, [⟨0, 12, .rk, .any⟩]⟩,
  ⟨0x000C, 4, 1, 0x0, [⟨0, 32, .rk, .any⟩]⟩,
  ⟨0x0010, 4, 1, 0x0, [⟨0, 12, .rk, .any⟩, ⟨16, 12, .rk, .any⟩]⟩,
  ⟨0x0020, 4, 1, 0x0, []⟩,
  ⟨0x0024, 4, 1, 0x0, []⟩,
  ⟨0x0028, 4, 1, 0x0, []⟩,
  ⟨0x002C, 4, 1, 0x0, []⟩,
  ⟨0x0030, 4, 1, 0x0, []⟩,
  ⟨0x0040, 4, 4, 0x0, []⟩,
  ⟨0x0060, 4, 1, 0x0, [⟨0, 6, .rw1c, .any⟩]⟩,
  ⟨0x0064, 4, 1, 0x0, [⟨0, 6, .rw, .any⟩]⟩]

/-- The registers of the CAM block (Table 1.6). -/
def rowsCAM : List RegRow := [
  ⟨0x0000, 4, 1, 0x0, [⟨0, 1, .rw, .any⟩, ⟨1, 2, .rw, (.range 0 2)⟩, ⟨4, 1, .rw, .any⟩, ⟨5, 1, .rw, .any⟩, ⟨6, 1, .rw, .any⟩, ⟨8, 2, .rw, .any⟩, ⟨12, 4, .rw, .any⟩]⟩,
  ⟨0x0004, 4, 1, 0x0, [⟨0, 13, .rw, .any⟩, ⟨16, 13, .rw, .any⟩]⟩,
  ⟨0x0008, 4, 1, 0x0, []⟩,
  ⟨0x000C, 4, 1, 0x0, []⟩,
  ⟨0x0010, 4, 1, 0x0, []⟩,
  ⟨0x0014, 4, 1, 0xC8, [⟨0, 16, .rw, (.range 10 10000)⟩]⟩,
  ⟨0x0018, 4, 1, 0x0, []⟩,
  ⟨0x001C, 4, 1, 0x0, []⟩,
  ⟨0x0020, 32, 2, 0x0, [⟨0, 1, .rw, .any⟩, ⟨1, 3, .rw, .any⟩, ⟨4, 4, .rw, (.range 3 8)⟩, ⟨8, 2, .rw, (.range 0 2)⟩]⟩,
  ⟨0x0024, 32, 2, 0x0, [⟨0, 12, .rw, .any⟩, ⟨16, 12, .rw, .any⟩]⟩,
  ⟨0x0028, 32, 2, 0x0, [⟨0, 32, .rk, (.mult 4096)⟩]⟩,
  ⟨0x002C, 32, 2, 0x0, [⟨0, 32, .rk, .any⟩]⟩,
  ⟨0x0030, 32, 2, 0x0, [⟨0, 32, .rk, (.mult 4096)⟩]⟩,
  ⟨0x0034, 32, 2, 0x0, [⟨0, 4, .rw, .any⟩]⟩,
  ⟨0x0038, 32, 2, 0x0, []⟩,
  ⟨0x0080, 4, 1, 0x0, [⟨0, 32, .rk, (.mult 8192)⟩]⟩,
  ⟨0x0084, 4, 1, 0x0, [⟨0, 32, .rk, .any⟩]⟩,
  ⟨0x0088, 4, 1, 0x0, [⟨0, 5, .rk, (.range 3 16)⟩]⟩,
  ⟨0x008C, 4, 1, 0x0, [⟨0, 4, .rw, .any⟩]⟩,
  ⟨0x00A0, 4, 1, 0x0, [⟨0, 6, .rw1c, .any⟩]⟩,
  ⟨0x00A4, 4, 1, 0x0, [⟨0, 6, .rw, .any⟩]⟩]

/-- The registers of the IPL block (Table 1.6). -/
def rowsIPL : List RegRow := [
  ⟨0x0000, 4, 1, 0x0, [⟨0, 16, .rw, .any⟩]⟩,
  ⟨0x0004, 4, 1, 0x0, []⟩,
  ⟨0x0010, 4, 1, 0x1000, [⟨0, 16, .rw, .any⟩]⟩,
  ⟨0x0020, 4, 4, 0x1000, [⟨0, 16, .rw, .any⟩]⟩,
  ⟨0x0030, 4, 4, 0x1000, [⟨0, 16, .rw, .any⟩]⟩,
  ⟨0x0040, 4, 12, 0x0, [⟨0, 16, .rw, .any⟩]⟩,
  ⟨0x0080, 8, 5, 0x0, [⟨0, 32, .rw, .any⟩]⟩,
  ⟨0x0084, 8, 5, 0x0, [⟨0, 32, .rw, .any⟩]⟩,
  ⟨0x00B0, 4, 3, 0x202, [⟨0, 7, .rw, .any⟩, ⟨8, 7, .rw, .any⟩]⟩,
  ⟨0x0800, 32, 8, 0x0, [⟨0, 1, .rw, .any⟩, ⟨1, 1, .rw, .any⟩, ⟨2, 1, .rw, .any⟩, ⟨3, 1, .rw, .any⟩, ⟨16, 7, .rw, .any⟩]⟩,
  ⟨0x0804, 32, 8, 0x0, [⟨0, 12, .rw, .any⟩]⟩,
  ⟨0x0808, 32, 8, 0x0, [⟨0, 4, .rw, .any⟩]⟩,
  ⟨0x080C, 32, 8, 0x0, []⟩,
  ⟨0x0810, 32, 8, 0x0, []⟩,
  ⟨0x0900, 4, 1, 0x0, [⟨0, 4, .rw1c, .any⟩]⟩,
  ⟨0x0904, 4, 1, 0x0, [⟨0, 4, .rw, .any⟩]⟩]

/-- The registers of the MIC block (Table 1.6). -/
def rowsMIC : List RegRow := [
  ⟨0x0000, 4, 1, 0x3, [⟨0, 4, .rk, .any⟩, ⟨4, 2, .rk, .any⟩, ⟨8, 1, .rk, .any⟩]⟩,
  ⟨0x0004, 4, 1, 0x11, [⟨0, 1, .rk, .any⟩, ⟨4, 2, .rk, (.range 0 2)⟩, ⟨8, 1, .rk, .any⟩, ⟨12, 2, .rk, (.range 0 2)⟩]⟩,
  ⟨0x0008, 4, 1, 0x8888, [⟨0, 4, .rk, (.range 0 12)⟩, ⟨4, 4, .rk, (.range 0 12)⟩, ⟨8, 4, .rk, (.range 0 12)⟩, ⟨12, 4, .rk, (.range 0 12)⟩]⟩,
  ⟨0x000C, 4, 1, 0x7D0, [⟨0, 13, .rk, (.multRange 10 500 4000)⟩]⟩,
  ⟨0x0010, 4, 1, 0x8000, [⟨0, 20, .rk, (.mult 128)⟩]⟩,
  ⟨0x0014, 4, 1, 0x0, [⟨0, 1, .rw, .any⟩]⟩,
  ⟨0x0018, 4, 1, 0x0, []⟩,
  ⟨0x0020, 4, 1, 0x0, []⟩,
  ⟨0x0024, 4, 1, 0x0, []⟩,
  ⟨0x0028, 4, 1, 0x0, []⟩,
  ⟨0x002C, 4, 1, 0x0, []⟩,
  ⟨0x0030, 4, 4, 0x0, []⟩,
  ⟨0x0040, 4, 1, 0x0, [⟨0, 5, .rw1c, .any⟩]⟩,
  ⟨0x0044, 4, 1, 0x0, [⟨0, 5, .rw, .any⟩]⟩]

/-- The registers of the DAWN block (Table 1.6). -/
def rowsDAWN : List RegRow := [
  ⟨0x0000, 4, 1, 0x0, []⟩,
  ⟨0x0004, 4, 1, 0x43C0, [⟨0, 8, .rk, .any⟩, ⟨8, 4, .rk, (.range 1 8)⟩, ⟨12, 3, .rk, (.range 0 4)⟩]⟩,
  ⟨0x0008, 4, 1, 0xC805DC, [⟨0, 16, .rk, (.range 200 3000)⟩, ⟨16, 16, .rk, (.range 0 500)⟩]⟩,
  ⟨0x000C, 4, 1, 0xFA02710, [⟨0, 16, .rk, (.range 1000 30000)⟩, ⟨16, 16, .rk, (.range 0 8000)⟩]⟩,
  ⟨0x0010, 4, 1, 0x0, [⟨0, 1, .rk, .any⟩, ⟨9, 11, .rk, .any⟩]⟩,
  ⟨0x0014, 4, 1, 0x0, [⟨0, 7, .rk, .any⟩, ⟨7, 1, .rk, .any⟩]⟩,
  ⟨0x0018, 4, 1, 0x64, [⟨0, 14, .rk, (.range 1 10000)⟩]⟩,
  ⟨0x0020, 4, 1, 0x0, []⟩,
  ⟨0x0024, 4, 1, 0x0, []⟩,
  ⟨0x0028, 4, 1, 0x0, []⟩,
  ⟨0x002C, 4, 1, 0x0, []⟩,
  ⟨0x0030, 4, 1, 0x0, []⟩,
  ⟨0x0034, 4, 1, 0x0, []⟩,
  ⟨0x0038, 4, 1, 0x0, []⟩,
  ⟨0x0040, 4, 1, 0x0, []⟩,
  ⟨0x0044, 4, 1, 0x0, []⟩,
  ⟨0x0048, 4, 1, 0x0, []⟩,
  ⟨0x004C, 4, 1, 0x0, []⟩,
  ⟨0x0050, 4, 1, 0x0, []⟩,
  ⟨0x0054, 4, 1, 0x0, []⟩,
  ⟨0x0060, 4, 1, 0x0, [⟨0, 1, .rw1c, .any⟩]⟩,
  ⟨0x0070, 4, 1, 0x0, [⟨0, 8, .rw1c, .any⟩]⟩,
  ⟨0x0074, 4, 1, 0x0, [⟨0, 8, .rw, .any⟩]⟩,
  ⟨0x0100, 4, 1, 0x0, []⟩,
  ⟨0x0104, 4, 63, 0x0, []⟩]

/-- The registers of the VIL block (Table 1.6). -/
def rowsVIL : List RegRow := [
  ⟨0x0000, 4, 1, 0x0, []⟩,
  ⟨0x0004, 4, 1, 0x0, []⟩,
  ⟨0x0008, 4, 1, 0x0, []⟩,
  ⟨0x0010, 4, 1, 0x0, []⟩,
  ⟨0x0014, 4, 1, 0x0, []⟩,
  ⟨0x0018, 4, 1, 0x0, []⟩,
  ⟨0x001C, 4, 1, 0x0, []⟩,
  ⟨0x0020, 4, 1, 0x0, []⟩,
  ⟨0x0024, 4, 1, 0x0, []⟩,
  ⟨0x0028, 4, 1, 0x0, []⟩,
  ⟨0x002C, 4, 1, 0x0, []⟩,
  ⟨0x0030, 4, 1, 0x0, [⟨0, 7, .rw1c, .any⟩]⟩,
  ⟨0x0034, 4, 1, 0x0, [⟨0, 7, .rw, .any⟩]⟩]

/-- The registers of the DDR block (Table 1.6). -/
def rowsDDR : List RegRow := [
  ⟨0x0000, 4, 1, 0x0, []⟩,
  ⟨0x0004, 4, 1, 0x0, []⟩,
  ⟨0x0010, 4, 1, 0x18, [⟨0, 8, .rk, (.range 1 168)⟩]⟩,
  ⟨0x0014, 4, 1, 0x0, []⟩,
  ⟨0x0018, 4, 1, 0x100, [⟨0, 32, .rk, .any⟩]⟩,
  ⟨0x0100, 4, 8, 0x0, []⟩,
  ⟨0x0120, 4, 8, 0x0, []⟩,
  ⟨0x0140, 4, 1, 0x0, []⟩,
  ⟨0x0144, 4, 1, 0x0, []⟩,
  ⟨0x0150, 4, 1, 0x0, []⟩,
  ⟨0x0154, 4, 1, 0x0, []⟩,
  ⟨0x0158, 4, 1, 0x0, [⟨31, 1, .rw1c, .any⟩]⟩,
  ⟨0x0160, 4, 1, 0x0, [⟨0, 6, .rw1c, .any⟩]⟩,
  ⟨0x0164, 4, 1, 0x0, [⟨0, 6, .rw, .any⟩]⟩]

/-- The registers of the PCI block (Table 1.6). -/
def rowsPCI : List RegRow := [
  ⟨0x0000, 4, 1, 0x0, []⟩,
  ⟨0x0008, 4, 1, 0x0, [⟨0, 32, .rw, (.mult 268435456)⟩]⟩,
  ⟨0x000C, 4, 1, 0x0, [⟨0, 32, .rw, .any⟩]⟩,
  ⟨0x0010, 4, 1, 0x0, []⟩,
  ⟨0x0020, 4, 4, 0x0, [⟨0, 32, .rw1c, .any⟩]⟩,
  ⟨0x0040, 4, 1, 0x0, []⟩,
  ⟨0x0050, 4, 1, 0x0, [⟨0, 4, .rw1c, .any⟩]⟩,
  ⟨0x0054, 4, 1, 0x0, [⟨0, 4, .rw, .any⟩]⟩,
  ⟨0x1000, 32, 128, 0x0, [⟨0, 1, .rk, .any⟩, ⟨1, 1, .rk, .any⟩, ⟨8, 7, .rk, .any⟩, ⟨16, 4, .rk, (.range 4 12)⟩, ⟨20, 4, .rk, (.range 4 12)⟩]⟩,
  ⟨0x1004, 32, 128, 0x0, [⟨0, 32, .rk, (.mult 4096)⟩]⟩,
  ⟨0x1008, 32, 128, 0x0, [⟨0, 32, .rk, .any⟩]⟩,
  ⟨0x100C, 32, 128, 0x0, []⟩,
  ⟨0x1010, 32, 128, 0x0, [⟨0, 16, .rw, .any⟩]⟩,
  ⟨0x1014, 32, 128, 0x0, [⟨0, 16, .rw, .any⟩]⟩,
  ⟨0x1018, 32, 128, 0x0, []⟩]

/-- The registers of the MGT block (Table 1.6). -/
def rowsMGT : List RegRow := [
  ⟨0x0000, 4, 1, 0x0, []⟩,
  ⟨0x0004, 4, 1, 0x0, []⟩,
  ⟨0x0008, 4, 1, 0x0, []⟩,
  ⟨0x000C, 4, 1, 0x0, []⟩,
  ⟨0x0010, 4, 1, 0x0, [⟨0, 5, .rw1c, .any⟩]⟩,
  ⟨0x0014, 4, 1, 0x0, [⟨0, 5, .rw, .any⟩]⟩]

/-- The registers of the TICK block (Table 1.6). -/
def rowsTICK : List RegRow := [
  ⟨0x0000, 4, 1, 0x3E80000, [⟨0, 1, .rk, .any⟩, ⟨16, 16, .rk, (.range 1000 4000)⟩]⟩,
  ⟨0x0004, 4, 1, 0x0, []⟩,
  ⟨0x0008, 4, 1, 0xF4240, []⟩,
  ⟨0x000C, 4, 1, 0x0, []⟩,
  ⟨0x0010, 4, 1, 0x0, []⟩,
  ⟨0x0014, 4, 1, 0x0, []⟩,
  ⟨0x0018, 4, 1, 0x0, []⟩,
  ⟨0x001C, 4, 1, 0x0, []⟩,
  ⟨0x0020, 4, 1, 0x0, [⟨0, 4, .rw1c, .any⟩]⟩,
  ⟨0x0024, 4, 1, 0x0, [⟨0, 4, .rw, .any⟩]⟩]

/-- The register rows of block `b` (Table 1.6); an unlisted block number has none. -/
def blockRows (b : Nat) : List RegRow :=
  if 0x10 ≤ b ∧ b ≤ 0x1F then rowsGRV
  else match b with
  | 0x00 => rowsSYS
  | 0x01 => rowsSEC
  | 0x02 => rowsPWR
  | 0x03 => rowsEVR
  | 0x04 => rowsLKT
  | 0x05 => rowsSCH
  | 0x06 => rowsDMA
  | 0x07 => rowsTIER
  | 0x08 => rowsSEQ
  | 0x09 => rowsCNP
  | 0x20 => rowsVIN
  | 0x21 => rowsVOUT
  | 0x22 => rowsBYP
  | 0x23 => rowsRCMP
  | 0x24 => rowsCAM
  | 0x25 => rowsIPL
  | 0x26 => rowsMIC
  | 0x27 => rowsDAWN
  | 0x28 => rowsVIL
  | 0x29 => rowsVIL
  | 0x2A => rowsDDR
  | 0x2B => rowsPCI
  | 0x2C => rowsMGT
  | 0x2D => rowsTICK
  | _ => []

/-- Whether block number `b` is listed in Table 1.6 (R19, R21). -/
def blockListed (b : Nat) : Bool := !(blockRows b).isEmpty

/-- Whether register row `r` has a register at offset `o`. -/
def RegRow.covers (r : RegRow) (o : Nat) : Bool :=
  decide (r.off ≤ o) && (o - r.off) % r.stride == 0 && decide ((o - r.off) / r.stride < r.count)

/-- The register row of a key; none for a reserved offset (R9). -/
def findRow (k : Nat) : Option RegRow := (blockRows (k / 0x10000)).find? (·.covers (k % 0x10000))

/-- A register's value at a reset of its domain (R8); 0 for a reserved offset (R9). -/
def regReset (k : Nat) : Word := BitVec.ofNat 32 (((findRow k).map (·.reset)).getD 0)

/-- The writable fields of a register; none for a reserved or read-only one. -/
def regFields (k : Nat) : List RegField := ((findRow k).map (·.fields)).getD []

/-! Register keys by name. -/
namespace Reg

/-- SYS_ID, Table 1.9 (R29). -/
abbrev SYS_ID : Nat := 0x000000
/-- SYS_STRAPS, Table 1.9 (R29). -/
abbrev SYS_STRAPS : Nat := 0x000004
/-- SYS_DOMAIN_RESET, Table 1.9 (R29). -/
abbrev SYS_DOMAIN_RESET : Nat := 0x000010
/-- SYS_DOMAIN_REQ, Table 1.9 (R29). -/
abbrev SYS_DOMAIN_REQ : Nat := 0x000014
/-- SYS_GEN_TAG_Dd, Table 1.9 (R29). -/
abbrev SYS_GEN_TAG (d : Nat) : Nat := 0x000040 + 4 * d
/-- PLAN_STATUS, Table 2.9 (R54). -/
abbrev PLAN_STATUS : Nat := 0x050800
/-- PLAN_REFUSAL, Table 2.9 (R54). -/
abbrev PLAN_REFUSAL : Nat := 0x050804
/-- PLAN_REFUSAL_LOAD, Table 2.9 (R54). -/
abbrev PLAN_REFUSAL_LOAD : Nat := 0x050808
/-- PLAN_REFUSAL_LIMIT, Table 2.9 (R54). -/
abbrev PLAN_REFUSAL_LIMIT : Nat := 0x05080C
/-- PLAN_VERSION, Table 2.9 (R54). -/
abbrev PLAN_VERSION : Nat := 0x050810
/-- PLAN_MODES, Table 2.9 (R54). -/
abbrev PLAN_MODES : Nat := 0x050814
/-- PLAN_DIGEST_i, Table 2.9 (R54). -/
abbrev PLAN_DIGEST (i : Nat) : Nat := 0x050820 + 4 * i
/-- MODE_REQ, Table 2.9 (R54). -/
abbrev MODE_REQ : Nat := 0x050880
/-- MODE_CUR, Table 2.9 (R54). -/
abbrev MODE_CUR : Nat := 0x050884
/-- MODE_EVT, Table 2.9 (R54). -/
abbrev MODE_EVT : Nat := 0x050888
/-- MODE_CHANGE_TICK, Table 2.9 (R54). -/
abbrev MODE_CHANGE_TICK : Nat := 0x05088C
/-- TICK_CTRL, Table 3.9 (R79). -/
abbrev TICK_CTRL : Nat := 0x2D0000
/-- TICK_STATUS, Table 3.9 (R79). -/
abbrev TICK_STATUS : Nat := 0x2D0004
/-- TICK_LEN_NS, Table 3.9 (R79). -/
abbrev TICK_LEN_NS : Nat := 0x2D0008
/-- TICK_N, Table 3.9 (R79). -/
abbrev TICK_N : Nat := 0x2D000C
/-- TICK_COUNT_LO, Table 3.9 (R79). -/
abbrev TICK_COUNT_LO : Nat := 0x2D0010
/-- TICK_COUNT_HI, Table 3.9 (R79). -/
abbrev TICK_COUNT_HI : Nat := 0x2D0014
/-- TICK_FRAME_PERIOD, Table 3.9 (R79). -/
abbrev TICK_FRAME_PERIOD : Nat := 0x2D0018
/-- TICK_FRAME_NOM, Table 3.9 (R79). -/
abbrev TICK_FRAME_NOM : Nat := 0x2D001C
/-- TICK_EVT, Table 3.9 (R79). -/
abbrev TICK_EVT : Nat := 0x2D0020
/-- TICK_IRQ_EN, Table 3.9 (R79). -/
abbrev TICK_IRQ_EN : Nat := 0x2D0024
/-- SCH_STATUS, Table 3.11 (R80). -/
abbrev SCH_STATUS : Nat := 0x050000
/-- SCH_SWAP_MBPS_g, Table 3.11 (R80). -/
abbrev SCH_SWAP_MBPS (g : Nat) : Nat := 0x050100 + 4 * g
/-- SCH_MISS_s, Table 3.11 (R80). -/
abbrev SCH_MISS (s : Nat) : Nat := 0x050200 + 4 * s
/-- SCH_CTX_SEL, Table 3.11 (R80). -/
abbrev SCH_CTX_SEL : Nat := 0x050300
/-- SCH_CTX_DATA_i, Table 3.11 (R80). -/
abbrev SCH_CTX_DATA (i : Nat) : Nat := 0x050320 + 4 * i
/-- SCH_DOORBELL_c, Table 3.11 (R80). -/
abbrev SCH_DOORBELL (c : Nat) : Nat := 0x058000 + 256 * c
/-- SCH_CTX_STAT_c, Table 3.11 (R80). -/
abbrev SCH_CTX_STAT (c : Nat) : Nat := 0x058004 + 256 * c
/-- GRV_STATUS, Table 4.11 (R108). -/
abbrev GRV_STATUS (g : Nat) : Nat := 0x100000 + 0x10000 * g
/-- GRV_FAULT, Table 4.11 (R108). -/
abbrev GRV_FAULT (g : Nat) : Nat := 0x100004 + 0x10000 * g
/-- GRV_FAULT_POS, Table 4.11 (R108). -/
abbrev GRV_FAULT_POS (g : Nat) : Nat := 0x100008 + 0x10000 * g
/-- GRV_FAULT_CYC, Table 4.11 (R108). -/
abbrev GRV_FAULT_CYC (g : Nat) : Nat := 0x10000C + 0x10000 * g
/-- GRV_ISSUED_LO, Table 4.11 (R108). -/
abbrev GRV_ISSUED_LO (g : Nat) : Nat := 0x100010 + 0x10000 * g
/-- GRV_ISSUED_HI, Table 4.11 (R108). -/
abbrev GRV_ISSUED_HI (g : Nat) : Nat := 0x100014 + 0x10000 * g
/-- GRV_BUSY_LO, Table 4.11 (R108). -/
abbrev GRV_BUSY_LO (g : Nat) : Nat := 0x100018 + 0x10000 * g
/-- GRV_BUSY_HI, Table 4.11 (R108). -/
abbrev GRV_BUSY_HI (g : Nat) : Nat := 0x10001C + 0x10000 * g
/-- GRV_CAP_STOPS, Table 4.11 (R108). -/
abbrev GRV_CAP_STOPS (g : Nat) : Nat := 0x100020 + 0x10000 * g
/-- GRV_FAULTS, Table 4.11 (R108). -/
abbrev GRV_FAULTS (g : Nat) : Nat := 0x100024 + 0x10000 * g
/-- GRV_TICK_LAST, Table 4.11 (R108). -/
abbrev GRV_TICK_LAST (g : Nat) : Nat := 0x100028 + 0x10000 * g
/-- GRV_TICK_MAX, Table 4.11 (R108). -/
abbrev GRV_TICK_MAX (g : Nat) : Nat := 0x10002C + 0x10000 * g
/-- GRV_SKID_VALID, Table 4.11 (R108). -/
abbrev GRV_SKID_VALID (g : Nat) : Nat := 0x100030 + 0x10000 * g
/-- GRV_EVT, Table 4.11 (R108). -/
abbrev GRV_EVT (g : Nat) : Nat := 0x100034 + 0x10000 * g
/-- GRV_IRQ_EN, Table 4.11 (R108). -/
abbrev GRV_IRQ_EN (g : Nat) : Nat := 0x100038 + 0x10000 * g
/-- PAGE_POOL_CFG, Table 8.10 (R178). -/
abbrev PAGE_POOL_CFG : Nat := 0x070400
/-- PAGE_POOL_FRAMES, Table 8.10 (R178). -/
abbrev PAGE_POOL_FRAMES : Nat := 0x070404
/-- PAGE_FREE, Table 8.10 (R178). -/
abbrev PAGE_FREE : Nat := 0x070408
/-- PAGE_SHARED, Table 8.10 (R178). -/
abbrev PAGE_SHARED : Nat := 0x07040C
/-- PAGE_OP, Table 8.10 (R178). -/
abbrev PAGE_OP : Nat := 0x070410
/-- PAGE_OP_ARG0, Table 8.10 (R178). -/
abbrev PAGE_OP_ARG0 : Nat := 0x070414
/-- PAGE_OP_ARG1, Table 8.10 (R178). -/
abbrev PAGE_OP_ARG1 : Nat := 0x070418
/-- PAGE_OP_STATUS, Table 8.10 (R178). -/
abbrev PAGE_OP_STATUS : Nat := 0x07041C
/-- PAGE_OP_RESULT, Table 8.10 (R178). -/
abbrev PAGE_OP_RESULT : Nat := 0x070420
/-- PAGE_FAULT, Table 8.10 (R178). -/
abbrev PAGE_FAULT : Nat := 0x070430
/-- PAGE_FAULT_POS, Table 8.10 (R178). -/
abbrev PAGE_FAULT_POS : Nat := 0x070434
/-- PAGE_COW_COUNT, Table 8.10 (R178). -/
abbrev PAGE_COW_COUNT : Nat := 0x070438
/-- PAGE_EVT, Table 8.10 (R178). -/
abbrev PAGE_EVT : Nat := 0x07043C
/-- PAGE_IRQ_EN, Table 8.10 (R178). -/
abbrev PAGE_IRQ_EN : Nat := 0x070440
/-- SEQ_STATUS, Table 10.7 (R205). -/
abbrev SEQ_STATUS : Nat := 0x080000
/-- SEQ_OP, Table 10.7 (R205). -/
abbrev SEQ_OP : Nat := 0x080010
/-- SEQ_OP_ARG0, Table 10.7 (R205). -/
abbrev SEQ_OP_ARG0 : Nat := 0x080014
/-- SEQ_OP_STATUS, Table 10.7 (R205). -/
abbrev SEQ_OP_STATUS : Nat := 0x080018
/-- SEQ_OP_RESULT, Table 10.7 (R205). -/
abbrev SEQ_OP_RESULT : Nat := 0x08001C
/-- SEQ_ENT_SEL, Table 10.7 (R205). -/
abbrev SEQ_ENT_SEL : Nat := 0x080020
/-- SEQ_ENT_DATA_i, Table 10.7 (R205). -/
abbrev SEQ_ENT_DATA (i : Nat) : Nat := 0x080040 + 4 * i
/-- SEQ_STAGE_i, Table 10.7 (R205). -/
abbrev SEQ_STAGE (i : Nat) : Nat := 0x080080 + 4 * i
/-- SEQ_GRP_CFG_g, Table 10.7 (R205). -/
abbrev SEQ_GRP_CFG (g : Nat) : Nat := 0x080100 + 32 * g
/-- SEQ_GRP_SIZE_g, Table 10.7 (R205). -/
abbrev SEQ_GRP_SIZE (g : Nat) : Nat := 0x080104 + 32 * g
/-- SEQ_GRP_VOCAB_g, Table 10.7 (R205). -/
abbrev SEQ_GRP_VOCAB (g : Nat) : Nat := 0x080108 + 32 * g
/-- SEQ_WL_g_LO, Table 10.7 (R205). -/
abbrev SEQ_WL_LO (g : Nat) : Nat := 0x08010C + 32 * g
/-- SEQ_WL_g_HI, Table 10.7 (R205). -/
abbrev SEQ_WL_HI (g : Nat) : Nat := 0x080110 + 32 * g
/-- SEQ_GRP_GO_g, Table 10.7 (R205). -/
abbrev SEQ_GRP_GO (g : Nat) : Nat := 0x080114 + 32 * g
/-- SEQ_GRP_STEP_g, Table 10.7 (R205). -/
abbrev SEQ_GRP_STEP (g : Nat) : Nat := 0x080118 + 32 * g
/-- SEQ_GRP_OVERRUN_g, Table 10.7 (R205). -/
abbrev SEQ_GRP_OVERRUN (g : Nat) : Nat := 0x08011C + 32 * g
/-- SEQ_EVT, Table 10.7 (R205). -/
abbrev SEQ_EVT : Nat := 0x080300
/-- SEQ_IRQ_EN, Table 10.7 (R205). -/
abbrev SEQ_IRQ_EN : Nat := 0x080304
/-- SEQ_SUBMIT_e, Table 10.7 (R205). -/
abbrev SEQ_SUBMIT (e : Nat) : Nat := 0x088000 + 64 * e
/-- SEQ_OUTACK_e, Table 10.7 (R205). -/
abbrev SEQ_OUTACK (e : Nat) : Nat := 0x088004 + 64 * e
/-- SEQ_ESTAT_e, Table 10.7 (R205). -/
abbrev SEQ_ESTAT (e : Nat) : Nat := 0x088008 + 64 * e
/-- TIER_STATUS, Table 11.12 (R234). -/
abbrev TIER_STATUS : Nat := 0x070000
/-- TIER_DDR_OPEN, Table 11.12 (R234). -/
abbrev TIER_DDR_OPEN : Nat := 0x070004
/-- TIER_DDR_FREE, Table 11.12 (R234). -/
abbrev TIER_DDR_FREE : Nat := 0x070008
/-- TIER_OBJ_OP, Table 11.12 (R234). -/
abbrev TIER_OBJ_OP : Nat := 0x070010
/-- TIER_OBJ_ARG0, Table 11.12 (R234). -/
abbrev TIER_OBJ_ARG0 : Nat := 0x070014
/-- TIER_OBJ_ARG1, Table 11.12 (R234). -/
abbrev TIER_OBJ_ARG1 : Nat := 0x070018
/-- TIER_OBJ_STATUS, Table 11.12 (R234). -/
abbrev TIER_OBJ_STATUS : Nat := 0x07001C
/-- TIER_OBJ_RESULT, Table 11.12 (R234). -/
abbrev TIER_OBJ_RESULT : Nat := 0x070020
/-- TIER_OBJ_SEL, Table 11.12 (R234). -/
abbrev TIER_OBJ_SEL : Nat := 0x070030
/-- TIER_OBJ_DATA_i, Table 11.12 (R234). -/
abbrev TIER_OBJ_DATA (i : Nat) : Nat := 0x070040 + 4 * i
/-- TIER_QUOTA_SEL, Table 11.12 (R234). -/
abbrev TIER_QUOTA_SEL : Nat := 0x070060
/-- TIER_QUOTA_CNP, Table 11.12 (R234). -/
abbrev TIER_QUOTA_CNP : Nat := 0x070064
/-- TIER_QUOTA_DDR, Table 11.12 (R234). -/
abbrev TIER_QUOTA_DDR : Nat := 0x070068
/-- TIER_EVICTIONS, Table 11.12 (R234). -/
abbrev TIER_EVICTIONS : Nat := 0x070070
/-- TIER_EVT, Table 11.12 (R234). -/
abbrev TIER_EVT : Nat := 0x070074
/-- TIER_IRQ_EN, Table 11.12 (R234). -/
abbrev TIER_IRQ_EN : Nat := 0x070078
/-- DMA_STATUS, Table 11.14 (R235). -/
abbrev DMA_STATUS : Nat := 0x060000
/-- DMA_FAULT, Table 11.14 (R235). -/
abbrev DMA_FAULT : Nat := 0x060004
/-- DMA_FAULT_POS, Table 11.14 (R235). -/
abbrev DMA_FAULT_POS : Nat := 0x060008
/-- DMA_PAYLOAD_LO, Table 11.14 (R235). -/
abbrev DMA_PAYLOAD_LO : Nat := 0x060010
/-- DMA_PAYLOAD_HI, Table 11.14 (R235). -/
abbrev DMA_PAYLOAD_HI : Nat := 0x060014
/-- DMA_STORED_LO, Table 11.14 (R235). -/
abbrev DMA_STORED_LO : Nat := 0x060018
/-- DMA_STORED_HI, Table 11.14 (R235). -/
abbrev DMA_STORED_HI : Nat := 0x06001C
/-- DMA_RSV_SHORT, Table 11.14 (R235). -/
abbrev DMA_RSV_SHORT : Nat := 0x060020
/-- DMA_DROPPED, Table 11.14 (R235). -/
abbrev DMA_DROPPED : Nat := 0x060024
/-- DMA_EVT, Table 11.14 (R235). -/
abbrev DMA_EVT : Nat := 0x060030
/-- DMA_IRQ_EN, Table 11.14 (R235). -/
abbrev DMA_IRQ_EN : Nat := 0x060034
/-- CNP_POOL_BASE, Table 11.16 (R236). -/
abbrev CNP_POOL_BASE : Nat := 0x090000
/-- CNP_POOL_TILES, Table 11.16 (R236). -/
abbrev CNP_POOL_TILES : Nat := 0x090004
/-- CNP_FREE_TILES, Table 11.16 (R236). -/
abbrev CNP_FREE_TILES : Nat := 0x090008
/-- CNP_BORROWED, Table 11.16 (R236). -/
abbrev CNP_BORROWED : Nat := 0x09000C
/-- CNP_AGE_TICKS, Table 11.16 (R236). -/
abbrev CNP_AGE_TICKS : Nat := 0x090010
/-- CNP_STANDING_KIB_m, Table 11.16 (R236). -/
abbrev CNP_STANDING_KIB (m : Nat) : Nat := 0x090020 + 4 * m
/-- DDR_STATUS, Table 12.3 (R252). -/
abbrev DDR_STATUS : Nat := 0x2A0000
/-- DDR_CTRL, Table 12.3 (R252). -/
abbrev DDR_CTRL : Nat := 0x2A0004
/-- DDR_SCRUB_HOURS, Table 12.3 (R252). -/
abbrev DDR_SCRUB_HOURS : Nat := 0x2A0010
/-- DDR_SCRUB_PASSES, Table 12.3 (R252). -/
abbrev DDR_SCRUB_PASSES : Nat := 0x2A0014
/-- DDR_CORR_THRESH, Table 12.3 (R252). -/
abbrev DDR_CORR_THRESH : Nat := 0x2A0018
/-- DDR_CORR_c, Table 12.3 (R252). -/
abbrev DDR_CORR (c : Nat) : Nat := 0x2A0100 + 4 * c
/-- DDR_UNCORR_c, Table 12.3 (R252). -/
abbrev DDR_UNCORR (c : Nat) : Nat := 0x2A0120 + 4 * c
/-- SRAM_CORR, Table 12.3 (R252). -/
abbrev SRAM_CORR : Nat := 0x2A0140
/-- SRAM_UNCORR, Table 12.3 (R252). -/
abbrev SRAM_UNCORR : Nat := 0x2A0144
/-- DDR_ERR_ADDR_LO, Table 12.3 (R252). -/
abbrev DDR_ERR_ADDR_LO : Nat := 0x2A0150
/-- DDR_ERR_ADDR_HI, Table 12.3 (R252). -/
abbrev DDR_ERR_ADDR_HI : Nat := 0x2A0154
/-- DDR_ERR_INFO, Table 12.3 (R252). -/
abbrev DDR_ERR_INFO : Nat := 0x2A0158
/-- DDR_EVT, Table 12.3 (R252). -/
abbrev DDR_EVT : Nat := 0x2A0160
/-- DDR_IRQ_EN, Table 12.3 (R252). -/
abbrev DDR_IRQ_EN : Nat := 0x2A0164
/-- VIN_STATUS, Table 13.8 (R279). -/
abbrev VIN_STATUS : Nat := 0x200000
/-- VIN_TIMING, Table 13.8 (R279). -/
abbrev VIN_TIMING : Nat := 0x200004
/-- VIN_TOTAL, Table 13.8 (R279). -/
abbrev VIN_TOTAL : Nat := 0x200008
/-- VIN_FMT, Table 13.8 (R279). -/
abbrev VIN_FMT : Nat := 0x20000C
/-- VIN_FRAMES, Table 13.8 (R279). -/
abbrev VIN_FRAMES : Nat := 0x200010
/-- VIN_ERR_FRAMES, Table 13.8 (R279). -/
abbrev VIN_ERR_FRAMES : Nat := 0x200014
/-- VIN_HPD, Table 13.8 (R279). -/
abbrev VIN_HPD : Nat := 0x200020
/-- VIN_EVT, Table 13.8 (R279). -/
abbrev VIN_EVT : Nat := 0x200030
/-- VIN_IRQ_EN, Table 13.8 (R279). -/
abbrev VIN_IRQ_EN : Nat := 0x200034
/-- VIN_AVI_i, Table 13.8 (R279). -/
abbrev VIN_AVI (i : Nat) : Nat := 0x200100 + 4 * i
/-- VIN_DRM_i, Table 13.8 (R279). -/
abbrev VIN_DRM (i : Nat) : Nat := 0x200140 + 4 * i
/-- VIN_EDID_i, Table 13.8 (R279). -/
abbrev VIN_EDID (i : Nat) : Nat := 0x200800 + 4 * i
/-- VOUT_STATUS, Table 13.11 (R280). -/
abbrev VOUT_STATUS : Nat := 0x210000
/-- VOUT_TIMING, Table 13.11 (R280). -/
abbrev VOUT_TIMING : Nat := 0x210004
/-- VOUT_FRAME_MHZ, Table 13.11 (R280). -/
abbrev VOUT_FRAME_MHZ : Nat := 0x210008
/-- VOUT_DSC, Table 13.11 (R280). -/
abbrev VOUT_DSC : Nat := 0x21000C
/-- VOUT_MUTE, Table 13.11 (R280). -/
abbrev VOUT_MUTE : Nat := 0x210010
/-- VOUT_RETRAINS, Table 13.11 (R280). -/
abbrev VOUT_RETRAINS : Nat := 0x210014
/-- VOUT_MAX_RATE, Table 13.11 (R280). -/
abbrev VOUT_MAX_RATE : Nat := 0x210018
/-- VOUT_EVT, Table 13.11 (R280). -/
abbrev VOUT_EVT : Nat := 0x210030
/-- VOUT_IRQ_EN, Table 13.11 (R280). -/
abbrev VOUT_IRQ_EN : Nat := 0x210034
/-- BYP_CTRL, Table 13.13 (R281). -/
abbrev BYP_CTRL : Nat := 0x220000
/-- BYP_STATUS, Table 13.13 (R281). -/
abbrev BYP_STATUS : Nat := 0x220004
/-- BYP_STEP, Table 13.13 (R281). -/
abbrev BYP_STEP : Nat := 0x220008
/-- BYP_COEF_SET, Table 13.13 (R281). -/
abbrev BYP_COEF_SET : Nat := 0x22000C
/-- BYP_COEF_i, Table 13.13 (R281). -/
abbrev BYP_COEF (i : Nat) : Nat := 0x220100 + 4 * i
/-- RCMP_STATUS, Table 13.14 (R282). -/
abbrev RCMP_STATUS : Nat := 0x230000
/-- RCMP_GEOM, Table 13.14 (R282). -/
abbrev RCMP_GEOM : Nat := 0x230004
/-- RCMP_MOTION_ROWS, Table 13.14 (R282). -/
abbrev RCMP_MOTION_ROWS : Nat := 0x230008
/-- RCMP_DELAY_NS, Table 13.14 (R282). -/
abbrev RCMP_DELAY_NS : Nat := 0x23000C
/-- RCMP_RINGS, Table 13.14 (R282). -/
abbrev RCMP_RINGS : Nat := 0x230010
/-- RCMP_LATE, Table 13.14 (R282). -/
abbrev RCMP_LATE : Nat := 0x230020
/-- RCMP_COVER, Table 13.14 (R282). -/
abbrev RCMP_COVER : Nat := 0x230024
/-- RCMP_SEAMS, Table 13.14 (R282). -/
abbrev RCMP_SEAMS : Nat := 0x230028
/-- RCMP_SUBST, Table 13.14 (R282). -/
abbrev RCMP_SUBST : Nat := 0x23002C
/-- RCMP_IDLE_TICKS, Table 13.14 (R282). -/
abbrev RCMP_IDLE_TICKS : Nat := 0x230030
/-- RCMP_MAP_i, Table 13.14 (R282). -/
abbrev RCMP_MAP (i : Nat) : Nat := 0x230040 + 4 * i
/-- RCMP_EVT, Table 13.14 (R282). -/
abbrev RCMP_EVT : Nat := 0x230060
/-- RCMP_IRQ_EN, Table 13.14 (R282). -/
abbrev RCMP_IRQ_EN : Nat := 0x230064
/-- MIC_CFG, Table 14.8 (R306). -/
abbrev MIC_CFG : Nat := 0x260000
/-- MIC_BIAS, Table 14.8 (R306). -/
abbrev MIC_BIAS : Nat := 0x260004
/-- MIC_GAIN, Table 14.8 (R306). -/
abbrev MIC_GAIN : Nat := 0x260008
/-- MIC_HIST, Table 14.8 (R306). -/
abbrev MIC_HIST : Nat := 0x26000C
/-- MIC_HIST_BASE, Table 14.8 (R306). -/
abbrev MIC_HIST_BASE : Nat := 0x260010
/-- MIC_MUTE, Table 14.8 (R306). -/
abbrev MIC_MUTE : Nat := 0x260014
/-- MIC_STATUS, Table 14.8 (R306). -/
abbrev MIC_STATUS : Nat := 0x260018
/-- MIC_WPOS_LO, Table 14.8 (R306). -/
abbrev MIC_WPOS_LO : Nat := 0x260020
/-- MIC_WPOS_HI, Table 14.8 (R306). -/
abbrev MIC_WPOS_HI : Nat := 0x260024
/-- MIC_START_LO, Table 14.8 (R306). -/
abbrev MIC_START_LO : Nat := 0x260028
/-- MIC_START_HI, Table 14.8 (R306). -/
abbrev MIC_START_HI : Nat := 0x26002C
/-- MIC_CLIP_m, Table 14.8 (R306). -/
abbrev MIC_CLIP (m : Nat) : Nat := 0x260030 + 4 * m
/-- MIC_EVT, Table 14.8 (R306). -/
abbrev MIC_EVT : Nat := 0x260040
/-- MIC_IRQ_EN, Table 14.8 (R306). -/
abbrev MIC_IRQ_EN : Nat := 0x260044
/-- DAWN_STATUS, Table 14.10 (R307). -/
abbrev DAWN_STATUS : Nat := 0x270000
/-- DAWN_CFG, Table 14.10 (R307). -/
abbrev DAWN_CFG : Nat := 0x270004
/-- DAWN_WINDOW, Table 14.10 (R307). -/
abbrev DAWN_WINDOW : Nat := 0x270008
/-- DAWN_UTT, Table 14.10 (R307). -/
abbrev DAWN_UTT : Nat := 0x27000C
/-- DAWN_CASCADE, Table 14.10 (R307). -/
abbrev DAWN_CASCADE : Nat := 0x270010
/-- DAWN_ASSIST, Table 14.10 (R307). -/
abbrev DAWN_ASSIST : Nat := 0x270014
/-- DAWN_HW_HOLD, Table 14.10 (R307). -/
abbrev DAWN_HW_HOLD : Nat := 0x270018
/-- DAWN_WAKE_POS_LO, Table 14.10 (R307). -/
abbrev DAWN_WAKE_POS_LO : Nat := 0x270020
/-- DAWN_WAKE_POS_HI, Table 14.10 (R307). -/
abbrev DAWN_WAKE_POS_HI : Nat := 0x270024
/-- DAWN_U_LO, Table 14.10 (R307). -/
abbrev DAWN_U_LO : Nat := 0x270028
/-- DAWN_U_HI, Table 14.10 (R307). -/
abbrev DAWN_U_HI : Nat := 0x27002C
/-- DAWN_FEED_LO, Table 14.10 (R307). -/
abbrev DAWN_FEED_LO : Nat := 0x270030
/-- DAWN_FEED_HI, Table 14.10 (R307). -/
abbrev DAWN_FEED_HI : Nat := 0x270034
/-- DAWN_SCORE, Table 14.10 (R307). -/
abbrev DAWN_SCORE : Nat := 0x270038
/-- DAWN_DETECTS, Table 14.10 (R307). -/
abbrev DAWN_DETECTS : Nat := 0x270040
/-- DAWN_REJECTS, Table 14.10 (R307). -/
abbrev DAWN_REJECTS : Nat := 0x270044
/-- DAWN_REFIRES, Table 14.10 (R307). -/
abbrev DAWN_REFIRES : Nat := 0x270048
/-- DAWN_RESTARTS, Table 14.10 (R307). -/
abbrev DAWN_RESTARTS : Nat := 0x27004C
/-- DAWN_GAPS, Table 14.10 (R307). -/
abbrev DAWN_GAPS : Nat := 0x270050
/-- DAWN_DELIVERIES, Table 14.10 (R307). -/
abbrev DAWN_DELIVERIES : Nat := 0x270054
/-- DAWN_HOST_WAKE, Table 14.10 (R307). -/
abbrev DAWN_HOST_WAKE : Nat := 0x270060
/-- DAWN_EVT, Table 14.10 (R307). -/
abbrev DAWN_EVT : Nat := 0x270070
/-- DAWN_IRQ_EN, Table 14.10 (R307). -/
abbrev DAWN_IRQ_EN : Nat := 0x270074
/-- DAWN_TXT_i, Table 14.10 (R307). -/
abbrev DAWN_TXT (i : Nat) : Nat := 0x270100 + 4 * i
/-- CAM_CFG, Table 15.12 (R332). -/
abbrev CAM_CFG : Nat := 0x240000
/-- CAM_SIZE, Table 15.12 (R332). -/
abbrev CAM_SIZE : Nat := 0x240004
/-- CAM_STATUS, Table 15.12 (R332). -/
abbrev CAM_STATUS : Nat := 0x240008
/-- CAM_FRAME, Table 15.12 (R332). -/
abbrev CAM_FRAME : Nat := 0x24000C
/-- CAM_BROKEN, Table 15.12 (R332). -/
abbrev CAM_BROKEN : Nat := 0x240010
/-- CAM_TIMEOUT, Table 15.12 (R332). -/
abbrev CAM_TIMEOUT : Nat := 0x240014
/-- CAM_MV_IDLE, Table 15.12 (R332). -/
abbrev CAM_MV_IDLE : Nat := 0x240018
/-- CAM_MV_SKIPS, Table 15.12 (R332). -/
abbrev CAM_MV_SKIPS : Nat := 0x24001C
/-- CAM_OUT_CFG_o, Table 15.12 (R332). -/
abbrev CAM_OUT_CFG (o : Nat) : Nat := 0x240020 + 32 * o
/-- CAM_OUT_SIZE_o, Table 15.12 (R332). -/
abbrev CAM_OUT_SIZE (o : Nat) : Nat := 0x240024 + 32 * o
/-- CAM_OUT_BASE_o_LO, Table 15.12 (R332). -/
abbrev CAM_OUT_BASE_LO (o : Nat) : Nat := 0x240028 + 32 * o
/-- CAM_OUT_BASE_o_HI, Table 15.12 (R332). -/
abbrev CAM_OUT_BASE_HI (o : Nat) : Nat := 0x24002C + 32 * o
/-- CAM_OUT_PITCH_o, Table 15.12 (R332). -/
abbrev CAM_OUT_PITCH (o : Nat) : Nat := 0x240030 + 32 * o
/-- CAM_OUT_HEAD_o, Table 15.12 (R332). -/
abbrev CAM_OUT_HEAD (o : Nat) : Nat := 0x240034 + 32 * o
/-- CAM_OUT_STAT_o, Table 15.12 (R332). -/
abbrev CAM_OUT_STAT (o : Nat) : Nat := 0x240038 + 32 * o
/-- CAM_STATS_BASE_LO, Table 15.12 (R332). -/
abbrev CAM_STATS_BASE_LO : Nat := 0x240080
/-- CAM_STATS_BASE_HI, Table 15.12 (R332). -/
abbrev CAM_STATS_BASE_HI : Nat := 0x240084
/-- CAM_STATS_SLOTS, Table 15.12 (R332). -/
abbrev CAM_STATS_SLOTS : Nat := 0x240088
/-- CAM_STATS_HEAD, Table 15.12 (R332). -/
abbrev CAM_STATS_HEAD : Nat := 0x24008C
/-- CAM_EVT, Table 15.12 (R332). -/
abbrev CAM_EVT : Nat := 0x2400A0
/-- CAM_IRQ_EN, Table 15.12 (R332). -/
abbrev CAM_IRQ_EN : Nat := 0x2400A4
/-- IPL_COMMIT, Table 15.14 (R333). -/
abbrev IPL_COMMIT : Nat := 0x250000
/-- IPL_ACTIVE_ID, Table 15.14 (R333). -/
abbrev IPL_ACTIVE_ID : Nat := 0x250004
/-- IPL_DEFECT, Table 15.14 (R333). -/
abbrev IPL_DEFECT : Nat := 0x250010
/-- IPL_BLACK_c, Table 15.14 (R333). -/
abbrev IPL_BLACK (c : Nat) : Nat := 0x250020 + 4 * c
/-- IPL_WB_GAIN_c, Table 15.14 (R333). -/
abbrev IPL_WB_GAIN (c : Nat) : Nat := 0x250030 + 4 * c
/-- IPL_CCM_i, Table 15.14 (R333). -/
abbrev IPL_CCM (i : Nat) : Nat := 0x250040 + 4 * i
/-- IPL_TABLE_t_LO, Table 15.14 (R333). -/
abbrev IPL_TABLE_LO (t : Nat) : Nat := 0x250080 + 8 * t
/-- IPL_TABLE_t_HI, Table 15.14 (R333). -/
abbrev IPL_TABLE_HI (t : Nat) : Nat := 0x250084 + 8 * t
/-- IPL_MESH_DIM_o, Table 15.14 (R333). -/
abbrev IPL_MESH_DIM (o : Nat) : Nat := 0x2500B0 + 4 * o
/-- IPL_SET_CTRL_s, Table 15.14 (R333). -/
abbrev IPL_SET_CTRL (s : Nat) : Nat := 0x250800 + 32 * s
/-- IPL_SET_DESC_s, Table 15.14 (R333). -/
abbrev IPL_SET_DESC (s : Nat) : Nat := 0x250804 + 32 * s
/-- IPL_SET_ACK_s, Table 15.14 (R333). -/
abbrev IPL_SET_ACK (s : Nat) : Nat := 0x250808 + 32 * s
/-- IPL_SET_STATUS_s, Table 15.14 (R333). -/
abbrev IPL_SET_STATUS (s : Nat) : Nat := 0x25080C + 32 * s
/-- IPL_SET_HITS_s, Table 15.14 (R333). -/
abbrev IPL_SET_HITS (s : Nat) : Nat := 0x250810 + 32 * s
/-- IPL_EVT, Table 15.14 (R333). -/
abbrev IPL_EVT : Nat := 0x250900
/-- IPL_IRQ_EN, Table 15.14 (R333). -/
abbrev IPL_IRQ_EN : Nat := 0x250904
/-- VIL_STATUS, Table 16.7 (R350). -/
abbrev VIL_STATUS (p : Nat) : Nat := 0x280000 + 0x10000 * p
/-- VIL_PEER, Table 16.7 (R350). -/
abbrev VIL_PEER (p : Nat) : Nat := 0x280004 + 0x10000 * p
/-- VIL_HOP_NS, Table 16.7 (R350). -/
abbrev VIL_HOP_NS (p : Nat) : Nat := 0x280008 + 0x10000 * p
/-- VIL_TX_FLITS_LO, Table 16.7 (R350). -/
abbrev VIL_TX_FLITS_LO (p : Nat) : Nat := 0x280010 + 0x10000 * p
/-- VIL_TX_FLITS_HI, Table 16.7 (R350). -/
abbrev VIL_TX_FLITS_HI (p : Nat) : Nat := 0x280014 + 0x10000 * p
/-- VIL_RX_FLITS_LO, Table 16.7 (R350). -/
abbrev VIL_RX_FLITS_LO (p : Nat) : Nat := 0x280018 + 0x10000 * p
/-- VIL_RX_FLITS_HI, Table 16.7 (R350). -/
abbrev VIL_RX_FLITS_HI (p : Nat) : Nat := 0x28001C + 0x10000 * p
/-- VIL_CRC_ERRORS, Table 16.7 (R350). -/
abbrev VIL_CRC_ERRORS (p : Nat) : Nat := 0x280020 + 0x10000 * p
/-- VIL_REPLAYS, Table 16.7 (R350). -/
abbrev VIL_REPLAYS (p : Nat) : Nat := 0x280024 + 0x10000 * p
/-- VIL_DISCARDS, Table 16.7 (R350). -/
abbrev VIL_DISCARDS (p : Nat) : Nat := 0x280028 + 0x10000 * p
/-- VIL_DROPPED, Table 16.7 (R350). -/
abbrev VIL_DROPPED (p : Nat) : Nat := 0x28002C + 0x10000 * p
/-- VIL_EVT, Table 16.7 (R350). -/
abbrev VIL_EVT (p : Nat) : Nat := 0x280030 + 0x10000 * p
/-- VIL_IRQ_EN, Table 16.7 (R350). -/
abbrev VIL_IRQ_EN (p : Nat) : Nat := 0x280034 + 0x10000 * p
/-- PWR_STATUS, Table 17.13 (R366). -/
abbrev PWR_STATUS : Nat := 0x020000
/-- PWR_STATE_REQ, Table 17.13 (R366). -/
abbrev PWR_STATE_REQ : Nat := 0x020004
/-- PWR_DOMAIN, Table 17.13 (R366). -/
abbrev PWR_DOMAIN : Nat := 0x020008
/-- PWR_BLOCKERS, Table 17.13 (R366). -/
abbrev PWR_BLOCKERS : Nat := 0x02000C
/-- PWR_WAKE_SRC, Table 17.13 (R366). -/
abbrev PWR_WAKE_SRC : Nat := 0x020010
/-- PWR_TIMER, Table 17.13 (R366). -/
abbrev PWR_TIMER : Nat := 0x020014
/-- PWR_TEMP, Table 17.13 (R366). -/
abbrev PWR_TEMP : Nat := 0x020018
/-- PWR_VOTE_c, Table 17.13 (R366). -/
abbrev PWR_VOTE (c : Nat) : Nat := 0x020040 + 4 * c
/-- PWR_EVT, Table 17.13 (R366). -/
abbrev PWR_EVT : Nat := 0x020060
/-- PWR_IRQ_EN, Table 17.13 (R366). -/
abbrev PWR_IRQ_EN : Nat := 0x020064
/-- LKT_CFG, Table 18.9 (R387). -/
abbrev LKT_CFG : Nat := 0x040000
/-- LKT_TILE_NS, Table 18.9 (R387). -/
abbrev LKT_TILE_NS : Nat := 0x040004
/-- LKT_DMA_BASE_US, Table 18.9 (R387). -/
abbrev LKT_DMA_BASE_US : Nat := 0x040008
/-- LKT_DMA_MBPS, Table 18.9 (R387). -/
abbrev LKT_DMA_MBPS : Nat := 0x04000C
/-- LKT_PEER_US, Table 18.9 (R387). -/
abbrev LKT_PEER_US : Nat := 0x040010
/-- LKT_KWD_MS, Table 18.9 (R387). -/
abbrev LKT_KWD_MS : Nat := 0x040014
/-- LKT_KICK_K, Table 18.9 (R387). -/
abbrev LKT_KICK_K : Nat := 0x040018
/-- LKT_SWD_MS, Table 18.9 (R387). -/
abbrev LKT_SWD_MS : Nat := 0x04001C
/-- LKT_KICK_S, Table 18.9 (R387). -/
abbrev LKT_KICK_S : Nat := 0x040020
/-- LKT_MISS_LIMIT, Table 18.9 (R387). -/
abbrev LKT_MISS_LIMIT : Nat := 0x040024
/-- LKT_TEST_CFG, Table 18.9 (R387). -/
abbrev LKT_TEST_CFG : Nat := 0x040028
/-- LKT_LAST, Table 18.9 (R387). -/
abbrev LKT_LAST : Nat := 0x040030
/-- LKT_COUNT_k, Table 18.9 (R387). -/
abbrev LKT_COUNT (k : Nat) : Nat := 0x040040 + 4 * k
/-- LKT_DROPPED_Dd, Table 18.9 (R387). -/
abbrev LKT_DROPPED (d : Nat) : Nat := 0x040080 + 4 * d
/-- LKT_TEST_REQ, Table 18.9 (R387). -/
abbrev LKT_TEST_REQ : Nat := 0x0400C0
/-- LKT_TEST_STATUS, Table 18.9 (R387). -/
abbrev LKT_TEST_STATUS : Nat := 0x0400C4
/-- LKT_TEST_FAIL, Table 18.9 (R387). -/
abbrev LKT_TEST_FAIL : Nat := 0x0400C8
/-- LKT_TEST_PASSES, Table 18.9 (R387). -/
abbrev LKT_TEST_PASSES : Nat := 0x0400CC
/-- LKT_EVT, Table 18.9 (R387). -/
abbrev LKT_EVT : Nat := 0x0400E0
/-- LKT_IRQ_EN, Table 18.9 (R387). -/
abbrev LKT_IRQ_EN : Nat := 0x0400E4
/-- LKT_MARGIN_g, Table 18.9 (R387). -/
abbrev LKT_MARGIN (g : Nat) : Nat := 0x040100 + 4 * g
/-- SEC_STATUS, Table 19.11 (R410). -/
abbrev SEC_STATUS : Nat := 0x010000
/-- SEC_DEVICE_ID_i, Table 19.11 (R410). -/
abbrev SEC_DEVICE_ID (i : Nat) : Nat := 0x010010 + 4 * i
/-- SEC_BOOT_COUNT, Table 19.11 (R410). -/
abbrev SEC_BOOT_COUNT : Nat := 0x010020
/-- SEC_OS_BASE_LO, Table 19.11 (R410). -/
abbrev SEC_OS_BASE_LO : Nat := 0x010030
/-- SEC_OS_BASE_HI, Table 19.11 (R410). -/
abbrev SEC_OS_BASE_HI : Nat := 0x010034
/-- SEC_OS_BYTES_LO, Table 19.11 (R410). -/
abbrev SEC_OS_BYTES_LO : Nat := 0x010038
/-- SEC_OS_BYTES_HI, Table 19.11 (R410). -/
abbrev SEC_OS_BYTES_HI : Nat := 0x01003C
/-- SEC_SVC_BASE_LO, Table 19.11 (R410). -/
abbrev SEC_SVC_BASE_LO : Nat := 0x010040
/-- SEC_SVC_BASE_HI, Table 19.11 (R410). -/
abbrev SEC_SVC_BASE_HI : Nat := 0x010044
/-- SEC_SVC_BYTES_LO, Table 19.11 (R410). -/
abbrev SEC_SVC_BYTES_LO : Nat := 0x010048
/-- SEC_SVC_BYTES_HI, Table 19.11 (R410). -/
abbrev SEC_SVC_BYTES_HI : Nat := 0x01004C
/-- SEC_DENIED, Table 19.11 (R410). -/
abbrev SEC_DENIED : Nat := 0x010060
/-- SEC_EVT, Table 19.11 (R410). -/
abbrev SEC_EVT : Nat := 0x010070
/-- SEC_IRQ_EN, Table 19.11 (R410). -/
abbrev SEC_IRQ_EN : Nat := 0x010074
/-- MBX_REQ_i, Table 19.11 (R410). -/
abbrev MBX_REQ (b i : Nat) : Nat := 0x011000 + 0x400 * b + 4 * i
/-- MBX_DOORBELL, Table 19.11 (R410). -/
abbrev MBX_DOORBELL (b : Nat) : Nat := 0x011100 + 0x400 * b
/-- MBX_STATUS, Table 19.11 (R410). -/
abbrev MBX_STATUS (b : Nat) : Nat := 0x011104 + 0x400 * b
/-- MBX_RSP_i, Table 19.11 (R410). -/
abbrev MBX_RSP (b i : Nat) : Nat := 0x011200 + 0x400 * b + 4 * i
/-- SEC_WIN_w_j, Table 19.11 (R410). -/
abbrev SEC_WIN (w j : Nat) : Nat := 0x012000 + 16 * w + 4 * j
/-- EVR_STATUS, Table 20.4 (R418). -/
abbrev EVR_STATUS : Nat := 0x030000
/-- EVR_HEAD, Table 20.4 (R418). -/
abbrev EVR_HEAD : Nat := 0x030004
/-- EVR_LOST, Table 20.4 (R418). -/
abbrev EVR_LOST : Nat := 0x030008
/-- EVR_SUPPRESSED, Table 20.4 (R418). -/
abbrev EVR_SUPPRESSED : Nat := 0x03000C
/-- EVR_WINDOW_MS, Table 20.4 (R418). -/
abbrev EVR_WINDOW_MS : Nat := 0x030010
/-- EVR_LIMIT_g, Table 20.4 (R418). -/
abbrev EVR_LIMIT (g : Nat) : Nat := 0x030040 + 4 * g
/-- EVR_EVT, Table 20.4 (R418). -/
abbrev EVR_EVT : Nat := 0x030080
/-- EVR_IRQ_EN, Table 20.4 (R418). -/
abbrev EVR_IRQ_EN : Nat := 0x030084
/-- EVR_SEL_p, Table 20.4 (R418). -/
abbrev EVR_SEL (p : Nat) : Nat := 0x030100 + 0x40 * p
/-- EVR_DATA_p_i, Table 20.4 (R418). -/
abbrev EVR_DATA (p i : Nat) : Nat := 0x030120 + 0x40 * p + 4 * i
/-- PCI_STATUS, Table 22.8 (R443). -/
abbrev PCI_STATUS : Nat := 0x2B0000
/-- PCI_OB_BASE_LO, Table 22.8 (R443). -/
abbrev PCI_OB_BASE_LO : Nat := 0x2B0008
/-- PCI_OB_BASE_HI, Table 22.8 (R443). -/
abbrev PCI_OB_BASE_HI : Nat := 0x2B000C
/-- PCI_HOST_STATUS, Table 22.8 (R443). -/
abbrev PCI_HOST_STATUS : Nat := 0x2B0010
/-- PCI_SQ_PEND_i, Table 22.8 (R443). -/
abbrev PCI_SQ_PEND (i : Nat) : Nat := 0x2B0020 + 4 * i
/-- PCI_DENIED, Table 22.8 (R443). -/
abbrev PCI_DENIED : Nat := 0x2B0040
/-- PCI_EVT, Table 22.8 (R443). -/
abbrev PCI_EVT : Nat := 0x2B0050
/-- PCI_IRQ_EN, Table 22.8 (R443). -/
abbrev PCI_IRQ_EN : Nat := 0x2B0054
/-- QP_CFG_q, Table 22.8 (R443). -/
abbrev QP_CFG (q : Nat) : Nat := 0x2B1000 + 32 * q
/-- QP_BASE_q_LO, Table 22.8 (R443). -/
abbrev QP_BASE_LO (q : Nat) : Nat := 0x2B1004 + 32 * q
/-- QP_BASE_q_HI, Table 22.8 (R443). -/
abbrev QP_BASE_HI (q : Nat) : Nat := 0x2B1008 + 32 * q
/-- QP_SQ_q, Table 22.8 (R443). -/
abbrev QP_SQ (q : Nat) : Nat := 0x2B100C + 32 * q
/-- QP_SQ_HEAD_q, Table 22.8 (R443). -/
abbrev QP_SQ_HEAD (q : Nat) : Nat := 0x2B1010 + 32 * q
/-- QP_CQ_TAIL_q, Table 22.8 (R443). -/
abbrev QP_CQ_TAIL (q : Nat) : Nat := 0x2B1014 + 32 * q
/-- QP_CQ_q, Table 22.8 (R443). -/
abbrev QP_CQ (q : Nat) : Nat := 0x2B1018 + 32 * q
/-- MGT_STATUS, Table 22.9 (R444). -/
abbrev MGT_STATUS : Nat := 0x2C0000
/-- MGT_IPV4, Table 22.9 (R444). -/
abbrev MGT_IPV4 : Nat := 0x2C0004
/-- MGT_SESSIONS, Table 22.9 (R444). -/
abbrev MGT_SESSIONS : Nat := 0x2C0008
/-- MGT_AUTH_FAIL, Table 22.9 (R444). -/
abbrev MGT_AUTH_FAIL : Nat := 0x2C000C
/-- MGT_EVT, Table 22.9 (R444). -/
abbrev MGT_EVT : Nat := 0x2C0010
/-- MGT_IRQ_EN, Table 22.9 (R444). -/
abbrev MGT_IRQ_EN : Nat := 0x2C0014

end Reg
end Sys2Proof.Machine
end

