-- ==== Sys2Proof/Machine/State.lean ====
section
/-! DEFINITION. The state of the device, its faults and refusals, and the state after reset. -/
namespace Sys2Proof.Machine
open Sys2Proof

/-- Who raises it: nothing in this model; every command of the spec goes on (log entry 2). A fault of the chip itself
(a Grove fault, a page fault, a FAULTED context) is state, not a stop. Safe. -/
inductive Fault where
  /-- Raised by no command. Safe. -/
  | none
  deriving DecidableEq, Repr

/-- Why a step is refused. -/
inductive Refusal where
  /-- Raised by the arm of a command that has no meaning yet: none is left. Safe. -/
  | notModelled (mnemonic : String)
  deriving DecidableEq, Repr

/-- The answer of the last access of an initiator (R5, R19, R376, R432). -/
inductive BusAnswer where
  | none
  | data (v : Nat)
  | done
  | busError
  | held
  | unsupportedRequest
  | completerAbort
  | discarded
  deriving DecidableEq, Repr

/-- A range of memory whose bytes are free values until they are written: power-on RAM, or contents lost (log entry 4). -/
structure LostRange where
  start : Nat
  stop : Nat
  epoch : Nat
  deriving DecidableEq, Repr

/-! ### Event recorder (chapter 20) -/

/-- An event record (R412, Table 20.1). -/
structure Record where
  seq : Nat := 0
  time : Nat := 0
  code : Nat := 0
  src : Nat := 0
  summary : Bool := false
  gen : Nat := 0
  domain : Nat := 0
  ctx : Option Nat := Option.none
  stream : Option Nat := Option.none
  args : List Nat := []
  deriving DecidableEq, Repr

/-- What one code has done in the current window of the rate limit (R415). -/
structure RateEntry where
  code : Nat
  count : Nat := 0
  suppressed : Nat := 0
  firstTime : Nat := 0
  lastTime : Nat := 0
  first : Record := {}
  deriving DecidableEq, Repr

/-- The event recorder's own state (R411 to R415): the next SEQ, both areas, the D0 queue and the rate limit. -/
structure Recorder where
  seq : Nat := 0
  wrapped : Bool := false
  first : Tbl Record := []
  last : Tbl Record := []
  queue : List Record := []
  lostPending : Nat := 0
  rates : List RateEntry := []
  deriving DecidableEq, Repr

/-! ### Reset and power domains (chapters 1, 17, 18) -/

/-- The power state of a domain, as PWR_DOMAIN codes it (R366). -/
inductive DomainPower where
  | off | ret | idle | on
  deriving DecidableEq, Repr

/-- Who requested a reset (Table 20.7, REQUESTER): its code, the Lookout code and the implying domain. -/
structure ResetRequest where
  requester : Nat
  lktCode : Nat := 0
  implier : Nat := 0
  deriving DecidableEq, Repr

/-- One reset domain (R27 to R30): its tag, whether it is in reset, and the requests not yet taken. -/
structure Domain where
  tag : Nat := 1
  inReset : Bool := true
  requests : List ResetRequest := []
  power : DomainPower := .on
  deriving DecidableEq, Repr

/-! ### Non-volatile storage, start-up and update (chapter 21) -/

/-- The xSPI flash (R424, R425): directory copies, helper data and slots, each as the bytes it holds (an empty list is
an erased region). -/
structure Flash where
  dir0 : List Byte := []
  dir1 : List Byte := []
  helper : List Byte := []
  patchA : List Byte := []
  patchB : List Byte := []
  svcA : List Byte := []
  svcB : List Byte := []
  planA : List Byte := []
  planB : List Byte := []
  jesdMib : Nat := 64
  deriving DecidableEq, Repr

/-- The commit state of replay-protected block 1 (Table 21.4). -/
inductive CommitState where
  | idle | pending | committed
  deriving DecidableEq, Repr

/-- The eMMC (R426, Table 21.4): OS slots, OS data area by sector, and the replay-protected records. -/
structure Emmc where
  readable : Bool := true
  osA : List Byte := []
  osB : List Byte := []
  osData : Tbl (List Byte) := []
  rpmbKey : Option Nat := Option.none
  idDigest : List Byte := []
  bootCount : Nat := 0
  planRb : Nat := 0
  patchRb : Nat := 0
  svcRb : Nat := 0
  commit : CommitState := .idle
  target : Nat := 0
  newVersions : List Nat := []
  newDigests : List (List Byte) := []
  credential : List Byte := []
  ipv4 : Option (Nat × Nat) := Option.none
  planKeys : List (List Byte) := [[], [], [], []]
  deriving DecidableEq, Repr

/-- An open staging session (R427). -/
structure Staging where
  component : Nat
  bytes : Nat
  deriving DecidableEq, Repr

/-- Start-up and update as they run (R419 to R428): bit n of `steps` says that step n of Table 21.1 has been taken, and `layout`
holds the OS region's base and size and the service region's base and size (R423). -/
structure Boot where
  steps : Nat := 0
  cold : Bool := true
  patch : List Byte := []
  patchRuns : Bool := false
  service : List Byte := []
  serviceRuns : Bool := false
  osRuns : Bool := false
  bootActive : Nat := 0
  staging : Option Staging := Option.none
  staged : Nat := 0
  stagedDigests : List (List Byte) := [[], [], [], []]
  layout : List Nat := [0, 0, 0, 0]
  deriving DecidableEq, Repr

/-! ### DDR5 and the two-symbol code (chapter 12) -/

/-- The DDR5 controller's own state (R239 to R251). -/
structure Ddr where
  savedSpeed : Nat := 0
  savedMask : Nat := 0
  trainSpeed : Nat := 0
  trainMask : Nat := 0
  trainDone : Bool := false
  scrubTier : Nat := 0
  scrubUnit : Nat := 0
  scrubLine : Nat := 0
  passCorr : Tbl Nat := []
  stormSet : Nat := 0
  checkDirty : List Nat := []
  deriving DecidableEq, Repr

/-! ### Trust and isolation (chapter 19) -/

/-- One loaded weight package (R401, R402). -/
structure Package where
  kind : Nat
  object : Nat
  digest : List Byte
  deriving DecidableEq, Repr

/-- What the security engine derives from the seed (R398): the identity and wrapping private keys, and DEVICE_ID. -/
structure DeviceKeys where
  identity : Nat := 0
  wrap : Nat := 0
  id : List Byte := []
  deriving DecidableEq, Repr

/-- The security engine and the kernel's mailbox state (R389 to R404). `seed` says that the identity is available, and `keys` are
its keys. `heldWin` is the window table as a reset of D1 found it,
for the accesses that the reset holds (R376; log entry 16). -/
structure Security where
  lastTaken : Nat := 1
  seed : Bool := false
  keys : DeviceKeys := {}
  attestKey : Option Nat := Option.none
  certificate : List Byte := []
  sealKeys : Tbl Nat := []
  packages : Tbl (List Package) := []
  heldWin : Tbl Word := []
  deriving DecidableEq, Repr

/-! ### Host link and management (chapter 22) -/

/-- The PCIe endpoint (R430 to R440): the link with its rate and width, the MSI-X table by word, the vectors pending and sent, the
last write sent outbound, and the accesses that a reset of D1 holds. -/
structure Pcie where
  linkUp : Bool := false
  rate : Nat := 0
  width : Nat := 0
  msix : Tbl Word := []
  msixPending : Nat := 0
  msixSent : Tbl Nat := []
  outbound : Option (Nat × Nat) := Option.none
  heldAccesses : List (Initiator × AccessKind × Nat × Nat × Nat) := []
  deriving DecidableEq, Repr

/-- An open management session (R442). -/
structure Session where
  challenge : List Byte
  lastSeq : Nat := 0
  lastResponse : List Byte := []
  deriving DecidableEq, Repr

/-- The management port (R441, R442): the challenge of the last HELLO, the session, the bytes sent last (a
UDP payload, an ICMP message or an ARP packet), and the link. -/
structure Mgmt where
  challenge : Option (List Byte) := Option.none
  session : Option Session := Option.none
  sent : List Byte := []
  link : Bool := false
  deriving DecidableEq, Repr

/-! ### Balls, straps and the test access port (chapter 23) -/

/-- The TAP instructions (R458, Table 23.11). -/
inductive TapInstr where
  | extest | samplePreload | idcode | clamp | highz | bypass
  deriving DecidableEq, Repr

/-- What drives the output balls (R458). -/
inductive BallDrive where
  | device | boundary | highImpedance
  deriving DecidableEq, Repr

/-- The test access port (R458): the selected instruction, what its data register reads, the boundary register and what drives the
balls. -/
structure Tap where
  instr : TapInstr := .idcode
  data : Nat := 0x17140E6F
  boundary : Nat := 0
  drive : BallDrive := .device
  deriving DecidableEq, Repr

/-- The balls whose levels the spec gives a meaning (chapters 3, 13, 14, 23): strap levels of the board, enables, power-good
inputs, ALIVE, HPD of both links, and the levels of the balls of the boundary chain as one number. -/
structure Pins where
  chipId : Nat := 0
  population : Nat := 0
  density : Nat := 0
  maxSpeed : Nat := 0
  mgtEnroll : Bool := false
  testEn : Bool := false
  alive : Bool := false
  enRet : Bool := true
  enRun : Bool := true
  pgRet : Bool := true
  pgRun : Bool := true
  porAsserted : Bool := false
  wakeIn : Bool := false
  balls : Nat := 0
  deriving DecidableEq, Repr

/-! ### Plans and modes (chapter 2) -/

/-- The role of a Grove in a mode (R13). -/
inductive Role where
  | off | standing | open
  deriving DecidableEq, Repr

/-- A DMA reservation record (R42, Table 2.4). -/
structure Reservation where
  tier : Nat
  rate : Nat
  bytes : Nat
  transfers : Nat
  deriving DecidableEq, Repr

/-- A standing list (R39): its commands are the 32-byte words as little-endian numbers. -/
structure ListRec where
  stream : Nat
  mode : Nat
  grove : Nat
  slot : Nat
  cmds : List Nat
  rsv : List Reservation
  deriving DecidableEq, Repr

/-- A mode record (R38, Table 2.3); `roles` is the GROVE_ROLE word. -/
structure ModeRec where
  id : Nat
  roles : Nat
  opPoint : Nat
  tickMax : Nat
  period : Nat
  cooler : Nat
  streamMask : Nat
  deriving DecidableEq, Repr

/-- A stream record with its parameter block (R459). -/
structure StreamRec where
  id : Nat
  kind : Nat
  params : List Byte
  deriving DecidableEq, Repr

/-- A BUFFER region record with its initial contents (R463). -/
structure RegionRec where
  tier : Nat
  grove : Nat
  band : Bool
  pinned : Bool
  stream : Nat
  modeMask : Nat
  offset : Nat
  bytes : Nat
  init : List Byte
  deriving DecidableEq, Repr

/-- A weight-package record with its package (R464). -/
structure PackageRec where
  stream : Nat
  place : Nat
  pkg : List Byte
  deriving DecidableEq, Repr

/-- A plan as admission has read it (R35, R36): records, and the sections that other chapters read in place. -/
structure Plan where
  rom : Bool := false
  version : Nat := 0
  tickSource : Nat := 0
  freeRate : Nat := 1000
  ddrChannels : Nat := 4
  ddrMinGib : Nat := 16
  initialMode : Nat := 0
  buildId : List Byte := []
  modes : List ModeRec := []
  streams : List StreamRec := []
  streamSec : List Byte := []
  lists : List ListRec := []
  regions : List RegionRec := []
  packages : List PackageRec := []
  quota : List Byte := []
  tenants : List (List Byte) := []
  power : List Byte := []
  role : List Byte := []
  hasRole : Bool := false
  keySlot : Nat := 0
  digest : List Byte := []
  deriving DecidableEq, Repr

/-- The ROM plan of Table 2.7 (R48): its power and thermal policy in the layout of Table 17.11. -/
def romPlan : Plan :=
  { rom := true
    modes := [{ id := 0, roles := 1, opPoint := 4, tickMax := 1000, period := 1, cooler := 0, streamMask := 0 }]
    power := [0x0D, 0, 0, 0, 0, 2, 0, 0, 95, 105, 5, 0, 100, 0, 0xE8, 3] ++ List.replicate 16 0 }

/-- The plan in force, the one waiting to replace it, and what a cold start recorded (R31 to R34). -/
structure PlanState where
  running : Plan := romPlan
  next : Option Plan := Option.none
  recordedDigest : Option (List Byte) := Option.none
  lastMode : Nat := 0
  readmitted : Bool := false
  deriving DecidableEq, Repr

/-- A mode change as Table 2.8 runs it (R49 to R53): `requested` is a request not yet taken, `held` one held under R52 or
R355, `step` the last step reached (0 none, 2 taken, 4 resident), and `parked` the Groves whose standing images have been written
over since the change was taken. -/
structure ModeChange where
  cur : Nat := 0
  requested : Option Nat := Option.none
  held : Option Nat := Option.none
  target : Nat := 0
  step : Nat := 0
  changing : List Nat := []
  parked : List Nat := []
  thermalHold : Bool := false
  restart : Bool := false
  restartReady : Bool := false
  deriving DecidableEq, Repr

/-! ### Tick (chapter 3) -/

/-- The tick generator (R55 to R60, R466). Times are ns of its own timeline; `predicted` is the next frame start while lock
is being acquired, `frameTick` says that the next boundary begins tick 0 of a frame, `slotZero` that it begins a mode's first
tick. -/
structure TickGen where
  stopped : Bool := false
  locked : Bool := false
  n : Nat := 0
  startNs : Nat := 0
  endNs : Nat := 1000000
  frameStart : Nat := 0
  period : Nat := 0
  lastStart : Option Nat := Option.none
  goodPeriods : Nat := 0
  predicted : Option Nat := Option.none
  frameTick : Bool := false
  lockNext : Bool := false
  slotZero : Bool := false
  j : Nat := 0
  slot : Nat := 0
  missRun : Tbl Nat := []
  startedStreams : Nat := 0
  deriving DecidableEq, Repr

/-! ### Contexts (chapter 3) -/

/-- The context states of Table 3.3 (R65). -/
inductive CtxState where
  | free | stopped | ready | running | blocked | swapped | swappedBlocked | faulted
  deriving DecidableEq, Repr

/-- A context-table entry (R66, Table 3.4), with what the scheduler keeps beside it: time run of its quantum, a stop request,
its allocation's base in its home Grove, whether it waits for a sequence step, and its swap image (R219). -/
structure Ctx where
  state : CtxState := .free
  prio : Nat := 0
  iso : Nat := 0
  resident : Bool := false
  cause : Nat := 0
  grove : Nat := 0
  mask : Nat := 0
  sramKib : Nat := 0
  ringBase : Nat := 0
  ringOrder : Nat := 0
  head : Nat := 0
  tail : Nat := 0
  quantumUs : Nat := 0
  lastRun : Nat := 0
  chargeUs : Nat := 0
  ranCycles : Nat := 0
  stopReq : Bool := false
  allocBase : Nat := 0
  waitMask : Nat := 0
  serving : Bool := false
  image : List Byte := []
  dirty : List Nat := []
  deriving DecidableEq, Repr

/-! ### Groves (chapter 4) -/

/-- The party that a Skid entry, a transfer or a command belongs to: a standing stream or a context (R85). -/
inductive Owner where
  | stream (i : Nat)
  | ctx (c : Nat)
  deriving DecidableEq, Repr

/-- A command of a standing list that waits for its turn, with its stream and its index in the list (R63). -/
structure Todo where
  stream : Nat
  index : Nat
  cmd : Nat
  deriving DecidableEq, Repr

/-- A Skid entry (R85): its tag, its payload, whether its transfer has completed, and when it was last read. -/
structure SkidEntry where
  owner : Owner
  vslot : Nat
  tag : Nat
  desc : List Byte
  complete : Bool := false
  lastRead : Nat := 0
  payload : List Byte := []
  deriving DecidableEq, Repr

/-- One output block of a command in execution (R104): the bytes of the block, and those of the scale entry once the block's maxima
and counts are merged. -/
structure Drain where
  out : List (Nat × List Byte)
  entry : List (Nat × List Byte)
  deriving DecidableEq, Repr

/-- A command in execution (R83, R102): the bytes it writes at absolute Grove SRAM offsets, its output blocks in the order in which
they drain (none where a command has no such blocks), and the XFER descriptor that its completion issues. -/
structure Exec where
  op : Nat
  cmd : Nat
  owner : Owner
  index : Nat
  cap : Nat
  cycles : Nat
  writes : List (Nat × List Byte) := []
  drains : List Drain := []
  uncorrectable : Option Nat := Option.none
  issues : Option (List Byte × Nat) := Option.none
  deriving DecidableEq, Repr

/-- Every write that a command can make: those of its end, and those of its blocks as they drain. -/
def Exec.touches (e : Exec) : List (Nat × List Byte) := e.writes ++ e.drains.flatMap (fun d => d.out ++ d.entry)

/-- The context or stream of a command in execution. -/
def Exec.stream (e : Exec) : Option Nat := match e.owner with | .stream i => some i | .ctx _ => Option.none
def Exec.ctx (e : Exec) : Option Nat := match e.owner with | .ctx c => some c | .stream _ => Option.none

/-- A level-2 window of a Grove, in fabric cycles from the tick boundary (R69). -/
structure Window where
  ctx : Nat
  start : Nat
  length : Nat
  deriving DecidableEq, Repr

/-- A swap in progress on a Grove (R73 to R76): the context coming in and the victims going out. -/
structure Swap where
  incoming : Option Nat
  victims : List Nat
  save : Bool := false
  deriving DecidableEq, Repr

/-- One Grove: role, standing commands still to run, the command in execution, the context it runs, swap, windows, Skid,
and the rotating tests' progress (R384). -/
structure Grove where
  role : Role := .off
  todo : List Todo := []
  discarded : List Nat := []
  run : Option Exec := Option.none
  lateStream : Option Nat := Option.none
  cur : Option Nat := Option.none
  tickBusy : Nat := 0
  swap : Option Swap := Option.none
  windows : List Window := []
  inWindow : Option Nat := Option.none
  skid : Tbl SkidEntry := []
  replaced : List (Owner × Nat × List Byte) := []
  reads : Nat := 0
  overdue : Bool := false
  idle : Bool := false
  testTiles : Nat := 0
  logicDone : Nat := 0
  delayDone : Nat := 0
  deriving DecidableEq, Repr

/-! ### Page pool (chapter 8) -/

/-- A stored tile (R206, R207): its header bytes, the bytes of its slot in use, and whether a line of it is uncorrectable. -/
structure StoredTile where
  header : List Byte
  slot : List Byte
  bad : Bool := false
  deriving DecidableEq, Repr

/-- A page list (R166): its owner code, CAPACITY and entries (frame numbers, entry 0 first), and its marks. -/
structure PageList where
  owner : Nat
  capacity : Nat
  entries : List Nat := []
  published : Bool := false
  feature : Bool := false
  deriving DecidableEq, Repr

/-- What the tier manager keeps for a frame that is not on the free list (R167). -/
structure Frame where
  refs : Nat
  owner : Nat
  pub : Bool := false
  feature : Bool := false
  draining : Bool := false
  deriving DecidableEq, Repr

/-- The page pool (R165 to R176): a frame with no entry in `used` is on the free list, and a tile with none in `tiles`
(by frame times PAGE_TILES plus tile) is a zero tile. -/
structure PagePool where
  pageTiles : Nat := 0
  frames : Nat := 0
  ptUnits : Nat := 0
  publicMax : Nat := 0
  lists : Tbl PageList := []
  used : Tbl Frame := []
  tiles : Tbl StoredTile := []
  deriving DecidableEq, Repr

/-! ### Objects (chapter 11) -/

/-- The STATE of an object (Table 11.3); FREE objects have no entry. -/
inductive ObjState where
  | ready | moving | draining
  deriving DecidableEq, Repr

/-- An object (R212, R213): its tiles at home and in a staged copy (absent ones are zero tiles), dirty marks of the copy,
the placement it moves to, and the address of a HOST object's data area. -/
structure Obj where
  owner : Nat
  place : Nat
  compress : Bool := false
  sealed : Bool := false
  host : Bool := false
  width : Nat := 0
  state : ObjState := .ready
  standing : Bool := false
  tiles : Nat
  lastUse : Nat := 0
  home : Tbl StoredTile := []
  copy : Tbl StoredTile := []
  dirty : List Nat := []
  target : Nat := 0
  hostBase : Nat := 0
  deriving DecidableEq, Repr

/-- The tier manager's objects (R212 to R224) and an operation that waits for Canopy tiles under R223. -/
structure Tiers where
  objs : Tbl Obj := []
  waiting : Option (Nat × Nat × Nat × Nat) := Option.none
  deriving DecidableEq, Repr

/-- Why a transfer does not proceed: nothing, a MOVING object (R216), or no frame for a copy-on-write (Table 8.9). -/
inductive TransferWait where
  | none | moving | frames
  deriving DecidableEq, Repr

/-- A DMA transfer in flight (R227 to R231): its descriptor, generation tag, the Skid entries that it fills (virtual slot and
entry), the one slot that a refetch fills (R86), pieces moved, page translations, and the fault or the ending that it waits
to deliver. A refetch carries XID 16 plus its virtual slot. -/
structure Transfer where
  owner : Owner
  grove : Nat
  xid : Nat
  desc : List Byte
  tag : Nat
  slots : List (Nat × Nat) := []
  only : Option Nat := Option.none
  moved : Nat := 0
  pages : Tbl Nat := []
  wait : TransferWait := .none
  fault : Option Nat := Option.none
  ended : Bool := false
  acked : Nat := 0
  deriving DecidableEq, Repr

/-- The tile DMA (R227 to R235): transfers in flight by number, the next number, and the context served last in the
round-robin of each PRIO (R229). -/
structure Dma where
  xfers : Tbl Transfer := []
  next : Nat := 0
  lastCtx : Tbl Nat := []
  deriving DecidableEq, Repr

/-! ### Sequence serving (chapter 10) -/

/-- The states of Table 10.2; a FREE entry has none. -/
inductive SeqState where
  | idle | ready | held | done | faulted | retiring
  deriving DecidableEq, Repr

/-- An active-sequence-table entry (R193), with what HOLD and PRIO wait to change at the end of a step (R201). -/
structure SeqEntry where
  state : SeqState
  prio : Nat
  gen : Bool
  stopEn : Bool
  group : Nat
  inStep : Bool := false
  stall : Nat := 0
  owner : Nat
  list : Nat
  chunkMax : Nat
  pos : Nat
  maxPos : Nat
  inHead : Nat := 0
  inTail : Nat
  outHead : Nat
  outTail : Nat := 0
  inBase : Nat
  inOrder : Nat
  outBase : Nat
  outOrder : Nat
  stopToken : Nat
  lastStep : Nat := 0
  skipped : Nat := 0
  rowsServed : Nat := 0
  nextToken : Nat := 0
  nextValid : Bool := false
  holdReq : Bool := false
  prioReq : Option Nat := Option.none
  deriving DecidableEq, Repr

/-- A row group of a step (R196): its entry, rows, the ring words it consumed and whether it yields a result. -/
structure RowGroup where
  entry : Nat
  row0 : Nat
  rows : Nat
  consumed : Nat
  yields : Bool
  deriving DecidableEq, Repr

/-- A serving group's step in flight, its released TAIL, and the outputs that an ISO 2 group holds for its boundary (R196 to
R204). -/
structure SeqGroup where
  flight : Option (List RowGroup) := Option.none
  released : Bool := false
  goTail : Option Nat := Option.none
  started : Bool := false
  outbox : List (Nat × Nat) := []
  deriving DecidableEq, Repr

/-- The active sequence table. -/
structure SeqTable where
  entries : Tbl SeqEntry := []
  groups : Tbl SeqGroup := []
  deriving DecidableEq, Repr

/-! ### Picture path (chapter 13) -/

/-- The picture path (R253 to R282): the input timing, the band cutter, feature-valid bits, what each band of the output
frame was taken from, peers' band status, and the rows emitted of the output frame in progress (three planes of 16-bit
codes a row). Bands in `done`, `covered` and `rootSent` are keyed by frame modulo 4 times 256 plus band; `firstFrame`
is the first source frame after a loss or a timing change, `outFrame` the source frame of the output frame in progress and
`outGen` says that it is the generated frame of a pair. -/
structure Picture where
  timing : Option VideoTiming := Option.none
  frameMhz : Nat := 0
  width : Nat := 0
  height : Nat := 0
  origins : Tbl (Nat × Nat) := []
  lost : Bool := true
  frame : Nat := 0
  rows : Nat := 0
  cutting : Bool := false
  nextBand : Nat := 0
  tickBand : Option Nat := Option.none
  done : List Nat := []
  feat0 : List Nat := []
  feat1 : List Nat := []
  cover : Bool := false
  outRunning : Bool := false
  outNext : Nat := 0
  sources : Tbl Nat := []
  emitted : Tbl (List (List Nat)) := []
  peers : Tbl Bool := []
  rootSent : List Nat := []
  mutePending : Bool := true
  outMhz : Nat := 0
  sinkHpd : Bool := false
  sinkTiming : Option (Nat × Nat) := Option.none
  sinkRates : List Nat := []
  lastTrainUs : Option Nat := Option.none
  trainFailed : Bool := false
  retrainDue : Bool := false
  firstFrame : Nat := 0
  frameBad : Bool := false
  dscBad : Bool := false
  covered : List Nat := []
  outFrame : Nat := 0
  outGen : Bool := false
  outMuted : Bool := true
  outKey : Nat := 0
  muteCode : Nat := 0x20080040
  deriving DecidableEq, Repr

/-! ### Listening (chapter 14) -/

/-- The Dawn domain's own state (R283 to R305): consecutive hops at threshold, the frame from which hops count, whether
frames are muted, the HOST_WAKE reason of the last completed stage, whether the listening lists of the tick ran, a detection
waiting for an exit from S2, when HOST_WAKE was asserted, the Dawn cell's weight SRAM, the plan's DEPTH word, and the bias
outputs that a fault switched off. -/
structure Listening where
  hits : Nat := 0
  hopFrom : Nat := 0
  muted : Bool := false
  lastDone : Nat := 0
  listsRan : Bool := false
  exitWait : Bool := false
  dawnImage : List Byte := []
  presenceImage : List Byte := []
  depths : Nat := 0
  biasOff : Nat := 0
  deriving DecidableEq, Repr

/-! ### Camera and sample sets (chapter 15) -/

/-- A committed parameter set (R312): its ID, the values of the IPL parameter registers, the tables' bytes and mesh sizes. -/
structure ParamSet where
  id : Nat := 0
  defect : Nat := 0x1000
  black : List Nat := [0x1000, 0x1000, 0x1000, 0x1000]
  gains : List Nat := [0x1000, 0x1000, 0x1000, 0x1000]
  ccm : List Nat := []
  tables : List (List Byte) := [[], [], [], [], []]
  dims : List Nat := [0x202, 0x202, 0x202]
  deriving DecidableEq, Repr

/-- A sensor frame in progress: its number, the tick and parameter set at its VSYNC start, whether it is to be a presence
frame, and whether the capture unit of D0 takes it (R320). -/
structure CamFrame where
  frame : Nat
  tick : Nat
  params : ParamSet
  presence : Bool
  d0 : Bool := false
  deriving DecidableEq, Repr

/-- The camera (R308 to R323): the frame in progress, the parameter set in force and the one committed, drops of each output
since its last record, the statistics ring's TAIL, the look area's frame, and the presence unit. `rings` holds each ring's base and
its pitch (its slots, for ring 2) as the kernel keeps them to write them again after a reset of D8, and `d0Cfg` CAM_CFG and
CAM_SIZE as the capture unit of D0 last saw them. -/
structure Camera where
  cur : Option CamFrame := Option.none
  params : ParamSet := {}
  commit : Option ParamSet := Option.none
  drops : Tbl Nat := []
  statsTail : Nat := 0
  lookValid : Bool := false
  lookTick : Bool := false
  markDue : Bool := false
  noSignal : Bool := false
  presOn : Bool := false
  present : Bool := false
  presHits : Nat := 0
  presAbsent : Nat := 0
  scoreDue : Bool := false
  rings : Tbl (Nat × Nat) := []
  d0Cfg : Nat × Nat := (0, 0)
  deriving DecidableEq, Repr

/-- A sample set in progress (R324 to R331): its owner, the batch being filled (sample numbers with their images), the next
index, the batch's partial count, whether the batch waits to be written, and whether the owner has stopped or faulted. -/
structure SampleSet where
  owner : Nat
  index : Nat
  samples : List (Nat × List Byte) := []
  partials : Nat := 0
  ready : Bool := false
  gone : Bool := false
  deriving DecidableEq, Repr

/-! ### Vilva ports and the ring (chapter 16) -/

/-- One Vilva port (R334 to R348): flits sent and not acknowledged, the next SEQ to send, the last SEQ received in order,
replays of the oldest flit, and what the neighbour has said. -/
structure Port where
  up : Bool := false
  held : Bool := false
  trained : Bool := false
  attempts : Nat := 0
  txSeq : Nat := 0
  unacked : List (Nat × Flit) := []
  rxSeq : Nat := 0xFFF
  replays : Nat := 0
  peerHello : Bool := false
  deriving DecidableEq, Repr

/-- The state of the ring (Table 16.8), and none while no plan with a ROLE section has been admitted. -/
inductive RingState where
  | absent | forming | closed | solo | broken
  deriving DecidableEq, Repr

/-- Multi-device operation (R338 to R349): both ports, the ring state (the kernel's record of it, which a reset of D1 leaves), the last flits sent, whether
the tick follows the root's, and a RING token that waits for port 1. -/
structure Vilva where
  ports : Tbl Port := []
  ring : RingState := .absent
  waiting : Bool := false
  sent : List (Nat × Nat × Flit) := []
  following : Bool := false
  token : Option Flit := Option.none
  deriving DecidableEq, Repr

/-! ### Power (chapter 17) -/

/-- What a regulator transaction is for (R361, R362). -/
inductive PmbusUse where
  | raise | lower | exit
  deriving DecidableEq, Repr

/-- Power management (R351 to R364): the target of a transition, whether an entry has begun, the target of the transition that
follows it, the mode to resume, the operating point that VDD_FAB stands at (5 is RET), the regulator transaction in progress (its
use, its operating point and how often it has failed, 2 while it waits to be retried), a failed exit that waits likewise, and the
thermal states. The device state itself stands in PWR_STATUS. -/
structure Power where
  target : Option Nat := Option.none
  begun : Bool := false
  next : Option Nat := Option.none
  resumeMode : Nat := 0
  voltage : Nat := 4
  pmbus : Option (PmbusUse × Nat × Nat) := Option.none
  exitFailed : Bool := false
  hot : Bool := false
  critical : Bool := false
  tripHold : Bool := false
  timerRun : Bool := false
  deriving DecidableEq, Repr

/-! ### Lookout and tests (chapter 18) -/

/-- The Lookout's own state (R368 to R386): whether the service watchdog is armed, the standing Grove whose turn for test tiles
came last and the one of this tick, and whether a whole-fabric test runs. -/
structure Lookout where
  serviceArmed : Bool := false
  lastTurn : Nat := 15
  turn : Option Nat := Option.none
  test : Bool := false
  deriving DecidableEq, Repr

/-- The state of the device: the register file, memory, and what every block keeps beside its registers. -/
structure State where
  pending : List Instr := []
  timeUs : Nat := 0
  fresh : Nat := 0
  epoch : Nat := 1
  bus : BusAnswer := .none
  regs : Tbl Word := []
  staged : Tbl Word := []
  captured : Tbl Word := []
  written : List Nat := []
  mem : List Host.Cell := []
  lost : List LostRange := []
  badLines : List Nat := []
  cap : Tbl Word := []
  evr : Recorder := {}
  domains : Tbl Domain := []
  groves : Tbl Grove := []
  ctxs : Tbl Ctx := []
  plan : PlanState := {}
  mode : ModeChange := {}
  tick : TickGen := {}
  ddr : Ddr := {}
  pages : PagePool := {}
  tiers : Tiers := {}
  dma : Dma := {}
  seqt : SeqTable := {}
  pic : Picture := {}
  mic : Listening := {}
  cam : Camera := {}
  sets : Tbl SampleSet := []
  vil : Vilva := {}
  pwr : Power := {}
  lkt : Lookout := {}
  sec : Security := {}
  flash : Flash := {}
  emmc : Emmc := {}
  boot : Boot := {}
  pci : Pcie := {}
  mgt : Mgmt := {}
  tap : Tap := {}
  pins : Pins := {}
  deriving DecidableEq, Repr

/-- Every RAM of the address map holds free values after power-on (log entry 4): control SRAM, Dawn SRAM, the Canopy, Grove
SRAM and DDR5. -/
def powerOnRam : List LostRange :=
  [{ start := 0x0008000000, stop := 0x0008080000, epoch := 0 }, { start := 0x0010000000, stop := 0x0010100000, epoch := 0 },
   { start := 0x0020000000, stop := 0x0022000000, epoch := 0 }, { start := 0x0030000000, stop := 0x0032000000, epoch := 0 },
   { start := 0x1000000000, stop := 0x2000000000, epoch := 0 }]

/-- The device right after a reset of D0 (R27, R419): D0 released, D1 to D8 held in reset, every generation tag 1, every
register at its reset value, nothing admitted, and the ROM plan in force with Grove 0 standing. -/
def State.reset : State :=
  { lost := powerOnRam
    groves := [(0, { role := .standing })]
    domains := [(0, { inReset := false })] }

end Sys2Proof.Machine
end

