-- ==== Sys2Proof/Machine/Ops.lean ====
section
/-! DEFINITION. The named operations over registers, memory, events and reset requests that every command's meaning uses. -/
namespace Sys2Proof.Machine
open Sys2Proof

/-! ### Register file (R5 to R9) -/

/-- The stored value of register `k`. -/
def State.reg (s : State) (k : Nat) : Word := (tfind s.regs k).getD (regReset k)
/-- The stored value of register `k` as a number. -/
def State.rn (s : State) (k : Nat) : Nat := (s.reg k).toNat
/-- A field of a register. -/
def State.rf (s : State) (k lo w : Nat) : Nat := fld (s.rn k) lo w
/-- A bit of a register. -/
def State.rb (s : State) (k n : Nat) : Bool := bitOf (s.rn k) n
/-- Register `k` given a value by the device itself, whatever its access code. -/
def State.setReg (s : State) (k v : Nat) : State :=
  { s with regs := tputD (regReset k) s.regs k (BitVec.ofNat 32 v) }
/-- A field of a register given a value by the device itself. -/
def State.setRf (s : State) (k lo w v : Nat) : State := s.setReg k (setFld (s.rn k) lo w v)
/-- A bit of a register given a value by the device itself. -/
def State.setRb (s : State) (k n : Nat) (b : Bool) : State := s.setRf k n 1 (b2n b)
/-- A saturating count raised by `n`. -/
def State.incReg (s : State) (k n : Nat) : State := s.setReg k (satAdd32 (s.rn k) n)
/-- A `_LO` and `_HI` pair, `k` being the `_LO` register (R6). -/
def State.r64 (s : State) (k : Nat) : Nat := s.rn k + 2 ^ 32 * s.rn (k + 4)
/-- A `_LO` and `_HI` pair given a value by the device itself. -/
def State.setR64 (s : State) (k v : Nat) : State := (s.setReg k (v % 2 ^ 32)).setReg (k + 4) (v / 2 ^ 32 % 2 ^ 32)
/-- A `_LO` and `_HI` count raised by `n`, wrapping. -/
def State.incR64 (s : State) (k n : Nat) : State := s.setR64 k (s.r64 k + n)

/-! ### Free values (log entry 3) -/

/-- The counter of free values moved on. -/
def State.tickFresh (s : State) : State := { s with fresh := s.fresh + 1 }
/-- The free value at `site` for this use. -/
def State.freeVal (s : State) (site : Nat) : Nat := Config.freeNat site s.fresh

/-! ### Domains (R21, R27, R28) -/

def domainDefault : Domain := {}
/-- Reset domain `d`. -/
def State.dom (s : State) (d : Nat) : Domain := tget domainDefault s.domains d
/-- Domain `d` changed by `f`. -/
def State.modDom (s : State) (d : Nat) (f : Domain → Domain) : State :=
  { s with domains := tmod domainDefault s.domains d f }
/-- Whether domain `d` is in reset. -/
def State.inReset (s : State) (d : Nat) : Bool := (s.dom d).inReset
/-- Whether domain `d` runs: out of reset, its clocks neither stopped nor its supply removed (R351). -/
def State.running (s : State) (d : Nat) : Bool :=
  !s.inReset d && decide ((s.dom d).power ≠ .off) && decide ((s.dom d).power ≠ .ret)

def groveDefault : Grove := {}
/-- Grove `g`. -/
def State.grove (s : State) (g : Nat) : Grove := tget groveDefault s.groves g
/-- Grove `g` changed by `f`. -/
def State.modGrove (s : State) (g : Nat) (f : Grove → Grove) : State :=
  { s with groves := tmod groveDefault s.groves g f }
/-- The role of Grove `g` (R21). -/
def State.role (s : State) (g : Nat) : Role := (s.grove g).role

/-- The domain that owns register block `b` (Table 1.6); none for a block not listed and for the block of an off Grove. -/
def State.blockDomain (s : State) (b : Nat) : Option Nat :=
  if 0x10 ≤ b ∧ b ≤ 0x1F then
    match s.role (b - 0x10) with
    | .standing => some 2
    | .open => some 3
    | .off => Option.none
  else if b = 0 ∨ b = 2 ∨ b = 3 ∨ b = 0x26 ∨ b = 0x27 then some 0
  else if b = 1 ∨ (4 ≤ b ∧ b ≤ 9) ∨ (0x2A ≤ b ∧ b ≤ 0x2D) then some 1
  else if 0x20 ≤ b ∧ b ≤ 0x25 then some 8
  else if b = 0x28 then some 6
  else if b = 0x29 then some 7
  else Option.none

/-- Whether register block `b` answers: its domain is out of reset (R376) and its Grove is not off (R21). -/
def State.blockLive (s : State) (b : Nat) : Bool :=
  match s.blockDomain b with
  | some d => s.running d
  | Option.none => false

/-- Bit `n` of event register `k` set; nothing while the block is in reset (R8, R376). -/
def State.evt (s : State) (k n : Nat) : State :=
  if s.blockLive (k / 0x10000) then s.setRb k n true else s

/-- A register of a live block given a value by the device; nothing while the block is in reset. -/
def State.put (s : State) (k v : Nat) : State :=
  if s.blockLive (k / 0x10000) then s.setReg k v else s
def State.putF (s : State) (k lo w v : Nat) : State :=
  if s.blockLive (k / 0x10000) then s.setRf k lo w v else s
def State.count (s : State) (k n : Nat) : State :=
  if s.blockLive (k / 0x10000) then s.incReg k n else s

/-- Every register of block `b` back at its reset value (R8). -/
def State.resetBlock (s : State) (b : Nat) : State :=
  { s with
    regs := tdrop (fun k => k / 0x10000 == b) s.regs
    staged := tdrop (fun k => k / 0x10000 == b) s.staged
    captured := tdrop (fun k => k / 0x10000 == b) s.captured
    written := s.written.filter (fun k => k / 0x10000 != b) }

/-! ### Memory (R4, R17, R18, R246, R248) -/

/-- The regions of Table 1.4 (R17). -/
inductive Region where
  | rom | controlSram | dawnSram | canopy
  | groveSram (g : Nat)
  | registers (b : Nat)
  | capability | outbound | ddr | hole
  deriving DecidableEq, Repr

def ctlSramBase : Nat := 0x0008000000
def dawnBase : Nat := 0x0010000000
def canopyBase : Nat := 0x0020000000
def groveBase (g : Nat) : Nat := 0x0030000000 + g * 0x200000
def regBase : Nat := 0x0040000000
def capBase : Nat := 0x0050000000
def outboundBase : Nat := 0x0060000000
def ddrBase : Nat := 0x1000000000

/-- The region of Table 1.4 that holds address `a` (R17). -/
def regionOf (a : Nat) : Region :=
  if a ≤ 0x3FFFF then .rom
  else if 0x08000000 ≤ a ∧ a ≤ 0x0807FFFF then .controlSram
  else if 0x10000000 ≤ a ∧ a ≤ 0x100FFFFF then .dawnSram
  else if 0x20000000 ≤ a ∧ a ≤ 0x21FFFFFF then .canopy
  else if 0x30000000 ≤ a ∧ a ≤ 0x31FFFFFF then .groveSram ((a - 0x30000000) / 0x200000)
  else if 0x40000000 ≤ a ∧ a ≤ 0x40FFFFFF then .registers ((a - 0x40000000) / 0x10000)
  else if 0x50000000 ≤ a ∧ a ≤ 0x50000FFF then .capability
  else if 0x60000000 ≤ a ∧ a ≤ 0x6FFFFFFF then .outbound
  else if 0x1000000000 ≤ a ∧ a ≤ 0x1FFFFFFFFF then .ddr
  else .hole

/-- The epoch of the lost range that holds address `a`. -/
def lostEpoch : List LostRange → Nat → Option Nat
  | [], _ => Option.none
  | r :: rs, a => if r.start ≤ a ∧ a < r.stop then some r.epoch else lostEpoch rs a

/-- The lost ranges without `[lo, hi)`. -/
def cutLost (lo hi : Nat) : List LostRange → List LostRange
  | [] => []
  | r :: rs =>
    if r.stop ≤ lo ∨ hi ≤ r.start then r :: cutLost lo hi rs
    else
      (if r.start < lo then [{ r with stop := lo }] else []) ++
      (if hi < r.stop then [{ r with start := hi }] else []) ++ cutLost lo hi rs

/-- What an address reads as when no cell lists it: 0, or the free value of a lost range (log entry 4). -/
def State.unlisted (s : State) (a : Nat) : Byte :=
  if a ≤ 0x3FFFF then Config.romByte a
  else match lostEpoch s.lost a with
    | some e => Config.lostByte e a
    | Option.none => 0

/-- The byte that memory holds at `a`. -/
def State.rd8 (s : State) (a : Nat) : Byte := (tfind s.mem a).getD (s.unlisted a)

/-- `n` bytes from address `a`. -/
def State.rdBytes (s : State) (a : Nat) : Nat → List Byte
  | 0 => []
  | n + 1 => s.rd8 a :: State.rdBytes s (a + 1) n

/-- The little-endian number of `n` bytes from address `a` (R4). -/
def State.rdLE (s : State) (a n : Nat) : Nat := leNat (s.rdBytes a n)

/-- Cells `a`, `a + 1`, … given the bytes of a list, the canonical form kept. -/
def putCells : List Host.Cell → Nat → List Byte → List Host.Cell
  | m, _, [] => m
  | m, a, b :: bs => putCells (tputD 0 m a b) (a + 1) bs

/-- The lines of 64 bytes that lie wholly within `[a, a + n)`. -/
def fullLine (a n line : Nat) : Bool := decide (a ≤ line * 64) && decide (line * 64 + 64 ≤ a + n)

/-- Whether line `line` shares a byte with `[a, a + n)`. -/
def touchesLine (a n line : Nat) : Bool := decide (line * 64 < a + n) && decide (a < line * 64 + 64)

/-- The 1 KiB blocks of DDR5 that a write touches: the check cache holds their check line dirty (R243). The oldest is
written back when a 2,049th is dirtied (log entry 8). -/
def dirtyChecks (a n : Nat) (ds : List Nat) : List Nat :=
  let lo := a / 1024
  let new := (List.range ((a + n - 1) / 1024 + 1 - lo)).map (lo + ·)
  (new ++ ds.filter (fun d => !new.contains d)).take 2048

/-- Bytes stored from address `a`, with no check of any kind: a write that replaces all 64 bytes of a line ends its
uncorrectable state (R248). -/
def State.wrBytes (s : State) (a : Nat) (bs : List Byte) : State :=
  if bs.isEmpty then s else
  { s with
    mem := putCells s.mem a bs
    lost := cutLost a (a + bs.length) s.lost
    badLines := s.badLines.filter (fun l => !fullLine a bs.length l)
    ddr := if a < ddrBase then s.ddr
           else { s.ddr with checkDirty := dirtyChecks a bs.length s.ddr.checkDirty } }

/-- A little-endian number of `n` bytes stored from address `a` (R4). -/
def State.wrLE (s : State) (a n v : Nat) : State := s.wrBytes a (leBytes n v)

/-- `n` bytes from `a` set to zero. -/
def State.zeroMem (s : State) (a n : Nat) : State :=
  { s with
    mem := tdrop (fun k => decide (a ≤ k) && decide (k < a + n)) s.mem
    lost := cutLost a (a + n) s.lost
    badLines := s.badLines.filter (fun l => !fullLine a n l) }

/-- The contents of `[a, a + n)` lost: every byte a free value until it is written. -/
def State.loseMem (s : State) (a n : Nat) : State :=
  { s with
    mem := tdrop (fun k => decide (a ≤ k) && decide (k < a + n)) s.mem
    lost := { start := a, stop := a + n, epoch := s.epoch } :: cutLost a (a + n) s.lost
    epoch := s.epoch + 1 }

/-- The canonical form of memory: addresses strictly rising, no cell equal to 0, the value of an unlisted address outside
lost ranges. -/
def Memory.wf (m : List Host.Cell) : Bool := tsorted 0 m && tnoDefault (fun _ => (0 : Byte)) m

/-! ### Events (R411 to R415, R465) -/

/-- Whether the rate limit applies to a code (Table 20.2). -/
def codeLimited (code : Nat) : Bool :=
  let g := code / 256
  if g = 0 ∨ g = 1 ∨ g = 8 then false
  else if g = 4 then code != 0x0405
  else if g = 9 then code == 0x0901 || code == 0x0902 || code == 0x0904 || decide (0x0980 ≤ code)
  else if g = 0xA then code == 0x0A01 || code == 0x0A02
  else true

/-- Whether the last area can be written: D1 is neither in reset nor OFF (R414). -/
def State.recorderOpen (s : State) : Bool := !s.inReset 1 && decide ((s.dom 1).power ≠ .off)

/-- A numbered record written into slot SEQ mod 1,024 of the last area (R413). -/
def State.storeLast (s : State) (r : Record) : State :=
  let s := { s with evr.last := tput s.evr.last (r.seq % 1024) r }
  let s := if 1024 ≤ r.seq ∨ s.evr.wrapped = true then s.setRb Reg.EVR_STATUS 1 true else s
  s.setRb Reg.EVR_EVT 0 true

/-- A record copied to the first area while SEQ is below 256 and has not wrapped; the 256th fills it (R413). -/
def State.keepFirst (s : State) (r : Record) : State :=
  if r.seq < 256 ∧ s.evr.wrapped = false then
    let s := ({ s with evr.first := tput s.evr.first r.seq r }).setRb Reg.EVR_EVT 0 true
    if r.seq = 255 then (s.setRb Reg.EVR_STATUS 0 true).setRb Reg.EVR_EVT 1 true else s
  else s

/-- SEQ moves on by one, and shows when it wraps (R411). -/
def State.nextSeq (s : State) : State :=
  let wraps := decide (s.evr.seq + 1 = 2 ^ 32)
  let s := { s with evr.seq := (s.evr.seq + 1) % 2 ^ 32, evr.wrapped := s.evr.wrapped || wraps }
  let s := s.setReg Reg.EVR_HEAD s.evr.seq
  if wraps then s.setRb Reg.EVR_STATUS 2 true else s

/-- A record written where the recorder is open, else held in the queue of D0 (R414). -/
def State.storeOrQueue (s : State) (r : Record) : State :=
  if s.recorderOpen then s.storeLast r
  else
    let s := { s with evr.queue := s.evr.queue ++ [r] }
    s.setRf Reg.EVR_STATUS 4 5 s.evr.queue.length

/-- A record that found no place: it is lost and counted (R414). -/
def State.loseRecord (s : State) : State :=
  let s := { s with evr.lostPending := s.evr.lostPending + 1 }
  (s.incReg Reg.EVR_LOST 1).setRb Reg.EVR_EVT 2 true

/-- A record numbered (R411), copied to the first area while SEQ is below 256 (R413), and stored or queued (R414). -/
def State.number (s : State) (r : Record) : State :=
  let r := { r with seq := s.evr.seq, time := s.timeUs % 2 ^ 32 }
  if !s.recorderOpen && decide (16 ≤ s.evr.queue.length) then s.loseRecord
  else ((s.keepFirst r).nextSeq).storeOrQueue r

/-- An occurrence of a code counted in the current window (R415). -/
def bumpRate (limit now : Nat) (r : Record) : List RateEntry → List RateEntry
  | [] => [{ code := r.code, count := 1 }]
  | e :: es =>
    if e.code = r.code then
      (if e.count < limit then { e with count := e.count + 1 }
       else if e.suppressed = 0 then { e with suppressed := 1, firstTime := now, lastTime := now, first := r }
       else { e with suppressed := e.suppressed + 1, lastTime := now }) :: es
    else e :: bumpRate limit now r es

/-- How often a code has been recorded in the current window. -/
def rateCount (code : Nat) : List RateEntry → Nat
  | [] => 0
  | e :: es => if e.code = code then e.count else rateCount code es

/-- An event reaches the recorder: numbered and written, queued, or suppressed under the rate limit (R411 to R415). -/
def State.record (s : State) (r : Record) : State :=
  if codeLimited r.code then
    let limit := s.rn (Reg.EVR_LIMIT (r.code / 256 % 16))
    let seen := rateCount r.code s.evr.rates
    let s := { s with evr.rates := bumpRate limit (s.timeUs % 2 ^ 32) r s.evr.rates }
    if seen < limit then s.number r else s.incReg Reg.EVR_SUPPRESSED 1
  else s.number r

/-- An event of block `src` (R465): its domain is the one that owns the block (log entry 9). -/
def State.report (s : State) (code src : Nat) (args : List Nat) (ctx stream : Option Nat := Option.none) : State :=
  let d := (s.blockDomain src).getD 0
  s.record { code := code, src := src, domain := d, gen := (s.dom d).tag, ctx := ctx, stream := stream,
             args := padTo 0 4 args }

/-- An event that Table 20.3 does not list: a code of its group within 0x80 to 0xFF, ARG0 the block's event register
(chapter 20; log entry 6). -/
def State.reportOwn (s : State) (group evtReg site : Nat) (ctx stream : Option Nat := Option.none) : State :=
  let b := evtReg / 0x10000
  s.report (group * 256 + (0x80 + Config.eventNumber b site % 0x80)) b [s.rn evtReg] ctx stream

/-! ### Uncorrectable and corrected lines (R246 to R251) -/

/-- The TIER and UNIT of an address in DDR_ERR_INFO (Table 12.5): the DDR5 channel follows R242. -/
def State.errUnit (s : State) (a : Nat) : Nat × Nat :=
  match regionOf a with
  | .ddr => (0, (a - ddrBase) / 256 % max 1 (popCount 8 s.ddr.trainMask))
  | .canopy => (1, 0)
  | .groveSram g => (2, g)
  | .controlSram => (4, 0)
  | .dawnSram => (5, 0)
  | _ => (0, 0)

/-- An uncorrectable error at address `a`, `source` as in Table 12.5 (R251). -/
def State.uncorrectable (s : State) (a source : Nat) : State :=
  let (tier, unit) := s.errUnit a
  let s := if tier = 0 then s.count (Reg.DDR_UNCORR unit) 1 else s.count Reg.SRAM_UNCORR 1
  let s := s.evt Reg.DDR_EVT 3
  let s :=
    if s.rb Reg.DDR_ERR_INFO 31 then s.putF Reg.DDR_ERR_INFO 30 1 1
    else
      let s := (s.put Reg.DDR_ERR_ADDR_LO (a % 2 ^ 32)).put Reg.DDR_ERR_ADDR_HI (a / 2 ^ 32)
      s.put Reg.DDR_ERR_INFO (2 ^ 31 + source * 1024 + unit * 16 + tier)
  s.report 0x0405 0x2A [a % 2 ^ 32, a / 2 ^ 32, s.rn Reg.DDR_ERR_INFO]

/-- A corrected error at address `a` (R250). -/
def State.corrected (s : State) (a : Nat) : State :=
  let (tier, unit) := s.errUnit a
  let s := if tier = 0 then s.count (Reg.DDR_CORR unit) 1 else s.count Reg.SRAM_CORR 1
  let s := s.evt Reg.DDR_EVT 2
  let s := s.report 0x0404 0x2A [a % 2 ^ 32, a / 2 ^ 32, unit * 16 + tier]
  if tier = 0 then
    let n := tget 0 s.ddr.passCorr unit + 1
    let s := { s with ddr.passCorr := tput s.ddr.passCorr unit n }
    if n = s.rn Reg.DDR_CORR_THRESH ∧ bitOf s.ddr.stormSet unit = false then
      { (s.evt Reg.DDR_EVT 4) with ddr.stormSet := setFld s.ddr.stormSet unit 1 1 }
    else s
  else s

/-- What a read or partial write of a line with `symbols` erroneous symbols meets (R245): nothing, a correction, or, from
three on, an uncorrectable error or a miscorrection, which of the two being free. -/
inductive LineOutcome where
  | clean | corrected | uncorrectable | miscorrected
  deriving DecidableEq, Repr

/-- The outcome of meeting `symbols` erroneous symbols in a codeword (R245); control SRAM and Dawn SRAM correct one error
and detect two on each word (R246). -/
def State.lineOutcome (s : State) (a symbols : Nat) : LineOutcome :=
  if symbols = 0 then .clean
  else match regionOf a with
    | .controlSram | .dawnSram =>
      if symbols = 1 then .corrected
      else if symbols = 2 ∨ s.freeVal 1 % 2 = 0 then .uncorrectable else .miscorrected
    | _ =>
      if symbols ≤ 2 then .corrected
      else if s.freeVal 1 % 2 = 0 then .uncorrectable else .miscorrected

/-- The lines of `[a, a + n)` that are uncorrectable (R248). -/
def State.badIn (s : State) (a n : Nat) : List Nat := s.badLines.filter (touchesLine a n)

/-- Error symbols met at the line of address `a`: a correction is counted and written back, an uncorrectable line stays so
until all its bytes are written, a miscorrection leaves a free byte (R245, R247, R248, R250). -/
def State.meetErrors (s : State) (a symbols : Nat) : State :=
  match s.lineOutcome a symbols with
  | .clean => s
  | .corrected => s.corrected a
  | .uncorrectable =>
    { s.tickFresh with badLines := if s.badLines.contains (a / 64) then s.badLines else (a / 64) :: s.badLines }
  | .miscorrected => (s.loseMem (a / 64 * 64) 64).tickFresh

/-- Every uncorrectable line of `[a, a + n)` reported (R251). -/
def State.reportBad (s : State) (a n source : Nat) : State :=
  (s.badIn a n).foldl (fun t l => t.uncorrectable (l * 64) source) s

/-! ### Reset requests and the Lookout (R29, R372, R374, R387) -/

/-- A reset of domain `d` requested (R29, R375 step 1). -/
def State.requestReset (s : State) (d : Nat) (q : ResetRequest) : State :=
  s.modDom d (fun x => { x with requests := x.requests ++ [q] })

/-- Lookout code `k` occurs: its LKT_EVT bit, LKT_LAST, LKT_COUNT_k and its event (Table 18.2, Table 18.11). -/
def State.lookout (s : State) (k domain : Nat) (grove ctx stream : Option Nat := Option.none) : State :=
  let last := k + domain * 2 ^ 8 + (grove.getD 0) * 2 ^ 12
    + (match ctx with | some c => c * 2 ^ 16 + 2 ^ 23 | Option.none => 0)
    + (match stream with | some x => x * 2 ^ 24 + 2 ^ 29 | Option.none => 0)
  let s := s.evt Reg.LKT_EVT (k - 1)
  let s := s.put Reg.LKT_LAST last
  let s := s.count (Reg.LKT_COUNT k) 1
  s.report (0x0900 + k) 0x04 [last] ctx stream

/-! ### MSI-X (R432) -/

/-- Word `i` of the MSI-X table: a vector is masked until the host unmasks it (log entry 32). -/
def State.msixWord (s : State) (i : Nat) : Nat := (tget (if i % 4 = 3 then (1 : Word) else 0) s.pci.msix i).toNat
/-- Vector `v` sent. -/
def State.msixSend (s : State) (v : Nat) : State :=
  { s with pci.msixSent := tput s.pci.msixSent v (tget 0 s.pci.msixSent v + 1), pci.msixPending := setFld s.pci.msixPending v 1 0 }
/-- Vector `v` signalled: sent over a link that is up, or pending while it is masked. -/
def State.msixSignal (s : State) (v : Nat) : State :=
  if !s.pci.linkUp then s
  else if bitOf (s.msixWord (4 * v + 3)) 0 then { s with pci.msixPending := setFld s.pci.msixPending v 1 1 }
  else s.msixSend v
/-- Event `n` of the PCI block: its bit of PCI_EVT, and vector 128 where PCI_IRQ_EN enables it (R432; log entry 35). -/
def State.pciEvent (s : State) (n : Nat) : State :=
  let s := s.evt Reg.PCI_EVT n
  if s.blockLive 0x2B && s.rb Reg.PCI_IRQ_EN n then s.msixSignal 128 else s

/-- The answer of the last access. -/
def State.answer (s : State) (b : BusAnswer) : State := { s with bus := b }

end Sys2Proof.Machine
end

