-- ==== Sys2Proof/Machine/Plan.lean ====
section
/-! DEFINITION. Reading a plan image (R35 to R42, R459 to R464) and the budget check (R43, R44). -/
namespace Sys2Proof.Machine
open Sys2Proof

/-- Bytes `off` to `off + n - 1` of a byte list. -/
def slice (bs : List Byte) (off n : Nat) : List Byte := (bs.drop off).take n
/-- The little-endian 32-bit word at `off`; 0 beyond the list. -/
def u32 (bs : List Byte) (off : Nat) : Nat := leNat (slice bs off 4)
/-- The little-endian 16-bit half word at `off`. -/
def u16 (bs : List Byte) (off : Nat) : Nat := leNat (slice bs off 2)
/-- The byte at `off`. -/
def u8 (bs : List Byte) (off : Nat) : Nat := leNat (slice bs off 1)
/-- Whether `n` bytes at `off` are all zero. -/
def zeroAt (bs : List Byte) (off n : Nat) : Bool := (slice bs off n).all (· == 0)

/-- A refusal (R46, R47): code, and mode, Grove, slot, load and limit where they apply. -/
structure PlanRefusal where
  code : Nat
  mode : Option Nat := Option.none
  grove : Option Nat := Option.none
  slot : Option Nat := Option.none
  load : Nat := 0
  limit : Nat := 0
  deriving DecidableEq, Repr

/-- Stop with a refusal where a check fails. -/
def require (ok : Bool) (r : PlanRefusal) : Except PlanRefusal Unit := if ok then .ok () else .error r
def requireCode (ok : Bool) (code : Nat) : Except PlanRefusal Unit := require ok { code := code }

/-- A section-table entry (R36). -/
structure Section where
  type : Nat
  version : Nat
  offset : Nat
  bytes : Nat
  count : Nat
  deriving DecidableEq, Repr

/-- Entry `i` of the section table (R36). -/
def sectionAt (img : List Byte) (i : Nat) : Section :=
  let o := 0x100 + 16 * i
  { type := u16 img o, version := u16 img (o + 2), offset := u32 img (o + 4), bytes := u32 img (o + 8),
    count := u32 img (o + 12) }

/-- The section table of an image (R36). -/
def sectionsOf (img : List Byte) : List Section := (List.range (u32 img 0x18)).map (sectionAt img)

/-- Bytes that a section's COUNT records of fixed size, or its fixed head, need (R36, Table 2.2). -/
def sectionNeeds (x : Section) : Nat :=
  match x.type with
  | 1 => 64 * x.count
  | 2 => 32 * x.count
  | 3 => 16 * x.count
  | 4 => 16 * x.count
  | 5 => 0x80
  | 6 => 16 * x.count
  | 7 => 0x20
  | 8 => 0x10
  | 9 => 32 * x.count
  | _ => 0

/-- Whether two sections overlap. -/
def sectionsOverlap (a b : Section) : Bool :=
  decide (a.offset < b.offset + b.bytes) && decide (b.offset < a.offset + a.bytes)

/-- Whether no section of the list overlaps another. -/
def noOverlap : List Section → Bool
  | [] => true
  | x :: xs => xs.all (fun y => !sectionsOverlap x y) && noOverlap xs

/-- The placement rules of R36: a 16-byte boundary, between the section table and the signature block, no overlap, and bytes
enough for the records. -/
def placementOk (img : List Byte) : Bool :=
  let xs := sectionsOf img
  let n := u32 img 0x10
  xs.all (fun x => x.offset % 16 == 0 && decide (0x100 + 16 * u32 img 0x18 ≤ x.offset)
    && decide (x.offset + x.bytes ≤ n - 256) && decide (sectionNeeds x ≤ x.bytes)) && noOverlap xs

/-- The section of a type, if the image has one. -/
def findSection (img : List Byte) (t : Nat) : Option Section := (sectionsOf img).find? (·.type == t)
/-- A section's bytes; none for an absent section. -/
def sectionBytes (img : List Byte) (t : Nat) : List Byte :=
  match findSection img t with
  | some x => slice img x.offset x.bytes
  | Option.none => []
/-- A section's COUNT; 0 for an absent section. -/
def sectionCount (img : List Byte) (t : Nat) : Nat := ((findSection img t).map (·.count)).getD 0

/-- The MODE records (R38). -/
def parseModes (img : List Byte) : List ModeRec :=
  let b := sectionBytes img 1
  (List.range (sectionCount img 1)).map (fun i =>
    let r := slice b (64 * i) 64
    { id := u32 r 0, roles := u32 r 4, opPoint := u32 r 8, tickMax := u32 r 12, period := u32 r 16,
      cooler := u32 r 20, streamMask := u32 r 24 })

/-- The STREAM records and their parameter blocks (R459). -/
def parseStreams (img : List Byte) : List StreamRec :=
  let b := sectionBytes img 2
  (List.range (sectionCount img 2)).map (fun i =>
    let r := slice b (32 * i) 32
    { id := fld (u32 r 0) 0 5, kind := fld (u32 r 0) 8 4, params := slice b (u32 r 4) (u32 r 8) })

/-- One reservation record (R42). -/
def parseReservation (b : List Byte) (o : Nat) : Reservation :=
  { tier := u32 b o, rate := u32 b (o + 4), bytes := u32 b (o + 8), transfers := u32 b (o + 12) }

/-- The LIST headers with their commands and reservations (R39). -/
def parseLists (img : List Byte) : List ListRec :=
  let b := sectionBytes img 3
  (List.range (sectionCount img 3)).map (fun i =>
    let r := slice b (16 * i) 16
    let h := u32 r 0
    { stream := fld h 0 5, mode := fld h 8 3, grove := fld h 12 4, slot := fld h 16 6,
      cmds := (List.range (u32 r 8)).map (fun k => leNat (slice b (u32 r 4 + 32 * k) 32)),
      rsv := (List.range (u16 r 14)).map (fun k => parseReservation b (16 * u16 r 12 + 16 * k)) })

/-- The BUFFER region records with their initial contents (R463). -/
def parseRegions (img : List Byte) : List RegionRec :=
  let b := sectionBytes img 9
  (List.range (sectionCount img 9)).map (fun i =>
    let r := slice b (32 * i) 32
    let h := u32 r 0
    { tier := fld h 0 2, grove := fld h 4 4, band := bitOf h 8, pinned := bitOf h 9, stream := fld h 16 5,
      modeMask := fld (u32 r 4) 0 8, offset := u32 r 8, bytes := u32 r 12,
      init := if u32 r 16 = 0 then [] else slice b (u32 r 16) (u32 r 20) })

/-- The WEIGHT package records with their packages (R464). -/
def parsePackages (img : List Byte) : List PackageRec :=
  let b := sectionBytes img 4
  (List.range (sectionCount img 4)).map (fun i =>
    let r := slice b (16 * i) 16
    { stream := fld (u32 r 0) 0 5, place := fld (u32 r 0) 8 1, pkg := slice b (u32 r 4) (u32 r 8) })

/-- The whole plan an image spells (R35, R36). -/
def parsePlan (img : List Byte) (digest : List Byte) : Plan :=
  { version := u32 img 0x14
    tickSource := fld (u32 img 0x28) 0 1
    freeRate := fld (u32 img 0x28) 16 16
    ddrChannels := fld (u32 img 0x2C) 0 4
    ddrMinGib := fld (u32 img 0x2C) 8 8
    initialMode := u32 img 0x24
    buildId := slice img 0x40 32
    modes := parseModes img
    streams := parseStreams img
    streamSec := sectionBytes img 2
    lists := parseLists img
    regions := parseRegions img
    packages := parsePackages img
    quota := sectionBytes img 5
    tenants := (List.range (sectionCount img 6)).map (fun i => slice (sectionBytes img 6) (16 * i) 16)
    power := sectionBytes img 7
    role := sectionBytes img 8
    hasRole := (findSection img 8).isSome
    keySlot := u32 img (u32 img 0x10 - 256 + 4)
    digest := digest }

/-! ### Reading a plan in force -/

def modeDefault : ModeRec := { id := 0, roles := 1, opPoint := 4, tickMax := 1000, period := 1, cooler := 0, streamMask := 0 }
/-- Mode `m` of a plan. -/
def Plan.mode (p : Plan) (m : Nat) : ModeRec := nth modeDefault p.modes m
/-- Whether a plan holds mode `m`. -/
def Plan.hasMode (p : Plan) (m : Nat) : Bool := decide (m < p.modes.length)
/-- The role of Grove `g` in a mode (R38). -/
def ModeRec.role (m : ModeRec) (g : Nat) : Role :=
  match fld m.roles (2 * g) 2 with
  | 1 => .standing
  | 2 => .open
  | _ => .off
/-- The mask of Groves that have a role in a mode. -/
def ModeRec.roleMask (m : ModeRec) (r : Role) : Nat := maskOf ((List.range 16).map (fun g => decide (m.role g = r)))
/-- The operating point's frequency in MHz (R38, R44). -/
def opMhz (p : Nat) : Nat := nth 200 [1000, 800, 600, 400, 200] p
/-- The stream record of an ID. -/
def Plan.stream (p : Plan) (i : Nat) : Option StreamRec := p.streams.find? (·.id == i)
/-- The stream of a kind that runs in a mode: 1 picture, 2 listening, 3 looking, 4 exchange. -/
def Plan.streamOfKind (p : Plan) (m kind : Nat) : Option StreamRec :=
  p.streams.find? (fun x => x.kind == kind && bitOf (p.mode m).streamMask x.id)
/-- Whether some mode of the plan has an open Grove (R67). -/
def Plan.anyOpen (p : Plan) : Bool := p.modes.any (fun m => m.roleMask .open != 0)
/-- The lists of a Grove in a mode at a slot, in ascending stream ID (R63). -/
def Plan.listsAt (p : Plan) (m g slot : Nat) : List ListRec :=
  (List.range 32).flatMap (fun i =>
    p.lists.filter (fun l => l.stream == i && l.mode == m && l.grove == g && l.slot == slot))
/-- Whether a Grove's lists, images and role are the same in two modes (R50). -/
def Plan.groveSame (p : Plan) (a b g : Nat) : Bool :=
  let strip (m : Nat) := (p.lists.filter (fun l => l.mode == m && l.grove == g)).map (fun l => (l.stream, l.slot, l.cmds, l.rsv))
  let regs (m : Nat) := p.regions.filter (fun r => r.tier == 3 && r.grove == g && bitOf r.modeMask m)
  decide ((p.mode a).role g = (p.mode b).role g) && decide (strip a = strip b) && decide (regs a = regs b)
    && (decide ((p.mode a).period = (p.mode b).period) || (strip a).isEmpty)
/-- The Groves that a change between two modes changes (R50). -/
def Plan.changingGroves (p : Plan) (a b : Nat) : List Nat := (List.range 16).filter (fun g => !p.groveSame a b g)

/-- The cap field of a command: word 0, bits [25:16] hold CAP (Table 4.2). -/
def capOf (c : Nat) : Nat := fld c 16 10

/-- The raw DDR5 rate in MB/s at a trained speed code over a channel mask (R237, Table 2.5). -/
def ddrRawRate (speed mask : Nat) : Nat := nth 19200 [19200, 22400, 25600] speed * popCount 8 mask

/-- The rate of a tier that standing streams may reserve (Table 2.5). -/
def reservable (tier raw : Nat) : Nat :=
  match tier with
  | 0 => 1600000
  | 1 => raw / 2
  | 2 => 8000
  | _ => 10000

/-- The latency per transfer of a tier in ns (Table 2.5). -/
def tierLatency (tier : Nat) : Nat :=
  match tier with
  | 0 => 200
  | 1 => 1000
  | 2 => 200
  | _ => 2000

/-- The load of a standing Grove in a slot (R44). -/
def groveLoad (p : Plan) (m g slot f : Nat) : Nat :=
  (p.listsAt m g slot).foldl (fun acc l =>
    acc + (l.cmds.map capOf).sum
      + (l.rsv.map (fun r => r.transfers * ceilDiv (tierLatency r.tier * f) 1000 + ceilDiv (r.bytes * f) r.rate)).sum) 1024

/-- The first refusal in a list of checks. -/
def firstRefusal : List (Option PlanRefusal) → Except PlanRefusal Unit
  | [] => .ok ()
  | some r :: _ => .error r
  | Option.none :: xs => firstRefusal xs

/-- The budget check of one mode (R43, R44): 0x11 by Grove and slot, then 0x12 by tier, then 0x13 by Grove. -/
def budgetMode (p : Plan) (raw m : Nat) : Except PlanRefusal Unit := do
  let mode := p.mode m
  let f := opMhz mode.opPoint
  let limit := (f * 1000000 / mode.tickMax) * 85 / 100
  firstRefusal ((List.range 16).flatMap (fun g =>
    if mode.role g = .standing then
      (List.range mode.period).map (fun t =>
        let load := groveLoad p m g t f
        if limit < load then some { code := 0x11, mode := some m, grove := some g, slot := some t, load := load, limit := limit }
        else Option.none)
    else []))
  let rsv := (p.lists.filter (·.mode == m)).flatMap (·.rsv)
  firstRefusal ((List.range 7).map (fun x =>
    let sum := ((rsv.filter (·.tier == x)).map (·.rate)).sum
    if reservable x raw < sum then some { code := 0x12, mode := some m, load := sum, limit := reservable x raw } else Option.none))
  firstRefusal ((List.range 16).map (fun g =>
    let sum := (((p.lists.filter (fun l => l.mode == m && l.grove == g)).flatMap (·.rsv)).map (·.rate)).sum
    if 128000 < sum then some { code := 0x13, mode := some m, grove := some g, load := sum, limit := 128000 } else Option.none))

/-- The budget check of every mode in increasing MODE_ID (R43, R44). -/
def budget (p : Plan) (raw : Nat) : Except PlanRefusal Unit :=
  (List.range p.modes.length).forM (budgetMode p raw)

end Sys2Proof.Machine
end

