-- ==== Sys2Proof/Machine/PoolOps.lean ====
section
/-! DEFINITION. Lists, frames and entries given up: what the page pool and the active sequence table do when a list, an entry
or a context ends (R168, R193 to R201, R407). -/
namespace Sys2Proof.Machine
open Sys2Proof

def listDefault : PageList := { owner := 0xFF, capacity := 0 }
def frameDefault : Frame := { refs := 0, owner := 0xFF }
/-- Page list `l`; one not in use has owner 0xFF (Table 8.5). -/
def State.plist (s : State) (l : Nat) : PageList := tget listDefault s.pages.lists l
/-- Whether list `l` is in use. -/
def State.hasList (s : State) (l : Nat) : Bool := thas s.pages.lists l
/-- What the tier manager keeps for frame `f` (R167). -/
def State.frame (s : State) (f : Nat) : Frame := tget frameDefault s.pages.used f
/-- Frame `f` changed by `h`. -/
def State.modFrame (s : State) (f : Nat) (h : Frame → Frame) : State :=
  { s with pages.used := tmod frameDefault s.pages.used f h }
/-- List `l` changed by `h`. -/
def State.modList (s : State) (l : Nat) (h : PageList → PageList) : State :=
  { s with pages.lists := tmod listDefault s.pages.lists l h }

/-- Whether a transfer in flight translated a page through frame `f` (R168). -/
def State.frameInFlight (s : State) (f : Nat) : Bool := s.dma.xfers.any (fun t => t.2.pages.any (fun p => p.2 == f))

/-- A frame joins the free list with every tile a zero tile (R407). -/
def State.releaseFrame (s : State) (f : Nat) : State :=
  let lo := f * s.pages.pageTiles
  { s with pages.used := tdel s.pages.used f,
           pages.tiles := tdrop (fun k => decide (lo ≤ k) && decide (k < lo + s.pages.pageTiles)) s.pages.tiles }

/-- One reference of a frame dropped: at REFCOUNT 0 it is freed, or drains while a transfer is in flight (R168). -/
def State.dropFrame (s : State) (f : Nat) : State :=
  let x := s.frame f
  if 1 < x.refs then s.modFrame f (fun x => { x with refs := x.refs - 1 })
  else if s.frameInFlight f then s.modFrame f (fun x => { x with refs := 0, draining := true })
  else s.releaseFrame f

/-- A list freed: every entry dropped and its ID free (Table 8.7). -/
def State.dropList (s : State) (l : Nat) : State :=
  let es := (s.plist l).entries
  es.foldl State.dropFrame { s with pages.lists := tdel s.pages.lists l }

/-! ### The active sequence table (R193 to R201) -/

def seqDefault : SeqEntry :=
  { state := .idle, prio := 0, gen := false, stopEn := false, group := 0, owner := 0, list := 0, chunkMax := 1, pos := 0,
    maxPos := 0, inTail := 0, outHead := 0, inBase := 0, inOrder := 4, outBase := 0, outOrder := 4, stopToken := 0 }
def seqGroupDefault : SeqGroup := {}
/-- Entry `e` of the table. -/
def State.seqEntry (s : State) (e : Nat) : SeqEntry := tget seqDefault s.seqt.entries e
/-- Whether entry `e` is not FREE. -/
def State.hasEntry (s : State) (e : Nat) : Bool := thas s.seqt.entries e
/-- Entry `e` changed by `f`. -/
def State.modEntry (s : State) (e : Nat) (f : SeqEntry → SeqEntry) : State :=
  { s with seqt.entries := tmod seqDefault s.seqt.entries e f }
/-- Serving group `g`. -/
def State.seqGroup (s : State) (g : Nat) : SeqGroup := tget seqGroupDefault s.seqt.groups g
/-- Serving group `g` changed by `f`. -/
def State.modSeqGroup (s : State) (g : Nat) (f : SeqGroup → SeqGroup) : State :=
  { s with seqt.groups := tmod seqGroupDefault s.seqt.groups g f }
/-- Whether group `g` is enabled, and its server (Table 10.8). -/
def State.grpEn (s : State) (g : Nat) : Bool := s.rb (Reg.SEQ_GRP_CFG g) 0
def State.grpServer (s : State) (g : Nat) : Nat := s.rf (Reg.SEQ_GRP_CFG g) 8 7

/-- Entry `e` becomes FREE, and the table frees its list (R195). -/
def State.freeEntry (s : State) (e : Nat) : State :=
  let l := (s.seqEntry e).list
  ({ s with seqt.entries := tdel s.seqt.entries e }).dropList l

/-- What waited for the end of a step takes effect (R201): HOLD, PRIO, and RETIRE. -/
def State.endStepEntry (s : State) (e : Nat) : State :=
  let x := s.seqEntry e
  if x.state = .retiring then s.freeEntry e
  else s.modEntry e (fun x =>
    { x with inStep := false, holdReq := false, prioReq := Option.none, prio := x.prioReq.getD x.prio,
             state := if x.holdReq ∧ x.state ≠ .faulted then .held else x.state })

/-- The step in flight of group `g` is abandoned (R200). -/
def State.abandonStep (s : State) (g : Nat) : State :=
  match (s.seqGroup g).flight with
  | Option.none => s
  | some rows =>
    let s := s.modSeqGroup g (fun x => { x with flight := Option.none, released := false, goTail := Option.none })
    (rows.foldl (fun s r => if s.hasEntry r.entry then s.endStepEntry r.entry else s) s).evt Reg.SEQ_EVT 2

/-- Entry `e` retired (R195, R201): RETIRING while it is in a step, else FREE. -/
def State.retireEntry (s : State) (e : Nat) : State :=
  if (s.seqEntry e).inStep then s.modEntry e (fun x => { x with state := .retiring }) else s.freeEntry e

/-- The sample sets of a context that stops or faults are marked: each disables at its next sample (R331). -/
def State.loseSets (s : State) (c : Nat) : State :=
  { s with sets := tmap (fun _ x => if x.owner = c then { x with gone := true } else x) s.sets }

/-- A context becomes STOPPED or FAULTED (R195, R200, R331): the steps that it serves are abandoned, its own entries retired, and
its sample sets marked. -/
def State.contextLost (s : State) (c : Nat) : State :=
  let s := s.loseSets c
  let s := forRange 16 s (fun s g => if s.grpEn g && s.grpServer g == c then s.abandonStep g else s)
  (s.seqt.entries.map (·.1)).foldl (fun s e =>
    if s.hasEntry e && (s.seqEntry e).owner == c && decide ((s.seqEntry e).state ≠ .retiring) then s.retireEntry e else s) s

end Sys2Proof.Machine
end

