-- ==== Sys2Proof/Machine/Grove.lean ====
section
/-! DEFINITION. A Grove's command: its fields, the issue checks in their order, faults, and what completion does
(chapter 4, R81 to R108). -/
namespace Sys2Proof.Machine
open Sys2Proof

/-! ### Contexts -/

def ctxDefault : Ctx := {}
/-- Context-table entry `c` (R65). -/
def State.ctx (s : State) (c : Nat) : Ctx := tget ctxDefault s.ctxs c
/-- Context `c` changed by `f`. -/
def State.modCtx (s : State) (c : Nat) (f : Ctx → Ctx) : State := { s with ctxs := tmod ctxDefault s.ctxs c f }
/-- The STATE code of Table 3.3. -/
def CtxState.code : CtxState → Nat
  | .free => 0 | .stopped => 1 | .ready => 2 | .running => 3 | .blocked => 4 | .swapped => 5 | .swappedBlocked => 6
  | .faulted => 7

/-- Context `c` becomes FAULTED (R65, R107): it leaves the Grove it runs on, and the event is recorded. -/
def State.faultCtx (s : State) (c cause : Nat) : State :=
  let s := s.modCtx c (fun x => { x with state := .faulted, cause := cause })
  let s := { s with groves := tmap (fun _ (x : Grove) => if x.cur = some c then { x with cur := Option.none } else x) s.groves }
  (s.report 0x0202 0x05 [CtxState.faulted.code + cause * 16] (some c)).contextLost c

/-- A context's wait begins (R65, R105). -/
def State.blockCtx (s : State) (c cause : Nat) : State :=
  let s := s.modCtx c (fun x => { x with state := .blocked, cause := cause })
  { s with groves := tmap (fun _ (x : Grove) => if x.cur = some c then { x with cur := Option.none } else x) s.groves }

/-- A context's wait is cleared (R65, Table 3.3): BLOCKED becomes READY and SWAPPED_BLOCKED becomes SWAPPED. -/
def State.wakeCtx (s : State) (c : Nat) : State :=
  s.modCtx c (fun x =>
    match x.state with
    | .blocked => { x with state := .ready, cause := 0, waitMask := 0 }
    | .swappedBlocked => { x with state := .swapped, cause := 0, waitMask := 0 }
    | _ => x)

/-! ### Command fields (R89, R90) -/

/-- Word `i` of a tile command (Table 4.2). -/
def cmdWord (c i : Nat) : Nat := fld c (32 * i) 32
def opcodeOf (c : Nat) : Nat := fld c 0 8
def flagsOf (c : Nat) : Nat := fld c 8 8
/-- A flag of Table 4.3, by its bit in word 0. -/
def flagOf (c bit : Nat) : Bool := bitOf c bit
def fmtA (c : Nat) : Nat := fld c 32 4
def fmtB (c : Nat) : Nat := fld c 36 4
def fmtD (c : Nat) : Nat := fld c 40 4
def blkA (c : Nat) : Nat := fld c 44 2
def blkB (c : Nat) : Nat := fld c 46 2
/-- The program's address in bytes (Table 4.2). -/
def ewpOf (c : Nat) : Nat := fld c 48 14 * 128
def srcA (c : Nat) : Nat := cmdWord c 2
def srcB (c : Nat) : Nat := cmdWord c 3
def dstOf (c : Nat) : Nat := cmdWord c 4
def auxOf (c : Nat) : Nat := cmdWord c 5
def dimOf (c : Nat) : Nat := cmdWord c 6
def extOf (c : Nat) : Nat := cmdWord c 7
/-- The SKID bit and OFFSET of an operand word (Table 4.4). -/
def opSkid (w : Nat) : Bool := bitOf w 31
def opOffset (w : Nat) : Nat := fld w 0 21
/-- Reserved bits of an operand word are zero (Table 4.4). -/
def operandClean (w : Nat) : Bool := fld w 21 10 == 0 && (!opSkid w || fld w 16 5 == 0)

/-- A command fetched for issue: its Grove, owner and index, its allocation's base and size in Grove SRAM (R91). -/
structure Fetched where
  grove : Nat
  cmd : Nat
  owner : Owner
  index : Nat
  base : Nat
  size : Nat
  deriving DecidableEq, Repr

/-- The command that Grove `g` issues next (R63, R67, R83): the head of its standing list, or the ring command at HEAD of the
context it runs; none while a command is in execution or waited for. -/
def State.fetch (s : State) (g : Nat) : Option Fetched :=
  let x := s.grove g
  if x.run.isSome ∨ x.overdue = true then Option.none
  else match x.role with
    | .standing =>
      if s.running 2 then
        match x.todo with
        | [] => Option.none
        | t :: _ => some { grove := g, cmd := t.cmd, owner := .stream t.stream, index := t.index, base := 0, size := groveSramBytes }
      else Option.none
    | .open =>
      if s.running 3 && !s.pwr.critical then
        match x.cur with
        | some c =>
          let k := s.ctx c
          if k.state = .running ∧ k.head ≠ k.tail ∧ k.stopReq = false then
            some { grove := g, cmd := s.rdLE (k.ringBase + 32 * k.head) 32, owner := .ctx c, index := k.head,
                   base := k.allocBase, size := k.sramKib * 1024 }
          else Option.none
        | Option.none => Option.none
      else Option.none
    | .off => Option.none

/-! ### Regions (R91, R92) -/

/-- What a region is for, as the bank rule sees it (R92). -/
inductive RegionUse where
  | a | b | aux | dst | exempt
  deriving DecidableEq, Repr

/-- A region that a command touches: its operand word, its bytes from there, and its use. -/
structure CmdRegion where
  word : Nat
  bytes : Nat
  use : RegionUse
  deriving DecidableEq, Repr

/-- The absolute Grove SRAM offset of an operand word (R91). -/
def Fetched.abs (f : Fetched) (w : Nat) : Nat := f.base + opOffset w

/-- Whether a region lies inside Grove SRAM or the allocation, or inside the Skid (Table 4.10, BOUND). -/
def Fetched.inBound (f : Fetched) (r : CmdRegion) : Bool :=
  if opSkid r.word then decide (opOffset r.word + r.bytes ≤ 65536) else decide (opOffset r.word + r.bytes ≤ f.size)

/-- The bank of an offset, counted from the start of the allocation for a context, so that its home Grove stays invisible (R91;
log entry 21); the Skid counts as bank 16 (R92). -/
def Fetched.bank (_f : Fetched) (r : CmdRegion) : Nat := if opSkid r.word then 16 else opOffset r.word / 0x20000

/-- Whether a region lies wholly within one bank (R92). -/
def Fetched.oneBank (_f : Fetched) (r : CmdRegion) : Bool :=
  opSkid r.word || r.bytes == 0 || decide (opOffset r.word / 0x20000 = (opOffset r.word + r.bytes - 1) / 0x20000)

/-- The bank rule (R92): each region in one bank, and A, B and AUX in three different banks. -/
def Fetched.banksOk (f : Fetched) (rs : List CmdRegion) : Bool :=
  let counted := rs.filter (fun r => r.use != .exempt && r.bytes != 0)
  let reads := counted.filter (fun r => r.use != .dst)
  counted.all f.oneBank &&
    reads.all (fun x => reads.all (fun y => x.use == y.use || f.bank x != f.bank y))

/-- What an opcode asks of a command at issue, in the classes of R106. -/
structure IssueCheck where
  fieldsOk : Bool
  formatsOk : Bool
  regions : List CmdRegion
  programOk : Bool
  bankExtra : Bool := true
  cycles : Nat
  deriving DecidableEq, Repr

/-- The field checks that every opcode shares (R90, R93): reserved bits, flags within `flags`, CAP, and operand words, of
which the ones the opcode uses are listed. -/
def commonFields (c flags : Nat) (usesA usesB usesD usesX : Bool) : Bool :=
  fld c 26 6 == 0 && fld c 62 2 == 0
  && (flagsOf c / 32 == 0) && (flagsOf c &&& flags) == flagsOf c
  && decide (1 ≤ capOf c) && decide (capOf c ≤ 1000)
  && !opSkid (dstOf c)
  && (if usesA then operandClean (srcA c) else srcA c == 0)
  && (if usesB then operandClean (srcB c) else srcB c == 0)
  && (if usesD then operandClean (dstOf c) else dstOf c == 0)
  && (if usesX then operandClean (auxOf c) else auxOf c == 0)

/-- Word 1 is zero for the opcodes that take no format, container or program (R93). -/
def noFormats (c : Nat) : Bool := cmdWord c 1 == 0

/-- The first fault of a command at issue, in the order of R106. -/
def Fetched.firstFault (f : Fetched) (k : IssueCheck) : Option Nat :=
  if !k.fieldsOk then some 0x02
  else if !k.formatsOk then some 0x03
  else if !(k.regions.all (fun r => opOffset r.word % 128 == 0)) then some 0x04
  else if !(k.regions.all f.inBound) then some 0x06
  else if !(f.banksOk k.regions && k.bankExtra) then some 0x05
  else if !k.programOk then some 0x0A
  else if capOf f.cmd < k.cycles then some 0x07
  else Option.none

/-! ### Reading operands -/

/-- The Skid entry that holds an owner's virtual slot under the current tag with its transfer complete (R86). -/
def State.skidHit (s : State) (g : Nat) (o : Owner) (v : Nat) : Option (Nat × SkidEntry) :=
  let tag := match o with | .stream _ => (s.dom 2).tag | .ctx _ => (s.dom 3).tag
  (s.grove g).skid.find? (fun e => e.2.owner == o && e.2.vslot == v && e.2.tag == tag && e.2.complete)

/-- The virtual slots that a region of the Skid reads. -/
def CmdRegion.vslots (r : CmdRegion) : List Nat :=
  if opSkid r.word && r.bytes != 0 then
    let lo := opOffset r.word / 4096
    (List.range ((opOffset r.word + r.bytes - 1) / 4096 + 1 - lo)).map (lo + ·)
  else []

/-- The virtual slots a command reads that are not resident (R86). -/
def State.missingSlots (s : State) (f : Fetched) (rs : List CmdRegion) : List Nat :=
  (rs.flatMap CmdRegion.vslots).filter (fun v => (s.skidHit f.grove f.owner v).isNone)

/-- `n` bytes of an operand from its word's offset plus `off`: from Grove SRAM, or from the owner's Skid slots (R85). -/
def State.operandBytes (s : State) (f : Fetched) (w off n : Nat) : List Byte :=
  if opSkid w then
    (List.range n).map (fun i =>
      let o := opOffset w + off + i
      match s.skidHit f.grove f.owner (o / 4096) with
      | some (_, e) => nth 0 e.payload (o % 4096)
      | Option.none => 0)
  else s.rdBytes (groveBase f.grove + f.abs w + off) n

/-- The first uncorrectable line that the command's source regions touch (Table 12.2). -/
def State.badOperand (s : State) (f : Fetched) (rs : List CmdRegion) : Option Nat :=
  (rs.filter (fun r => !opSkid r.word && r.use != .dst)).findSome? (fun r =>
    (s.badIn (groveBase f.grove + f.abs r.word) r.bytes).head?.map (· * 64))

/-! ### Faults (R106, R107) -/

/-- The commands of a stream left on a Grove for this tick are discarded (R107). -/
def Grove.dropStream (x : Grove) (i : Nat) : Grove :=
  { x with todo := x.todo.filter (fun t => t.stream != i),
           discarded := if x.discarded.contains i then x.discarded else x.discarded ++ [i] }

/-- A fault is shown in the Grove's registers and recorded (R107, Tables 4.13 and 4.14). -/
def State.showFault (s : State) (g : Nat) (o : Owner) (op index code cycles : Nat) : State :=
  let s := s.put (Reg.GRV_FAULT g) (code + op * 256 + (match o with | .ctx c => c * 2 ^ 16 + 2 ^ 23 | .stream _ => 0))
  let s := s.put (Reg.GRV_FAULT_POS g) (index % 65536 + (match o with | .stream i => i * 2 ^ 16 + 2 ^ 31 | .ctx _ => 0))
  let s := s.put (Reg.GRV_FAULT_CYC g) cycles
  let s := s.count (Reg.GRV_FAULTS g) 1
  let s := s.evt (Reg.GRV_EVT g) 0
  let s := if code = 8 then (s.evt (Reg.GRV_EVT g) 1).count (Reg.GRV_CAP_STOPS g) 1 else s
  let s := if code = 9 then s.evt (Reg.GRV_EVT g) 2 else s
  let (c, i) := match o with | .ctx c => (some c, Option.none) | .stream i => (Option.none, some i)
  s.report 0x0301 (0x10 + g) [s.rn (Reg.GRV_FAULT g), s.rn (Reg.GRV_FAULT_POS g), g] c i

/-- What follows a fault, by role (R107). -/
def State.groveFault (s : State) (g : Nat) (o : Owner) (op index code cycles : Nat) : State :=
  let s := s.showFault g o op index code cycles
  match o with
  | .ctx c => s.faultCtx c (if code = 8 ∨ code = 9 then 0xA else 0x9)
  | .stream i => s.modGrove g (fun x => x.dropStream i)

/-- An issue check fails: the command does not execute and memory is unchanged (R106). -/
def State.issueFault (s : State) (f : Fetched) (code : Nat) : State :=
  let s := s.modGrove f.grove (fun x => { x with todo := x.todo.drop 1 })
  s.groveFault f.grove f.owner (opcodeOf f.cmd) f.index code 0

/-! ### Issue and completion (R86, R102 to R104) -/

/-- A command begins execution: it leaves its list or its ring position, and is counted (Table 4.11). -/
def State.beginExec (s : State) (f : Fetched) (e : Exec) : State :=
  let s := s.modGrove f.grove (fun x => { x with run := some e, todo := x.todo.drop 1, idle := false })
  let s := match f.owner with
    | .ctx c => s.modCtx c (fun k => { k with head := (k.head + 1) % 2 ^ k.ringOrder })
    | .stream _ => s
  if s.blockLive (0x10 + f.grove) then s.incR64 (Reg.GRV_ISSUED_LO f.grove) 1 else s

/-- The Skid slots that a command read are marked as read, for the replacement order of R87. -/
def State.touchSkid (s : State) (f : Fetched) (rs : List CmdRegion) : State :=
  let vs := rs.flatMap CmdRegion.vslots
  s.modGrove f.grove (fun x =>
    { x with reads := x.reads + 1,
             skid := tmap (fun _ e => if e.owner == f.owner && vs.contains e.vslot then { e with lastRead := x.reads + 1 } else e) x.skid })

/-- The reissue of the descriptors of missing slots whose entries were replaced (R86): handed to the DMA by `reissue`. A context
that a fault of such a descriptor ends does not block. -/
def State.blockOnSkid (reissue : State → Fetched → Nat → State) (s : State) (f : Fetched) (missing : List Nat) : State :=
  match f.owner with
  | .stream _ => s
  | .ctx c =>
    let s := missing.foldl (fun s v => reissue s f v) s
    if (s.ctx c).state = .faulted then s else
    (s.blockCtx c 1).modCtx c (fun k => { k with waitMask := missing.foldl (fun m v => setFld m (16 + v) 1 1) 0 })

/-- Issue of a command whose opcode's checks are `k` and whose writes are `writes` (R86, R103, R106). An uncorrectable
operand is met in execution: the command stops and faults when it ends (Table 12.2). -/
def State.issue (reissue : State → Fetched → Nat → State) (s : State) (f : Fetched) (k : IssueCheck)
    (writes : State → List (Nat × List Byte)) (drains : State → List Drain) : State :=
  match f.firstFault k with
  | some code => s.issueFault f code
  | Option.none =>
    let missing := s.missingSlots f k.regions
    if !missing.isEmpty then s.blockOnSkid reissue f missing
    else
      let e : Exec := { op := opcodeOf f.cmd, cmd := f.cmd, owner := f.owner, index := f.index, cap := capOf f.cmd,
                        cycles := k.cycles, writes := writes s, drains := drains s, uncorrectable := s.badOperand f k.regions }
      ((s.touchSkid f k.regions).beginExec f e).tickFresh

/-- Bytes written to a Grove's SRAM at absolute offsets. -/
def State.wrGrove (s : State) (g : Nat) (ws : List (Nat × List Byte)) : State :=
  ws.foldl (fun t w => t.wrBytes (groveBase g + w.1) w.2) s

/-- The Grove's busy cycles grow by a finished command's (Table 4.11), and its context's LAST_RUN is set (Table 3.4). -/
def State.accountTile (s : State) (g : Nat) (e : Exec) (cycles : Nat) : State :=
  let s := s.modGrove g (fun x => { x with run := Option.none, tickBusy := x.tickBusy + cycles, lateStream := Option.none, overdue := false })
  let s := if s.blockLive (0x10 + g) then s.incR64 (Reg.GRV_BUSY_LO g) cycles else s
  match e.owner with
  | .ctx c => s.modCtx c (fun k => { k with lastRun := s.rn Reg.TICK_COUNT_LO, ranCycles := k.ranCycles + cycles })
  | .stream _ => s

/-- Bytes of which each is the old one or the new one, freely (R104). -/
def mixBytes (n : Nat) : List Byte → List Byte → List Byte
  | o :: os, b :: bs => (if Config.freeFn 2 [n, os.length] % 2 = 0 then o else b) :: mixBytes n os bs
  | _, _ => []

/-- What a stopped command leaves (R104): every byte it would have written holds its old value or the value the command
wrote; which of the two is free, since the cycle of each drain is (log entry 10). -/
def State.partialWrites (s : State) (g : Nat) (ws : List (Nat × List Byte)) : State :=
  ws.foldl (fun t w =>
    let a := groveBase g + w.1
    (t.wrBytes a (mixBytes t.fresh (t.rdBytes a w.2.length) w.2)).tickFresh) s

/-- Values of four bytes of which each is the old one or the new one, freely: byte `i` goes with the others of its value. -/
def mixWords (n i : Nat) : List Byte → List Byte → List Byte
  | o :: os, b :: bs => (if Config.freeFn 2 [n, i / 4, 4] % 2 = 0 then o else b) :: mixWords n (i + 1) os bs
  | _, _ => []

/-- What a stop leaves of values of four bytes: maxima, counters and scales (R104, R140). -/
def State.partialWords (s : State) (g : Nat) (ws : List (Nat × List Byte)) : State :=
  ws.foldl (fun t w =>
    let a := groveBase g + w.1
    (t.wrBytes a (mixWords t.fresh 0 (t.rdBytes a w.2.length) w.2)).tickFresh) s

/-- What a command with output blocks leaves at a stop (R104, R142): the blocks that had drained, how many of them being free, hold
what it wrote, and their merges stand; of the block in progress and of those to come each byte is the old one or the new one; a
maximum or a counter that the block in progress merges is the old one or the new one. -/
def State.stopDrains (s : State) (g : Nat) (e : Exec) : State :=
  let n := s.freeVal 32 % e.drains.length
  let mine := e.drains.flatMap (fun d => d.entry.map (·.1))
  let s := s.tickFresh.wrGrove g ((e.drains.take n).flatMap (fun d => d.out ++ d.entry))
  let s := s.partialWrites g (e.writes.filter (fun w => !mine.contains w.1))
  s.partialWords g (((e.drains.drop n).take 1).flatMap (·.entry))

/-- What a TALLY leaves at a stop (R140): each scale, reciprocal and code is the old one or the new one; HEAD and STEP_COUNT are
written last, so they change only once the rest is written. -/
def State.stopTally (s : State) (g : Nat) (ws : List (Nat × List Byte)) : State :=
  let last := ws.drop (ws.length - 1)
  if s.freeVal 33 % 2 = 0 then (s.tickFresh.wrGrove g ws.dropLast).partialWords g last
  else (s.tickFresh.partialWords g (ws.take 1)).partialWrites g (ws.dropLast.drop 1)

/-- The writes of a command whose outcome at a stop is free, after those that are certain: a SCAN has cleared VALID first and
sets it last (R187), an ATTN advances KNEXT last (chapter 8), and a TALLY writes HEAD last (R140). -/
def State.stopWrites (s : State) (g : Nat) (e : Exec) : State :=
  if e.op = 9 then s.stopTally g e.writes
  else if !e.drains.isEmpty then s.stopDrains g e
  else if e.op = 4 then (s.wrGrove g (e.writes.take 1)).partialWrites g (e.writes.drop 1).dropLast
  else if e.op = 5 then s.partialWrites g e.writes.dropLast
  else s.partialWrites g e.writes

/-- The end of a stop (R104, R107): partial writes, the accounts and the fault. -/
def State.stopCommand (s : State) (g : Nat) (e : Exec) (code cycles : Nat) : State :=
  let s := s.stopWrites g e
  let s := s.accountTile g e cycles
  s.groveFault g e.owner e.op e.index code cycles

end Sys2Proof.Machine
end

