-- ==== Sys2Proof/Machine/Operands.lean ====
section
/-! DEFINITION. Operand forms: element arrays, k-quad layout, destination blocks, block containers, zero points and the
group factor (R96 to R99, R110 to R119). Operands are read out of the bytes of their region. -/
namespace Sys2Proof.Machine
open Sys2Proof

/-- The `w` bits at bit offset `o` of a byte list, low bits first (R96, R111). -/
def bitsAt (bs : List Byte) (o w : Nat) : Nat := fld (leNat ((bs.drop (o / 8)).take ((o % 8 + w + 7) / 8))) (o % 8) w

/-- Bytes of an array of `n` elements of width `w` (R111). -/
def arrayBytes (n w : Nat) : Nat := ceilDiv (n * w) 8

/-- An array's bits written over the bytes there, which keep the bits beyond its last element (R111). -/
def packOver (old : List Byte) (w : Nat) (xs : List Nat) : List Byte :=
  let total := xs.length * w
  let v := xs.foldr (fun x acc => x % 2 ^ w + 2 ^ w * acc) 0
  let n := ceilDiv total 8
  leBytes n (setFld (leNat (old.take n)) 0 total v)

/-- Elements packed from bit 0 of the first byte, padded with zero bits to whole bytes (R98). -/
def packBits (w : Nat) (xs : List Nat) : List Byte :=
  leBytes (ceilDiv (xs.length * w) 8) (xs.foldr (fun x acc => x % 2 ^ w + 2 ^ w * acc) 0)

/-! ### k-quad layout (R96, R97) -/

/-- An operand in k-quad layout: its format, container, K, number of blocks of 32 lanes, and its bytes from its start. -/
structure KQuad where
  fmt : Nat
  blk : Nat
  k : Nat
  blocks : Nat
  bytes : List Byte
  deriving Repr

/-- Kp = 4 × ceil(K / 4) (R96). -/
def kPad (k : Nat) : Nat := 4 * ceilDiv k 4
/-- Bytes of one block of 32 lanes (R96). -/
def kBlockBytes (fmt k : Nat) : Nat := 32 * kPad k * fmtBits fmt / 8
/-- Elements per container block (R118). -/
def blkSize (blk : Nat) : Nat := if blk = 1 then 32 else 16
/-- Where the scale array begins (R97). -/
def scaleStart (fmt k blocks : Nat) : Nat := roundUp (blocks * kBlockBytes fmt k) 128
/-- Bytes of the scale array (R97). -/
def scaleBytes (blk k blocks : Nat) : Nat := if blk = 0 then 0 else blocks * (k / blkSize blk) * 32
/-- Where the zero-point array begins (R97). -/
def zeroStart (fmt blk k blocks : Nat) : Nat :=
  if blk = 0 then scaleStart fmt k blocks else roundUp (scaleStart fmt k blocks + scaleBytes blk k blocks) 128
/-- Whether a format has zero points (R97). -/
def hasZero (fmt : Nat) : Bool := fmt == 1 || fmt == 3
/-- Bytes that an operand's data, scales and zero points occupy from its start (R91, R97). -/
def kQuadBytes (fmt blk k blocks : Nat) : Nat :=
  if hasZero fmt then zeroStart fmt blk k blocks + blocks * 32
  else if blk ≠ 0 then scaleStart fmt k blocks + scaleBytes blk k blocks
  else blocks * kBlockBytes fmt k

/-- The bits of element (lane, k) of block `b` (R96); zero when k is K or more. -/
def KQuad.raw (o : KQuad) (b lane k : Nat) : Nat :=
  if k < o.k then
    let w := fmtBits o.fmt
    bitsAt (o.bytes.drop (b * kBlockBytes o.fmt o.k)) ((k / 4) * 128 * w + (lane * 4 + k % 4) * w) w
  else 0

/-- The zero point of a lane of a block (R97, R114). -/
def KQuad.zero (o : KQuad) (b lane : Nat) : Nat := u8 o.bytes (zeroStart o.fmt o.blk o.k o.blocks + b * 32 + lane)

/-- Subtract a zero point from an unsigned element (R114). -/
def subZero (x z : Nat) : Fp := let d : Int := (x : Int) - (z : Int); .fin (decide (d < 0)) d.natAbs 0

/-- The value of element (lane, k) before group factors (R113, R114); an element beyond K reads as zero. -/
def KQuad.elem (o : KQuad) (b lane k : Nat) : Fp :=
  if k < o.k then
    if hasZero o.fmt then subZero (o.raw b lane k) (o.zero b lane) else decodeFmt o.fmt (o.raw b lane k)
  else fpZero

/-- The group factor of a scale byte (R119): none for a NaN scale. -/
def scaleFactor (blk s : Nat) : Option (Int × Int) :=
  if blk = 0 then some (1, 0)
  else if blk = 1 then (if s = 255 then Option.none else some (1, (s : Int) - 127))
  else match decodeFloat 9 s with
    | .fin n m e => some (signInt n m, e)
    | _ => Option.none

/-- The group factor of k-group `q` of a lane (R112, R119). -/
def KQuad.factor (o : KQuad) (b lane q : Nat) : Option (Int × Int) :=
  if o.blk = 0 then some (1, 0)
  else
    let nq := o.k / blkSize o.blk
    scaleFactor o.blk (u8 o.bytes (scaleStart o.fmt o.k o.blocks + b * nq * 32 + (4 * q / blkSize o.blk) * 32 + lane))

/-- The largest exponent p of a BF16 k-group's non-zero finite elements (R115). -/
def bfMax (xs : List Fp) : Option Int :=
  xs.foldl (fun acc x => match x with
    | .fin _ m e => if m = 0 then acc else match acc with
      | Option.none => some e
      | some a => some (max a e)
    | _ => acc) Option.none

/-- Small BF16 elements of a k-group expand to zero with their sign (R115). -/
def bfFlush (fmt : Nat) (xs : List Fp) : List Fp :=
  if fmt = 0xB then
    match bfMax xs with
    | some p => xs.map (fun x => match x with
      | .fin s m e => if e < p - 63 then .fin s 0 0 else .fin s m e
      | y => y)
    | Option.none => xs
  else xs

/-- The product of two group factors; none when either is a NaN scale. -/
def factorMul : Option (Int × Int) → Option (Int × Int) → Option (Int × Int)
  | some (a, e), some (b, f) => some (a * b, e + f)
  | _, _ => Option.none

/-- K-group `q` of lane `r` of A block `i` and lane `c` of B block `j` (R120). -/
def kGroup (a b : KQuad) (i r j c q : Nat) : KGroup :=
  let xs := bfFlush a.fmt ((List.range 4).map (fun t => a.elem i r (4 * q + t)))
  let ys := bfFlush b.fmt ((List.range 4).map (fun t => b.elem j c (4 * q + t)))
  { terms := xs.zip ys, factor := factorMul (a.factor i r q) (b.factor j c q) }

/-- The integer value of an element for EXACT sums (R122). -/
def fpInt : Fp → Int
  | .fin s m e => signInt s (shiftNat m e)
  | _ => 0

/-! ### Destination layout (R98) -/

/-- Bytes of a destination of `mb` by `nbo` blocks (R98). -/
def destBytes (mb nbo w : Nat) : Nat := mb * nbo * (1024 * w / 8)

/-- Whether a row and column of block (r, c) are kept (R96, R98). -/
def keptAt (mb nbo mTail nTail r c row col : Nat) : Bool :=
  (decide (r + 1 < mb) || decide (row < (if mTail = 0 then 32 else mTail))) &&
  (decide (c + 1 < nbo) || decide (col < (if nTail = 0 then 32 else nTail)))

/-- The values of one destination block in row order, zero outside the kept rows and columns (R98). -/
def blockValues (mb nbo mTail nTail r c : Nat) (f : Nat → Nat → Nat) : List Nat :=
  (List.range 1024).map (fun i => if keptAt mb nbo mTail nTail r c (i / 32) (i % 32) then f (i / 32) (i % 32) else 0)

/-- The rate divisor of a format and of two operands (R94). -/
def rateDiv (f : Nat) : Nat := if f = 0xC then 2 else if f = 4 then 4 else 1
def rateDiv2 (a b : Nat) : Nat := max (rateDiv a) (rateDiv b)

/-- FORMAT_MASK (Table 1.7): whether a format code is supported. -/
def formatSupported (f : Nat) : Bool := bitOf 0x7FFF f

/-- The A and B formats of MATMUL, CONV and ATTN (Table 4.6). -/
def operandFmtOk (f blk k : Nat) : Bool :=
  formatSupported f && (decide (f ≤ 4) || (decide (6 ≤ f) && decide (f ≤ 0xC)))
  && (blk == 0 || (decide (6 ≤ f) && decide (f ≤ 0xA) && k % blkSize blk == 0))

/-- The D formats (Table 4.6); INT32 only with EXACT. -/
def destFmtOk (f : Nat) (exact : Bool) : Bool :=
  formatSupported f && (if exact then f == 5 else decide (f ≤ 4) || (decide (6 ≤ f) && decide (f ≤ 0xD)))

end Sys2Proof.Machine
end

