-- ==== Sys2Proof/Machine/Quant.lean ====
section
/-! DEFINITION. Element-wise programs, scale entries, CVT and the Tally (R100, R101, R124, R127 to R142). -/
namespace Sys2Proof.Machine
open Sys2Proof

/-! ### Scale entries (R128, R129) -/

/-- A scale entry's header (Table 6.2). -/
structure ScaleHead where
  k : Nat
  gran : Nat
  fmt : Nat
  zpEn : Bool
  chCount : Nat
  headroom : Nat
  head : Nat
  clean : Bool
  deriving DecidableEq, Repr

/-- Read a scale entry's header from its first 128 bytes. -/
def scaleHead (b : List Byte) : ScaleHead :=
  let c := u32 b 0
  { k := fld c 0 5, gran := fld c 8 2, fmt := fld c 12 4, zpEn := bitOf c 16, chCount := u16 b 4, headroom := u32 b 8,
    head := fld (u32 b 12) 0 4,
    clean := fld c 5 3 == 0 && fld c 10 2 == 0 && fld c 17 15 == 0 && fld (u32 b 4) 16 16 == 0
      && fld (u32 b 12) 4 28 == 0 && zeroAt b 0x1C 100 }

/-- Channels per group by GRAN. -/
def granSize (gran : Nat) : Nat := nth 1 [1, 1, 16, 32] gran
/-- The number of groups G (chapter 6). -/
def ScaleHead.groups (h : ScaleHead) : Nat := if h.gran = 0 then 1 else h.chCount / granSize h.gran
/-- Copies in SCL: 128 for GRAN tensor, else G (Table 6.2). -/
def ScaleHead.sclCount (h : ScaleHead) : Nat := if h.gran = 0 then 128 else h.groups
def ScaleHead.pendOff (h : ScaleHead) : Nat := roundUp (0x80 + h.k * h.groups * 8) 128
def ScaleHead.sclOff (h : ScaleHead) : Nat := roundUp (h.pendOff + h.groups * 8) 128
def ScaleHead.invOff (h : ScaleHead) : Nat := roundUp (h.sclOff + h.sclCount * 4) 128
def ScaleHead.codeOff (h : ScaleHead) : Nat := roundUp (h.invOff + h.groups * 4) 128
def ScaleHead.zpOff (h : ScaleHead) : Nat := if 2 ≤ h.gran then roundUp (h.codeOff + h.groups) 128 else h.codeOff
/-- Bytes of the whole entry (Table 6.2). -/
def ScaleHead.bytes (h : ScaleHead) : Nat :=
  if h.zpEn then h.zpOff + 1 else if 2 ≤ h.gran then h.codeOff + h.groups else h.invOff + h.groups * 4

/-- FP32 bits of 1.0 and 16.0 bound HEADROOM (Table 6.2). -/
def headroomOk (x : Nat) : Bool := decide (0x3F800000 ≤ x) && decide (x ≤ 0x41800000)

/-- ENT_CTRL and the header are valid (R128, R129). -/
def ScaleHead.ok (h : ScaleHead) : Bool :=
  h.clean && decide (1 ≤ h.k) && decide (h.k ≤ 16) && decide (1 ≤ h.chCount) && headroomOk h.headroom && decide (h.head < h.k)
  && (decide (h.fmt ≤ 3) || (decide (6 ≤ h.fmt) && decide (h.fmt ≤ 0xA)))
  && (decide (h.gran < 2) || (decide (6 ≤ h.fmt) && decide (h.fmt ≤ 0xA) && h.chCount % granSize h.gran == 0))
  && (!h.zpEn || ((h.fmt == 1 || h.fmt == 3) && h.gran == 0))

/-- qmax by format as a magnitude and exponent (Table 6.3). -/
def qmaxOf (f : Nat) : Nat × Int :=
  nth (0, 0) [(7, 0), (15, 0), (127, 0), (255, 0), (0, 0), (0, 0), (6, 0), (15, -1), (28, 0), (448, 0), (57344, 0)] f

/-- The zero point of an entry: ZP under ZP_EN, else 0; it does not exceed qmax (Table 6.2). -/
def ScaleHead.zp (h : ScaleHead) (b : List Byte) : Nat := if h.zpEn then u8 b h.zpOff else 0

/-- A non-negative finite FP32 as a magnitude and exponent; anything else counts as 0. -/
def fpMag (x : Fp) : Nat × Int := match x with | .fin false m e => (m, e) | _ => (0, 0)

/-- The maxima (m, e) with the larger value. -/
def magMax (a b : Nat × Int) : Nat × Int := if (addDyadic (a.1 : Int) a.2 (-(b.1 : Int)) b.2).1 < 0 then b else a

/-- The greatest of a list of FP32 maxima. -/
def fpMaxList (xs : List Nat) : Nat × Int := (xs.map (fun x => fpMag (fp32Of x))).foldl magMax (0, 0)

/-- A positive fraction rounded to FP32 toward +∞ (Table 6.4), as a magnitude and exponent. -/
def roundUpFrac (p : Nat) (emin : Int) (n d : Nat) (e : Int) : Nat × Int :=
  if n = 0 then (0, emin) else
  let k := log2Frac n d + e
  let q := max (k - ((p : Int) - 1)) emin
  let (a, b) := scaleFrac n d (e - q)
  (ceilDiv a b, q)

/-- Clamp a positive dyadic between 2^lo and a maximum. -/
def clampDyadic (lo : Int) (hi : Nat × Int) (x : Nat × Int) : Nat × Int :=
  if !geExp2 x.1 x.2 lo then (1, lo)
  else if 0 < (addDyadic (x.1 : Int) x.2 (-(hi.1 : Int)) hi.2).1 then hi else x

/-- round_scale (R139, Table 6.4) of the exact product r × HEADROOM, rounded once and upward (log entry 140). -/
def roundScale (gran : Nat) (x : Nat × Int) : Nat × Int :=
  if gran ≤ 1 then clampDyadic (-126) (1, 127) (roundUpFrac 24 (-149) x.1 1 x.2)
  else if gran = 2 then clampDyadic (-9) (448, 0) (roundUpFrac 4 (-9) x.1 1 x.2)
  else
    let k := log2Frac x.1 1 + x.2
    let up := if 0 < (addDyadic (x.1 : Int) x.2 (-1) k).1 then k + 1 else k
    clampDyadic (-127) (1, 127) (1, up)

/-- The CODE byte of a scale: FP8 E4M3 for groups of 16, E8M0 for groups of 32 (R138, Table 6.4). -/
def scaleCode (gran : Nat) (s : Nat × Int) : Nat :=
  if gran = 2 then encodeFields 4 3 7 false s.1 s.2
  else ((Nat.log2 s.1 : Int) + s.2 + 127).toNat % 256

/-- A positive quotient rounded to FP32 (R138: p, n and r are FP32; log entry 140). -/
def fpDivMag (a : Nat × Int) (d : Nat × Int) : Nat × Int :=
  if d.1 = 0 then (0, 0) else
  match fp32OfFrac false a.1 d.1 (a.2 - d.2) with | .fin _ m e => (m, e) | _ => (16777215, 104)

/-- The commit of an entry (R138): the whole new entry from the old one. -/
def commitEntry (b : List Byte) : List Byte :=
  let h := scaleHead b
  let g := h.groups
  let pend := slice b h.pendOff (g * 8)
  let histAt (j i : Nat) : Nat := if j = h.head then u32 pend (i * 8) else u32 b (0x80 + (j * g + i) * 8)
  let histNAt (j i : Nat) : Nat := if j = h.head then u32 pend (i * 8 + 4) else u32 b (0x80 + (j * g + i) * 8 + 4)
  let q := qmaxOf h.fmt
  let z := h.zp b
  let ratio (i : Nat) : Nat × Int :=
    let p := fpMaxList ((List.range h.k).map (fun j => histAt j i))
    let n := fpMaxList ((List.range h.k).map (fun j => histNAt j i))
    if h.zpEn then
      let r := if z < q.1 then fpDivMag p (q.1 - z, 0) else (0, 0)
      if 0 < z then magMax r (fpDivMag n (z, 0)) else r
    else if hasZero h.fmt then fpDivMag p q
    else fpDivMag (magMax p n) q
  let newScl (i : Nat) : Option (Nat × Int) :=
    let r := ratio i
    if r.1 = 0 then Option.none
    else
      let hr := fpMag (fp32Of h.headroom)
      some (roundScale h.gran (r.1 * hr.1, r.2 + hr.2))
  let sclBits (i : Nat) : Nat := match newScl i with
    | some (m, e) => encodeFields 8 23 127 false m e
    | Option.none => u32 b (h.sclOff + i * 4)
  let invBits (i : Nat) : Nat := match newScl i with
    | some (m, e) => fp32Bits (fp32OfFrac false 1 m (-e))
    | Option.none => u32 b (h.invOff + i * 4)
  let codeByte (i : Nat) : Nat := match newScl i with
    | some s => scaleCode h.gran s
    | Option.none => u8 b (h.codeOff + i)
  let put (out : List Byte) (off : Nat) (bs : List Byte) : List Byte := out.take off ++ bs ++ out.drop (off + bs.length)
  let out := put b (0x80 + h.head * g * 8) pend
  let out := put out h.pendOff (List.replicate (g * 8) 0)
  let out := put out h.sclOff ((List.range h.sclCount).flatMap (fun i =>
    leBytes 4 (if h.gran = 0 then (match newScl 0 with
      | some (m, e) => encodeFields 8 23 127 false m e
      | Option.none => u32 b (h.sclOff + i * 4)) else sclBits i)))
  let out := put out h.invOff ((List.range g).flatMap (fun i => leBytes 4 (invBits i)))
  let out := if 2 ≤ h.gran then put out h.codeOff ((List.range g).flatMap (fun i => leBytes 1 (codeByte i))) else out
  let out := put out 0x0C (leBytes 4 ((h.head + 1) % h.k))
  put out 0x10 (leBytes 4 (satAdd32 (u32 b 0x10) 1))

/-! ### Element-wise programs (R100) -/

/-- One micro-op (R100). -/
structure MicroOp where
  op : Nat
  d : Nat
  sa : Nat
  sb : Nat
  sc : Nat
  imm : Nat
  deriving DecidableEq, Repr

/-- An element-wise program with its vectors (R100). -/
structure Program where
  len : Nat
  nvec : Nat
  ops : List MicroOp
  vecs : List (List Byte)
  vecAddr : List Nat
  deriving DecidableEq, Repr

/-- Read a program's header and micro-ops from its bytes. -/
def parseProgram (b : List Byte) : Program :=
  let len := fld (u32 b 0) 0 5
  { len := len, nvec := fld (u32 b 0) 8 2, vecs := [],
    vecAddr := [u16 b 4 * 128, u16 b 6 * 128, u16 b 8 * 128],
    ops := (List.range len).map (fun i =>
      let lo := u32 b (16 + 8 * i)
      { op := fld lo 0 8, d := fld lo 8 4, sa := fld lo 12 4, sb := fld lo 16 4, sc := fld lo 20 4,
        imm := u32 b (20 + 8 * i) }) }

/-- How many selectors a micro-op reads (R100). -/
def opArity (op : Nat) : Nat :=
  if op = 3 ∨ op = 0xE ∨ op = 0xF then 3
  else if op = 1 ∨ op = 2 ∨ op = 4 ∨ op = 5 then 2
  else 1

/-- A read selector within its coding (R100). -/
def selectorOk (nvec : Nat) (hasY : Bool) (x : Nat) : Bool :=
  decide (x ≤ 9) && (x != 1 || hasY) && (decide (x < 6) || x == 9 || decide (x - 6 < nvec))

/-- A program within R100: LEN, NVEC, OPs, registers, selectors, and CVT in the last position only. -/
def Program.ok (p : Program) (hasY : Bool) : Bool :=
  decide (1 ≤ p.len) && decide (p.len ≤ 16) && p.ops.length == p.len &&
  (List.range p.len).all (fun i =>
    let m := nth ⟨0, 0, 0, 0, 0, 0⟩ p.ops i
    decide (1 ≤ m.op) && decide (m.op ≤ 0x10) && decide (m.d ≤ 3) && (m.op != 0x10 || i + 1 == p.len)
    && selectorOk p.nvec hasY m.sa
    && (decide (opArity m.op < 2) || selectorOk p.nvec hasY m.sb)
    && (decide (opArity m.op < 3) || selectorOk p.nvec hasY m.sc))

/-- The last micro-op when it is CVT. -/
def Program.cvt (p : Program) : Option MicroOp :=
  match p.ops.getLast? with
  | some m => if m.op = 0x10 then some m else Option.none
  | Option.none => Option.none

/-- EP of R101. -/
def epOf (len : Nat) : Nat := if len ≤ 8 then 1 else 2

/-- The value of one micro-op that is not CVT (Table 4.7, R124). -/
def microValue (use : List Nat) (op : Nat) (a b c : Fp) : Fp :=
  match op with
  | 0x01 => fp32Add a b
  | 0x02 => fp32Mul a b
  | 0x03 => fp32Fma a b c
  | 0x04 => fp32Max a b
  | 0x05 => fp32Min a b
  | 0x08 => fp32Rcp a
  | 0x0E => fp32Min (fp32Max a b) c
  | 0x0F => match a with
    | .nan => c
    | _ => if fpLt a fpNegZero then c else b
  | op => boundedResult use op a

/-- A program run on one element: the value and bits of the registers, then the last value written. CVT's input is the value
its SA selects (R100). -/
def runOps (use : List Nat) (x y : Fp) (vec : Nat → Fp) : List MicroOp → (Nat → Fp) → Fp → Fp
  | [], _, last => last
  | m :: ms, t, _ =>
    let sel (i : Nat) : Fp :=
      if i = 0 then x else if i = 1 then y else if i ≤ 5 then t (i - 2) else if i ≤ 8 then vec (i - 6) else fp32Of m.imm
    let v := if m.op = 0x10 then sel m.sa else microValue (m.op :: ms.length :: use) m.op (sel m.sa) (sel m.sb) (sel m.sc)
    runOps use x y vec ms (fun i => if i = m.d then v else t i) v

/-- The value a program gives for one element: CVT's input when the last micro-op is CVT. -/
def Program.run (p : Program) (use : List Nat) (x y : Fp) (ch : Nat) : Fp :=
  runOps use x y (fun v => fp32Of (u32 (nth [] p.vecs v) (4 * ch))) p.ops (fun _ => fpZero) fpZero

/-! ### CVT and the Tally (R131 to R137) -/

/-- What a command's CVT converts with: the entry's header, bytes, offset and CH_BASE. -/
structure CvtUse where
  head : ScaleHead
  entry : List Byte
  offset : Nat
  chBase : Nat
  tally : Bool
  deriving DecidableEq, Repr

/-- The group of a channel (chapter 6). -/
def ScaleHead.groupOf (h : ScaleHead) (ch : Nat) : Nat := if h.gran = 0 then 0 else ch / granSize h.gran

/-- CVT of one value (R135): the bits, whether beyond range, and whether the input was special. -/
def CvtUse.convert (u : CvtUse) (a : Fp) (ch : Nat) : Nat × Bool × Bool :=
  let g := u.head.groupOf (u.chBase + ch)
  let inv := fp32Of (u32 u.entry (u.head.invOff + 4 * g))
  let y := fp32Fma a inv (.fin false (u.head.zp u.entry) 0)
  let (bits, beyond) := convertOut u.head.fmt y
  (bits, beyond && !(a.isNan || a.isInf), a.isNan || a.isInf)

/-- Merge an observed value into a group's pending maxima (R132). -/
def observe (pn : Nat × Nat) (a : Fp) : Nat × Nat :=
  match a with
  | .fin false m _ => if m = 0 then pn else if fpLt (fp32Of pn.1) a then (fp32Bits a, pn.2) else pn
  | .fin true m e => if m = 0 then pn else if fpLt (fp32Of pn.2) (.fin false m e) then (pn.1, fp32Bits (.fin false m e)) else pn
  | _ => pn

/-- The entry after a list of conversions: counters raised (R136), and with TALLY the maxima merged into PEND (R132). -/
def CvtUse.updated (u : CvtUse) (obs : List (Nat × Fp)) : List Byte :=
  let results := obs.map (fun o => (u.convert o.2 o.1).2)
  let sat := (results.filter (·.1)).length
  let spec := (results.filter (·.2)).length
  let put (out : List Byte) (off : Nat) (bs : List Byte) : List Byte := out.take off ++ bs ++ out.drop (off + bs.length)
  let b := put u.entry 0x14 (leBytes 4 (satAdd32 (u32 u.entry 0x14) sat))
  let b := put b 0x18 (leBytes 4 (satAdd32 (u32 b 0x18) spec))
  if u.tally then
    (List.range u.head.groups).foldl (fun b g =>
      let mine := (obs.filter (fun o => u.head.groupOf (u.chBase + o.1) == g)).map (·.2)
      let off := u.head.pendOff + 8 * g
      let pn := mine.foldl observe (u32 b off, u32 b (off + 4))
      put (put b off (leBytes 4 pn.1)) (off + 4) (leBytes 4 pn.2)) b
  else b

/-- A command's channels lie below CH_COUNT and in at most 128 groups, and CH_BASE suits the group size (R131). -/
def CvtUse.channelsOk (u : CvtUse) (nch : Nat) (blockOp : Bool) : Bool :=
  decide (u.chBase + nch ≤ u.head.chCount)
  && decide (u.head.groupOf (u.chBase + nch - 1) + 1 - u.head.groupOf u.chBase ≤ 128)
  && (decide (u.head.gran < 2) || (blockOp && u.chBase % granSize u.head.gran == 0))

end Sys2Proof.Machine
end

