-- ==== Sys2Proof/Machine/Tensor.lean ====
section
/-! DEFINITION. What MATMUL and CONV share: program and scale-entry loading, checks, accumulation, the destination blocks and
the arrays beside them (R92, R95 to R100, R120 to R126, R131 to R137). -/
namespace Sys2Proof.Machine
open Sys2Proof

/-- An operand word that addresses Grove SRAM offset `o` under R91. -/
def sramWord (o : Nat) : Nat := o

/-- Bytes of the owner's own Grove SRAM from an offset (R91). -/
def State.ownBytes (s : State) (f : Fetched) (off n : Nat) : List Byte := s.rdBytes (groveBase f.grove + f.base + off) n

/-- The program that a command names, with its vectors of `nval` FP32 values (R100). -/
def State.loadProgram (s : State) (f : Fetched) (nval : Nat) : Program :=
  let o := ewpOf f.cmd
  let len := fld (leNat (s.ownBytes f o 4)) 0 5
  let p := parseProgram (s.ownBytes f o (16 + 8 * len))
  { p with vecs := (p.vecAddr.take p.nvec).map (fun a => s.ownBytes f a (4 * nval)) }

/-- The regions of a program and its vectors: exempt from the bank rule (R92). A vector's address may lie beyond Grove SRAM (R100):
what it exceeds OFFSET's range by then lengthens its region, which ends where the vector does. -/
def programRegions (c : Nat) (p : Program) (nval : Nat) : List CmdRegion :=
  { word := ewpOf c, bytes := 16 + 8 * p.len, use := .exempt } ::
    (p.vecAddr.take (min 3 p.nvec)).map (fun a => { word := a % 2 ^ 21, bytes := a / 2 ^ 21 * 2 ^ 21 + 4 * nval, use := .exempt })

/-- The scale entry that a CVT control word names (R131, R133). -/
def State.loadCvt (s : State) (f : Fetched) (m : MicroOp) (tally : Bool) : CvtUse :=
  let off := fld m.imm 0 14 * 128
  let h := scaleHead (s.ownBytes f off 128)
  { head := h, entry := s.ownBytes f off (if h.ok then h.bytes else 128), offset := off, chBase := fld m.imm 16 16, tally := tally }

/-- The entry is in no bank of the command's A, B, AUX and destination regions, and within one (R133). -/
def Fetched.entryBankOk (f : Fetched) (u : CvtUse) (rs : List CmdRegion) : Bool :=
  let e : CmdRegion := { word := u.offset, bytes := u.head.bytes, use := .exempt }
  f.oneBank e && (rs.filter (fun r => r.use != .exempt && r.bytes != 0)).all (fun r => f.bank r != f.bank e)

/-- A MATMUL or CONV as its checks and its computation see it. -/
structure TensorJob where
  mb : Nat
  nb : Nat
  mTail : Nat
  nTail : Nat
  accIn : Bool
  exact : Bool
  ew : Bool
  pair : Bool
  tally : Bool
  fmtD : Nat
  kLen : Nat
  rd : Nat
  deriving DecidableEq, Repr

/-- Column blocks of the destination (R98). -/
def TensorJob.nbo (j : TensorJob) : Nat := if j.pair then j.nb / 2 else j.nb

/-- Formula cycles of MATMUL and CONV (R102), `lk` being the K loop of one block. -/
def TensorJob.cycles (j : TensorJob) (lk ep : Nat) : Nat :=
  let la := if j.accIn then 32 else 0
  let ld := 16 * ep
  14 + la + j.mb * j.nb * max lk (max ld la) + ld

/-- The job that a command's flags and sizes spell (Tables 4.3 and 4.5). -/
def tensorJob (c kLen : Nat) : TensorJob :=
  { mb := fld (dimOf c) 16 3, nb := fld (dimOf c) 20 3, mTail := fld (extOf c) 0 5, nTail := fld (extOf c) 8 5,
    accIn := flagOf c 8, exact := flagOf c 9, ew := flagOf c 10, pair := flagOf c 11, tally := flagOf c 12,
    fmtD := fmtD c, kLen := kLen, rd := rateDiv2 (fmtA c) (fmtB c) }

/-- The loaded program and CVT of a job: none without EW_EN. -/
structure TensorEw where
  prog : Option Program
  cvt : Option CvtUse
  deriving DecidableEq, Repr

/-- Load a job's program and scale entry (R100, R134). -/
def State.loadEw (s : State) (f : Fetched) (ew tally : Bool) (nval : Nat) : TensorEw :=
  if ew then
    let p := s.loadProgram f nval
    { prog := some p, cvt := p.cvt.map (fun m => s.loadCvt f m tally) }
  else { prog := Option.none, cvt := Option.none }

/-- The field conditions on flags, program and entry (R131, R132): TALLY needs EW_EN and a last CVT; the entry is valid, its
channels are in range, and the control word's reserved bits are zero. -/
def TensorEw.fieldsOk (e : TensorEw) (tally : Bool) (nch : Nat) (blockOp : Bool) : Bool :=
  (!tally || e.cvt.isSome) &&
  (match e.cvt, e.prog.bind Program.cvt with
    | some u, some m => u.head.ok && u.channelsOk nch blockOp && fld m.imm 14 2 == 0
    | _, _ => true)

/-- The format conditions of a CVT (R131, Table 4.6). -/
def TensorEw.formatsOk (e : TensorEw) (fmtD : Nat) : Bool :=
  match e.cvt with
  | some u => (!u.head.ok || u.head.fmt == fmtD) && (decide (fmtD ≤ 3) || (decide (6 ≤ fmtD) && decide (fmtD ≤ 0xA)))
  | Option.none => true

/-- EP of a job (R101). -/
def TensorEw.ep (e : TensorEw) : Nat := match e.prog with | some p => epOf p.len | Option.none => 1

/-- The format and flag conditions of MATMUL and CONV (R95): roles, EXACT and PAIR. -/
def TensorJob.formatsOk (j : TensorJob) (c : Nat) : Bool :=
  operandFmtOk (fmtA c) (blkA c) j.kLen && operandFmtOk (fmtB c) (blkB c) j.kLen && destFmtOk j.fmtD j.exact
  && (!j.exact || (decide (fmtA c ≤ 4) && decide (fmtB c ≤ 4) && blkA c == 0 && blkB c == 0 && !j.ew))
  && (!j.pair || ((j.nb == 2 || j.nb == 4) && j.ew))

/-- Where the scale array that CVT writes begins, relative to the destination (R137). -/
def TensorJob.dataBytes (j : TensorJob) : Nat := destBytes j.mb j.nbo (fmtBits j.fmtD)
def TensorJob.sideStart (j : TensorJob) : Nat := roundUp j.dataBytes 128
/-- Groups along one row of output columns (R137). -/
def TensorJob.sideNq (j : TensorJob) (h : ScaleHead) : Nat := j.nbo * 32 / granSize h.gran
def TensorJob.sideScaleBytes (j : TensorJob) (h : ScaleHead) : Nat := if 2 ≤ h.gran then j.mb * j.sideNq h * 32 else 0
/-- Where the zero-point array begins, relative to the destination (R137). -/
def TensorJob.sideZero (j : TensorJob) (h : ScaleHead) : Nat :=
  if 2 ≤ h.gran then roundUp (j.sideStart + j.sideScaleBytes h) 128 else j.sideStart
/-- Bytes of the destination with the arrays that CVT writes beside it (R137). -/
def TensorJob.destTotal (j : TensorJob) (e : TensorEw) : Nat :=
  match e.cvt with
  | some u =>
    if u.head.zpEn then j.sideZero u.head + j.mb * 32
    else if 2 ≤ u.head.gran then j.sideStart + j.sideScaleBytes u.head
    else j.dataBytes
  | Option.none => j.dataBytes

/-- Bytes of the AUX region of partial sums (R98). -/
def TensorJob.auxBytes (j : TensorJob) : Nat := j.mb * j.nb * 4096

/-- The AUX and destination regions of a job, and the program's (R91, R92). -/
def TensorJob.regions (j : TensorJob) (c : Nat) (e : TensorEw) (nval : Nat) : List CmdRegion :=
  [{ word := dstOf c, bytes := j.destTotal e, use := .dst },
   { word := auxOf c, bytes := if j.accIn then j.auxBytes else 0, use := .aux }]
  ++ (match e.prog with | some p => programRegions c p nval | Option.none => [])
  ++ (match e.cvt with | some u => [{ word := u.offset, bytes := u.head.bytes, use := .exempt }] | Option.none => [])

/-- The preloaded partial sum of (row, col) of block (r, c) as 32 bits (R98, ACC_IN). -/
def TensorJob.preload (j : TensorJob) (aux : List Byte) (r c row col : Nat) : Nat :=
  if j.accIn then u32 aux ((r * j.nb + c) * 4096 + (row * 32 + col) * 4) else 0

/-- The bits that one destination element gets from its accumulator, and CVT's input where there is one (R99, R100, R122,
R125, R135). -/
def TensorJob.element (j : TensorJob) (e : TensorEw) (use : List Nat) (acc : Nat → Nat → Nat → Nat → Fp)
    (r c row col : Nat) : Nat × Option (Nat × Fp) :=
  let x := if j.pair then acc r (2 * c + 1) row col else acc r c row col
  let y := if j.pair then acc r (2 * c) row col else fpZero
  let ch := c * 32 + col
  match e.prog with
  | some p =>
    let v := p.run (use ++ [r, c, row, col]) x y ch
    match e.cvt with
    | some u => ((u.convert v ch).1, some (ch, v))
    | Option.none => ((convertOut j.fmtD v).1, Option.none)
  | Option.none => ((convertOut j.fmtD x).1, Option.none)

/-- The blocks (r, c) of a job in the order in which they are computed (R99). -/
def TensorJob.blockOrder (j : TensorJob) : List (Nat × Nat) :=
  (List.range j.mb).flatMap (fun r => (List.range j.nbo).map (fun c => (r, c)))

/-- The kept positions of a block. -/
def TensorJob.kept (j : TensorJob) (r c : Nat) : List (Nat × Nat) :=
  ((List.range 1024).map (fun i => (i / 32, i % 32))).filter (fun p => keptAt j.mb j.nbo j.mTail j.nTail r c p.1 p.2)

/-- The scale and zero-point arrays that CVT writes beside the destination (R137). -/
def TensorJob.sideWrites (j : TensorJob) (dst : Nat) (u : CvtUse) : List (Nat × List Byte) :=
  let h := u.head
  (if 2 ≤ h.gran then
    [(dst + j.sideStart, (List.range j.mb).flatMap (fun _ => (List.range (j.sideNq h)).flatMap (fun q =>
      List.replicate 32 (BitVec.ofNat 8 (u8 u.entry (h.codeOff + h.groupOf (u.chBase + q * granSize h.gran)))))))]
   else [])
  ++ (if h.zpEn then [(dst + j.sideZero h, List.replicate (j.mb * 32) (BitVec.ofNat 8 (h.zp u.entry)))] else [])

/-- The part of an entry that conversions change: its counters and PEND (R132, R136). -/
def CvtUse.entryWrites (u : CvtUse) (base : Nat) (obs : List (Nat × Fp)) : List (Nat × List Byte) :=
  let b := u.updated obs
  [(base + u.offset + 0x14, slice b 0x14 8), (base + u.offset + u.head.pendOff, slice b u.head.pendOff (8 * u.head.groups))]

/-- The writes of a floating-point job: destination blocks in order, then the arrays of R137, then the entry. -/
def TensorJob.writes (j : TensorJob) (f : Fetched) (e : TensorEw) (use : List Nat) (acc : Nat → Nat → Nat → Nat → Fp) :
    List (Nat × List Byte) :=
  let dst := f.abs (dstOf f.cmd)
  let w := fmtBits j.fmtD
  let blocks := j.blockOrder.map (fun b =>
    let v := blockValues j.mb j.nbo j.mTail j.nTail b.1 b.2 (fun row col => (j.element e use acc b.1 b.2 row col).1)
    (dst + (b.1 * j.nbo + b.2) * (128 * w), packBits w v))
  match e.cvt with
  | some u =>
    let obs := j.blockOrder.flatMap (fun b =>
      (j.kept b.1 b.2).filterMap (fun p => (j.element e use acc b.1 b.2 p.1 p.2).2))
    blocks ++ j.sideWrites dst u ++ u.entryWrites f.base obs
  | Option.none => blocks

/-- The entry's bytes after the merges of the first `n` + 1 blocks (R104, R142), `obs` being what each block observes. -/
def drainEntry (u : Option CvtUse) (base : Nat) (obs : Nat → List (Nat × Fp)) (n : Nat) : List (Nat × List Byte) :=
  match u with
  | some u => u.entryWrites base ((List.range (n + 1)).flatMap obs)
  | Option.none => []

/-- The output blocks of a job as they drain (R99, R104): block `i` with the bytes `out i` of its own, and the entry after it. -/
def TensorJob.drains (j : TensorJob) (f : Fetched) (e : TensorEw) (use : List Nat) (acc : Nat → Nat → Nat → Nat → Fp)
    (out : Nat → List (Nat × List Byte)) : List Drain :=
  let obs (i : Nat) : List (Nat × Fp) :=
    let b := nth (0, 0) j.blockOrder i
    (j.kept b.1 b.2).filterMap (fun p => (j.element e use acc b.1 b.2 p.1 p.2).2)
  (List.range j.blockOrder.length).map (fun i => { out := out i, entry := drainEntry e.cvt f.base obs i })

/-- The writes of an EXACT job: INT32 sums modulo 2³² (R122). -/
def TensorJob.exactWrites (j : TensorJob) (f : Fetched) (sum : Nat → Nat → Nat → Nat → Int) : List (Nat × List Byte) :=
  let dst := f.abs (dstOf f.cmd)
  j.blockOrder.map (fun b =>
    (dst + (b.1 * j.nbo + b.2) * 4096,
     packBits 32 (blockValues j.mb j.nbo j.mTail j.nTail b.1 b.2 (fun row col => ofSigned 32 (sum b.1 b.2 row col)))))

/-- MATMUL and CONV's bit conditions on DIM and EXT: K or CIN in [15:0], MB and NB; `extMask` clears the bits EXT uses. -/
def tensorFields (c : Nat) : Bool :=
  let d := dimOf c
  decide (1 ≤ fld d 0 16) && decide (fld d 0 16 ≤ 4096) && decide (1 ≤ fld d 16 3) && decide (fld d 16 3 ≤ 4)
  && fld d 19 1 == 0 && decide (1 ≤ fld d 20 3) && decide (fld d 20 3 ≤ 4) && fld d 23 9 == 0
  && blkA c != 3 && blkB c != 3
  && fld (extOf c) 5 3 == 0 && fld (extOf c) 13 3 == 0 && fld (extOf c) 30 2 == 0

/-- A job's scale entry shares no bank with its regions (R133, a BANK fault). -/
def TensorEw.bankOk (e : TensorEw) (f : Fetched) (rs : List CmdRegion) : Bool :=
  match e.cvt with
  | some u => f.entryBankOk u rs
  | Option.none => true

/-- What a MATMUL's issue checks are (R90 to R106). -/
def State.matmulCheck (s : State) (f : Fetched) : IssueCheck :=
  let c := f.cmd
  let k := fld (dimOf c) 0 16
  let j := tensorJob c k
  let nval := j.nbo * 32
  let e := s.loadEw f j.ew j.tally nval
  let core : List CmdRegion :=
    [{ word := srcA c, bytes := kQuadBytes (fmtA c) (blkA c) k j.mb, use := .a },
     { word := srcB c, bytes := kQuadBytes (fmtB c) (blkB c) k j.nb, use := .b }]
  let rs := core ++ j.regions c e nval
  { fieldsOk := commonFields c 0x1F true true true true && tensorFields c && fld (extOf c) 16 16 == 0 && e.fieldsOk j.tally nval true
    formatsOk := j.formatsOk c && e.formatsOk j.fmtD
    regions := rs
    programOk := (match e.prog with | some p => p.ok j.pair | Option.none => true)
    bankExtra := e.bankOk f rs
    cycles := j.cycles (ceilDiv k 4 * j.rd) e.ep }

/-- What a MATMUL writes (R98, R99, R120 to R126), and its blocks as they drain (R104). -/
def State.matmulParts (f : Fetched) (s : State) : List (Nat × List Byte) × List Drain :=
  let c := f.cmd
  let k := fld (dimOf c) 0 16
  let j := tensorJob c k
  let e := s.loadEw f j.ew j.tally (j.nbo * 32)
  let a : KQuad := { fmt := fmtA c, blk := blkA c, k := k, blocks := j.mb,
                     bytes := s.operandBytes f (srcA c) 0 (kQuadBytes (fmtA c) (blkA c) k j.mb) }
  let b : KQuad := { fmt := fmtB c, blk := blkB c, k := k, blocks := j.nb,
                     bytes := s.operandBytes f (srcB c) 0 (kQuadBytes (fmtB c) (blkB c) k j.nb) }
  let aux := if j.accIn then s.operandBytes f (auxOf c) 0 j.auxBytes else []
  let nq := ceilDiv k 4
  let acc (r q row col : Nat) : Fp :=
    let acc0 := if j.accIn then fp32Of (j.preload aux r q row col) else fpZero
    dotProduct [s.fresh, r, q, row, col] acc0 ((List.range nq).map (fun i => kGroup a b r row q col i))
  let sum (r q row col : Nat) : Int :=
    toSigned 32 (j.preload aux r q row col) + ((List.range k).map (fun i => fpInt (a.elem r row i) * fpInt (b.elem q col i))).sum
  let ws := if j.exact then j.exactWrites f sum else j.writes f e [s.fresh] acc
  (ws, j.drains f e [s.fresh] acc (fun i => (ws.drop i).take 1))

/-- What a MATMUL writes. -/
def State.matmulWrites (f : Fetched) (s : State) : List (Nat × List Byte) := (s.matmulParts f).1
/-- A MATMUL's output blocks as they drain. -/
def State.matmulDrains (f : Fetched) (s : State) : List Drain := (s.matmulParts f).2

end Sys2Proof.Machine
end

