-- ==== Sys2Proof/Machine/Elementwise.lean ====
section
/-! DEFINITION. EW, MOVE, NOP and TALLY: their issue checks and what they write (R93, R100, R111, R131 to R140). -/
namespace Sys2Proof.Machine
open Sys2Proof

/-- A value as the element-wise pipeline reads it, in FP32 (R124). -/
def toFp32 : Fp → Fp
  | .fin s m e => fp32OfDyadic (signInt s m) e s
  | v => v

/-! ### EW -/

def ewE (c : Nat) : Nat := fld (dimOf c) 0 24
def ewC (c : Nat) : Nat := fld (extOf c) 0 16
def ewOn (c : Nat) : Bool := flagOf c 10
def ewPair (c : Nat) : Bool := flagOf c 11
def ewTally (c : Nat) : Bool := flagOf c 12

/-- The program of an EW: its vectors hold C values, at most 128 (R100). -/
def State.ewLoad (s : State) (f : Fetched) : TensorEw :=
  s.loadEw f (ewOn f.cmd) (ewTally f.cmd) (min 128 (ewC f.cmd))

/-- The issue checks of EW (R90 to R102, R131). SRC_B is used with PAIR only (Table 4.5; log entry 14). -/
def State.ewCheck (s : State) (f : Fetched) : IssueCheck :=
  let c := f.cmd
  let n := ewE c
  let ch := ewC c
  let e := s.ewLoad f
  let rs : List CmdRegion :=
    [{ word := srcA c, bytes := arrayBytes n (fmtBits (fmtA c)), use := .a },
     { word := srcB c, bytes := if ewPair c then arrayBytes n (fmtBits (fmtB c)) else 0, use := .b },
     { word := dstOf c, bytes := arrayBytes n (fmtBits (fmtD c)), use := .dst }]
    ++ (match e.prog with | some p => programRegions c p (min 128 ch) | Option.none => [])
    ++ (match e.cvt with | some u => [{ word := u.offset, bytes := u.head.bytes, use := .exempt }] | Option.none => [])
  { fieldsOk := commonFields c 0x1C true (ewPair c) true false && decide (1 ≤ n) && decide (n ≤ 65536) && fld (dimOf c) 24 8 == 0
      && decide (1 ≤ ch) && fld (extOf c) 16 16 == 0 && blkA c != 3 && blkB c != 3
      && e.fieldsOk (ewTally c) (min ch n) false
    formatsOk := blkA c == 0 && blkB c == 0 && decide (fmtA c ≤ 0xD) && (!ewPair c || decide (fmtB c ≤ 0xD))
      && destFmtOk (fmtD c) false && e.formatsOk (fmtD c)
    regions := rs
    programOk := (match e.prog with | some p => p.ok (ewPair c) && (p.nvec == 0 || decide (ch ≤ 128)) | Option.none => true)
    bankExtra := e.bankOk f rs
    cycles := 12 + ceilDiv n 64 * e.ep }

/-- Element `i` of an array operand in FP32 (R111, R114: unsigned elements with no zero point). -/
def arrayElem (fmt : Nat) (bs : List Byte) (i : Nat) : Fp := toFp32 (decodeFmt fmt (bitsAt bs (i * fmtBits fmt) (fmtBits fmt)))

/-- What an EW writes (R100, R125, R132, R135). -/
def State.ewWrites (f : Fetched) (s : State) : List (Nat × List Byte) :=
  let c := f.cmd
  let n := ewE c
  let e := s.ewLoad f
  let xs := s.operandBytes f (srcA c) 0 (arrayBytes n (fmtBits (fmtA c)))
  let ys := if ewPair c then s.operandBytes f (srcB c) 0 (arrayBytes n (fmtBits (fmtB c))) else []
  let elem (i : Nat) : Nat × Option (Nat × Fp) :=
    let x := arrayElem (fmtA c) xs i
    match e.prog with
    | some p =>
      let v := p.run [s.fresh, i] x (if ewPair c then arrayElem (fmtB c) ys i else fpZero) (i % ewC c)
      match e.cvt with
      | some u => ((u.convert v (i % ewC c)).1, some (i % ewC c, v))
      | Option.none => ((convertOut (fmtD c) v).1, Option.none)
    | Option.none => ((convertOut (fmtD c) x).1, Option.none)
  let w := fmtBits (fmtD c)
  let dst := f.abs (dstOf c)
  let old := s.rdBytes (groveBase f.grove + dst) (arrayBytes n w)
  let out := (dst, packOver old w ((List.range n).map (fun i => (elem i).1)))
  match e.cvt with
  | some u => out :: u.entryWrites f.base ((List.range n).filterMap (fun i => (elem i).2))
  | Option.none => [out]

/-- An EW drains as one block: its destination, and its entry after the merge of its final cycles (R134). -/
def State.ewDrains (f : Fetched) (s : State) : List Drain :=
  let ws := s.ewWrites f
  if ws.length ≤ 1 then [] else [{ out := ws.take 1, entry := ws.drop 1 }]

/-! ### NOP, MOVE and TALLY -/

/-- The issue checks of NOP (R93, Table 4.8). -/
def nopCheck (f : Fetched) : IssueCheck :=
  let c := f.cmd
  { fieldsOk := commonFields c 0 false false false false && noFormats c && dimOf c == 0 && extOf c == 0
    formatsOk := true, regions := [], programOk := true, cycles := 4 }

/-- BYTES of a MOVE. -/
def moveCount (c : Nat) : Nat := fld (dimOf c) 0 17
/-- The issue checks of MOVE (R93, Table 4.8). -/
def moveCheck (f : Fetched) : IssueCheck :=
  let c := f.cmd
  let n := moveCount c
  { fieldsOk := commonFields c 0 true false true false && noFormats c && fld (dimOf c) 17 15 == 0 && extOf c == 0
      && decide (1 ≤ n) && decide (n ≤ 65536)
    formatsOk := true
    regions := [{ word := srcA c, bytes := n, use := .a }, { word := dstOf c, bytes := n, use := .dst }]
    programOk := true, cycles := 8 + ceilDiv n 128 }

/-- What a MOVE writes: BYTES bytes of its source as they stand at issue (log entry 15). -/
def State.moveWrites (f : Fetched) (s : State) : List (Nat × List Byte) :=
  [(f.abs (dstOf f.cmd), s.operandBytes f (srcA f.cmd) 0 (moveCount f.cmd))]

/-- Offset and header of the entry that a TALLY commits. -/
def tallyOffset (c : Nat) : Nat := fld (extOf c) 0 14 * 128
/-- The issue checks of TALLY (R128, R129, R133, R138). -/
def State.tallyCheck (s : State) (f : Fetched) : IssueCheck :=
  let c := f.cmd
  let off := tallyOffset c
  let h := scaleHead (s.ownBytes f off 128)
  let n := fld (dimOf c) 0 16
  let r : CmdRegion := { word := off, bytes := if h.ok then h.bytes else 128, use := .exempt }
  { fieldsOk := commonFields c 0 false false false false && noFormats c && fld (dimOf c) 16 16 == 0 && fld (extOf c) 14 18 == 0
      && h.ok && n == h.groups
    formatsOk := true, regions := [r], programOk := true, bankExtra := f.oneBank r, cycles := 8 + ceilDiv n 64 }

/-- What a TALLY writes (R138, R140): the entry's values of four bytes, its codes, and last HEAD and STEP_COUNT. -/
def State.tallyWrites (f : Fetched) (s : State) : List (Nat × List Byte) :=
  let off := tallyOffset f.cmd
  let h := scaleHead (s.ownBytes f off 128)
  let b := commitEntry (s.ownBytes f off h.bytes)
  [(f.base + off + 0x80, slice b 0x80 (h.codeOff - 0x80)), (f.base + off + h.codeOff, b.drop h.codeOff),
   (f.base + off + 0x0C, slice b 0x0C 8)]

/-- The server of a SHARED group (R192): its Grove treats TALLY as a field fault. -/
def State.sharedServer (s : State) (o : Owner) : Bool :=
  match o with
  | .stream _ => false
  | .ctx c => (List.range 16).any (fun g =>
      let v := s.rn (Reg.SEQ_GRP_CFG g)
      bitOf v 0 && bitOf v 3 && fld v 8 7 == c)

/-- The check of a command of a SHARED group's server: TALLY is a FIELD_BAD fault (R192). -/
def State.sharedCheck (s : State) (f : Fetched) (tally : Bool) (k : IssueCheck) : IssueCheck :=
  { k with fieldsOk := k.fieldsOk && !(tally && s.sharedServer f.owner) }

end Sys2Proof.Machine
end

