-- ==== Sys2Proof/Machine/Scan.lean ====
section
/-! DEFINITION. SCAN: the segmented prefix scan and its carry record (chapter 9). -/
namespace Sys2Proof.Machine
open Sys2Proof

def scanL (c : Nat) : Nat := fld (dimOf c) 0 11
def scanC (c : Nat) : Nat := fld (dimOf c) 16 12
/-- The row pitch of a step-row operand of element width `w` (chapter 9, Operands). -/
def rowPitch (l w : Nat) : Nat := 128 * ceilDiv (l * w) 1024
/-- Where the mark array begins after A (R182). -/
def markOff (c : Nat) : Nat := roundUp (scanC c * rowPitch (scanL c) (fmtBits (fmtA c))) 128
/-- Bytes of a carry record of `ch` channels (R183). -/
def carryBytes (ch : Nat) : Nat := roundUp (128 + 4 * ch) 128
/-- Bytes of region A with its marks (R182). -/
def scanABytes (c : Nat) : Nat := markOff c + ceilDiv (scanL c) 8

/-- The fields of a carry record's head (Table 9.2). -/
def recCh (b : List Byte) : Nat := fld (u32 b 4) 0 12
def recValid (b : List Byte) : Bool := bitOf (u32 b 4) 16
def recTag (b : List Byte) : Nat := fld (u32 b 4) 20 12
def recClean (b : List Byte) : Bool := fld (u32 b 4) 12 4 == 0 && fld (u32 b 4) 17 3 == 0 && zeroAt b 12 116

/-- The generation tag of an owner's domain (R28): D2 for a stream, D3 for a context. -/
def State.ownerTag (s : State) : Owner → Nat
  | .stream _ => (s.dom 2).tag
  | .ctx _ => (s.dom 3).tag

/-- The formats of Table 9.1. -/
def scanFormats (c : Nat) : Bool :=
  (fmtA c == 0xB || fmtA c == 0xC) && (fmtB c == 0xB || fmtB c == 0xC)
  && ((decide (2 ≤ fmtD c) && decide (fmtD c ≤ 4)) || (decide (9 ≤ fmtD c) && decide (fmtD c ≤ 0xC)))
  && blkA c == 0 && blkB c == 0

/-- The issue checks of SCAN (R184, R185, Table 9.3). -/
def State.scanCheck (s : State) (f : Fetched) : IssueCheck :=
  let c := f.cmd
  let l := scanL c
  let n := scanC c
  let head := s.ownBytes f (opOffset (auxOf c)) 128
  let dBytes := n * rowPitch l (fmtBits (fmtD c))
  let rec_ : CmdRegion := { word := auxOf c, bytes := carryBytes n, use := .aux }
  let overlap := decide (opOffset (dstOf c) < opOffset (auxOf c) + carryBytes n)
    && decide (opOffset (auxOf c) < opOffset (dstOf c) + dBytes)
  { fieldsOk := commonFields c 0 true true true true && ewpOf c == 0 && extOf c == 0 && fld (dimOf c) 11 5 == 0
      && fld (dimOf c) 28 4 == 0 && decide (1 ≤ l) && decide (l ≤ 1024) && decide (1 ≤ n) && decide (n ≤ 2048)
      && blkA c != 3 && blkB c != 3
      && !opSkid (auxOf c) && recCh head == n && recClean head && !overlap
    formatsOk := scanFormats c
    regions :=
      [{ word := srcA c, bytes := scanABytes c, use := .a },
       { word := srcB c, bytes := n * rowPitch l (fmtBits (fmtB c)), use := .b }, rec_,
       { word := dstOf c, bytes := dBytes, use := .dst }]
    programOk := true
    cycles := 18 + n * ceilDiv l 64 }

/-- Whether a record is present for an owner at SCAN's issue (chapter 9, Carried state). -/
def State.recPresent (s : State) (f : Fetched) : Bool :=
  let head := s.ownBytes f (opOffset (auxOf f.cmd)) 128
  recValid head && recTag head == s.ownerTag f.owner

/-- A dyadic as a magnitude comparison: |a| ≤ |b|. -/
def dyLe (a b : Int × Int) : Bool := decide ((addDyadic (b.1.natAbs : Int) b.2 (-(a.1.natAbs : Int)) a.2).1 ≥ 0)

/-- The value of a finite number as a dyadic. -/
def fpDyadic : Fp → Int × Int
  | .fin s m e => (signInt s m, e)
  | _ => (0, 0)

def fpFinite : Fp → Bool
  | .fin _ _ _ => true
  | _ => false

/-- The step of the exact recurrence beside the reference: reference value, exact value, and the sum of the magnitudes that
the bound of R180 takes; `wild` when a number is infinite or NaN, or a run of 64 coefficients leaves the FP32 range. -/
structure ScanStep where
  h : Fp
  exact : Int × Int
  mag : Int × Int
  run : List (Int × Int)
  wild : Bool

/-- Whether the product of a run of coefficients lies within the FP32 range, subnormals kept (R180). -/
def runInRange (run : List (Int × Int)) : Bool :=
  let p := run.foldl (fun (acc : Int × Int) x => (acc.1 * x.1, acc.2 + x.2)) (1, 0)
  p.1 == 0 || (geExp2 p.1.natAbs p.2 (-149) && !geExp2 p.1.natAbs p.2 128)

/-- One step of a channel (R179). -/
def scanStep (x : ScanStep) (marked : Bool) (a b : Fp) : ScanStep :=
  if marked then
    { h := b, exact := fpDyadic b, mag := ((fpDyadic b).1.natAbs, (fpDyadic b).2), run := [], wild := !fpFinite b }
  else
    let da := fpDyadic a
    let db := fpDyadic b
    let run := (da :: x.run).take 64
    { h := fp32Fma a x.h b
      exact := addDyadic (da.1 * x.exact.1) (da.2 + x.exact.2) db.1 db.2
      mag := addDyadic ((da.1.natAbs : Int) * x.mag.1) (da.2 + x.mag.2) db.1.natAbs db.2
      run := run
      wild := x.wild || !fpFinite a || !fpFinite b || !runInRange run }

/-- Whether a candidate lies within the bound of R180 at step `t`. -/
def withinScan (t : Nat) (x : ScanStep) (c : Fp) : Bool :=
  let n : Nat := 2 * (6 + ceilDiv (t + 1) 64)
  let d := addDyadic (fpDyadic c).1 (fpDyadic c).2 (-x.exact.1) x.exact.2
  let lhs : Int × Int := (((2 ^ 24 - n : Nat) : Int) * d.1.natAbs, d.2)
  let rhs := addDyadic ((n : Int) * x.mag.1) x.mag.2 ((n * (2 ^ 24 - n) : Nat) : Int) (-150)
  fpFinite c && dyLe lhs rhs

/-- The value that the scan unit gives for a step (R123, R180): a free value within the bound, else the reference; outside
the bound's condition any FP32 value (log entry 12). -/
def scanResult (use : List Nat) (t : Nat) (x : ScanStep) : Fp :=
  let cand := fp32Of (Config.freeFn 5 use % 2 ^ 32)
  if x.wild then (if fpFinite x.h then cand else x.h)
  else if fpFinite x.h && withinScan t x cand then cand else x.h

/-- The results of a channel's steps. -/
def scanRun (use : List Nat) (fresh : Bool) (mark : Nat → Bool) (a b : Nat → Fp) : Nat → Nat → ScanStep → List Fp
  | 0, _, _ => []
  | k + 1, t, x =>
    let x := scanStep x (mark t || (fresh && t == 0)) (a t) (b t)
    scanResult (t :: use) t x :: scanRun use fresh mark a b k (t + 1) x

/-- What a SCAN writes (R179): VALID 0 first; the rows of D, H, RESETS and POS; VALID and TAG last. -/
def State.scanWrites (f : Fetched) (s : State) : List (Nat × List Byte) :=
  let c := f.cmd
  let l := scanL c
  let n := scanC c
  let head := s.ownBytes f (opOffset (auxOf c)) (carryBytes n)
  let fresh := !s.recPresent f
  let rpA := rowPitch l (fmtBits (fmtA c))
  let rpB := rowPitch l (fmtBits (fmtB c))
  let rpD := rowPitch l (fmtBits (fmtD c))
  let aBytes := s.operandBytes f (srcA c) 0 (scanABytes c)
  let bBytes := s.operandBytes f (srcB c) 0 (n * rpB)
  let mark (t : Nat) : Bool := bitOf (u8 aBytes (markOff c + t / 8)) (t % 8)
  let rec0 := f.abs (auxOf c)
  let dst := f.abs (dstOf c)
  let ctrl := setFld (setFld (u32 head 4) 16 1 0) 20 12 (recTag head)
  let rows := (List.range n).flatMap (fun ch =>
    let carry := if fresh then fpZero else fp32Of (u32 head (0x80 + 4 * ch))
    let x0 : ScanStep := { h := carry, exact := fpDyadic carry, mag := ((fpDyadic carry).1.natAbs, (fpDyadic carry).2), run := [],
                           wild := !fpFinite carry }
    let hs := scanRun [s.fresh, ch] fresh mark
      (fun t => decodeFmt (fmtA c) (bitsAt (aBytes.drop (ch * rpA)) (t * fmtBits (fmtA c)) (fmtBits (fmtA c))))
      (fun t => decodeFmt (fmtB c) (bitsAt (bBytes.drop (ch * rpB)) (t * fmtBits (fmtB c)) (fmtBits (fmtB c)))) l 0 x0
    let last := hs.getLastD carry
    let old := s.rdBytes (groveBase f.grove + dst + ch * rpD) (arrayBytes l (fmtBits (fmtD c)))
    [(dst + ch * rpD, packOver old (fmtBits (fmtD c)) (hs.map (fun h => (convertOut (fmtD c) h).1))),
     (rec0 + 0x80 + 4 * ch, leBytes 4 (fp32Bits last))])
  let marks := ((List.range l).filter mark).length + (if fresh && !mark 0 then 1 else 0)
  [(rec0 + 4, leBytes 4 ctrl)] ++ rows ++
  [(rec0 + 8, leBytes 4 (satAdd32 (u32 head 8) marks)), (rec0, leBytes 4 ((u32 head 0 + l) % 2 ^ 32)),
   (rec0 + 4, leBytes 4 (setFld (setFld ctrl 16 1 1) 20 12 (s.ownerTag f.owner)))]

end Sys2Proof.Machine
end

