-- ==== Sys2Proof/Machine/Attention.lean ====
section
/-! DEFINITION. ATTN: one key chunk folded into the running softmax state (R156 to R164). -/
namespace Sys2Proof.Machine
open Sys2Proof

def attnTk (c : Nat) : Nat := fld (dimOf c) 0 10
def attnHd (c : Nat) : Nat := fld (dimOf c) 16 9
def attnQr (c : Nat) : Nat := fld (extOf c) 0 6

/-- Bytes of a slice's K or V data (R158). -/
def sliceData (c : Nat) : Nat := 2 * attnHd c * fmtBits (fmtB c)
/-- Bytes of a slice's K or V scales (R158). -/
def sliceScales (c : Nat) : Nat := if blkB c = 1 then 16 * (attnHd c / 32) else 0
/-- SB (R158). -/
def sliceBytes (c : Nat) : Nat := roundUp (2 * sliceData c + 2 * sliceScales c) 128
/-- Bytes of the chunk at SRC_B. -/
def chunkBytes (c : Nat) : Nat := attnTk c / 16 * sliceBytes c
/-- Bytes of the state record (Table 8.1). -/
def attnRecBytes (c : Nat) : Nat := 0x200 + ceilDiv (attnHd c) 32 * 4096

/-- The head of a state record (Table 8.1). -/
structure AttnHead where
  kbase : Nat
  knext : Nat
  kend : Nat
  scale : Fp
  ctrl : Nat
  window : Nat

/-- Read a record's head. -/
def attnHead (b : List Byte) : AttnHead :=
  { kbase := u32 b 0, knext := u32 b 4, kend := u32 b 8, scale := fp32Of (u32 b 12), ctrl := u32 b 16, window := u32 b 20 }

/-- The record's field conditions (Table 8.2). -/
def AttnHead.ok (h : AttnHead) (tk : Nat) : Bool :=
  decide (h.ctrl ≤ 3) && (!bitOf h.ctrl 1 || (bitOf h.ctrl 0 && h.window != 0)) && decide (h.kbase ≤ h.knext)
  && decide (h.knext + tk ≤ 0xFFFFFFFF)

/-- The issue checks of ATTN (R163, Table 8.2). -/
def State.attnCheck (s : State) (f : Fetched) : IssueCheck :=
  let c := f.cmd
  let tk := attnTk c
  let hd := attnHd c
  let h := attnHead (s.operandBytes f (auxOf c) 0 32)
  let w := fmtBits (fmtD c)
  let dBytes := destBytes 1 (ceilDiv hd 32) w
  let overlap := !opSkid (auxOf c) && decide (opOffset (dstOf c) < opOffset (auxOf c) + attnRecBytes c)
    && decide (opOffset (auxOf c) < opOffset (dstOf c) + dBytes)
  let rd := rateDiv2 (fmtA c) (fmtB c)
  { fieldsOk := commonFields c 0 true true true true && ewpOf c == 0 && fld (dimOf c) 10 6 == 0 && fld (dimOf c) 25 7 == 0
      && fld (extOf c) 6 26 == 0 && decide (1 ≤ attnQr c) && decide (attnQr c ≤ 32)
      && decide (16 ≤ tk) && decide (tk ≤ 512) && tk % 16 == 0 && decide (32 ≤ hd) && decide (hd ≤ 256) && hd % 32 == 0
      && blkA c != 3 && blkB c != 3 && !opSkid (auxOf c) && h.ok tk && !overlap
    formatsOk := operandFmtOk (fmtA c) (blkA c) hd && operandFmtOk (fmtB c) (blkB c) hd && fmtB c != 1 && fmtB c != 3
      && decide (blkB c ≤ 1) && destFmtOk (fmtD c) false
    regions :=
      [{ word := srcA c, bytes := kQuadBytes (fmtA c) (blkA c) hd 1, use := .a },
       { word := srcB c, bytes := chunkBytes c, use := .b },
       { word := auxOf c, bytes := attnRecBytes c, use := .aux },
       { word := dstOf c, bytes := dBytes, use := .dst }]
    programOk := true
    cycles := 24 + ceilDiv tk 32 * max (ceilDiv hd 4 * rd) 16 + ceilDiv hd 32 * ceilDiv tk 4 * rd + 16 }

/-- Division of FP32 values, rounded once (R161). -/
def fp32Div (a b : Fp) : Fp :=
  match a, b with
  | .nan, _ => .nan
  | _, .nan => .nan
  | .inf _, .inf _ => .nan
  | .inf s, .fin t _ _ => .inf (s != t)
  | .fin s _ _, .inf t => .fin (s != t) 0 0
  | .fin s m e, .fin t n g =>
    if n = 0 then (if m = 0 then .nan else .inf (s != t))
    else if m = 0 then .fin (s != t) 0 0
    else fp32OfFrac (s != t) m n (e - g)

/-- A value rounded to nearest even as BF16 (R161). -/
def toBf16 : Fp → Fp
  | .fin s m e =>
    let (q, h) := roundFrac 8 (-133) m 1 e
    if geExp2 q h 128 then .inf s else .fin s q h
  | v => v

/-- The row maximum, sum and O values of one row (R160). -/
structure AttnRow where
  m : Fp
  l : Fp
  o : List Fp

/-- The chunk as a command sees it: raw K and V elements and scales by position (R158). -/
structure AttnChunk where
  fmt : Nat
  blk : Nat
  hd : Nat
  k : Nat → Nat → Fp
  v : Nat → Nat → Fp
  kScale : Nat → Nat → Option (Int × Int)
  vScale : Nat → Nat → Option (Int × Int)

/-- Read the chunk from its bytes. -/
def attnChunk (c : Nat) (b : List Byte) : AttnChunk :=
  let w := fmtBits (fmtB c)
  let hd := attnHd c
  let sb := sliceBytes c
  let at_ (part i d : Nat) : Fp := decodeFmt (fmtB c) (bitsAt (b.drop (i / 16 * sb + part)) ((i % 16 * hd + d) * w) w)
  let sc (part i blk : Nat) : Option (Int × Int) :=
    if blkB c = 1 then scaleFactor 1 (u8 b (i / 16 * sb + 2 * sliceData c + part + i % 16 * (hd / 32) + blk)) else some (1, 0)
  { fmt := fmtB c, blk := blkB c, hd := hd, k := at_ 0, v := at_ (sliceData c), kScale := sc 0, vScale := sc (sliceScales c) }

/-- Whether key position `kp` is valid for a query at `qpos` (R159). -/
def keyValid (h : AttnHead) (qpos kp : Nat) : Bool :=
  decide (kp < h.kend) && (!bitOf h.ctrl 0 || decide (kp ≤ qpos))
  && (!bitOf h.ctrl 1 || decide ((qpos : Int) - (kp : Int) < (h.window : Int)))

/-- The score of one key (R160, R161): the dot product of R120 with the K scales as group factors, times SCALE_L2. -/
def attnScore (use : List Nat) (h : AttnHead) (q : KQuad) (ch : AttnChunk) (r i : Nat) : Fp :=
  let gs := (List.range (ch.hd / 4)).map (fun g =>
    let xs := bfFlush q.fmt ((List.range 4).map (fun t => q.elem 0 r (4 * g + t)))
    let ys := bfFlush ch.fmt ((List.range 4).map (fun t => ch.k i (4 * g + t)))
    ({ terms := xs.zip ys, factor := factorMul (q.factor 0 r g) (ch.kScale i (4 * g / 32)) } : KGroup))
  fp32Mul (dotProduct use fpZero gs) h.scale

/-- Every score of a row; none for a key that is not valid. -/
def attnScores (use : List Nat) (h : AttnHead) (q : KQuad) (ch : AttnChunk) (r qpos tk : Nat) : List (Option Fp) :=
  (List.range tk).map (fun i =>
    if keyValid h qpos (h.knext + i) then some (attnScore (i :: use) h q ch r i) else Option.none)

def fpNegInf : Fp := .inf true
/-- Whether a value is −∞. -/
def isNegInf (x : Fp) : Bool := match x with | .inf s => s | _ => false

/-- EXP2 of a difference (R160). -/
def attnExp (use : List Nat) (a b : Fp) : Fp := boundedResult use 0x06 (fp32Add a b.neg)

/-- A probability times its V scale, rounded once as BF16 (R161). -/
def probScaled (p : Fp) (s : Option (Int × Int)) : Fp :=
  match p, s with
  | _, Option.none => .nan
  | .fin g m e, some (a, x) => toBf16 (.fin g (m * a.natAbs) (e + x))
  | v, _ => v

/-- The sum l × a + Σ p, rounded once (R160, R161). -/
def attnSum (l a : Fp) (ps : List Fp) : Fp :=
  if l.isNan || a.isNan || ps.any Fp.isNan then .nan
  else if l.isInf then l
  else
    let la := ((fpDyadic l).1 * (fpDyadic a).1, (fpDyadic l).2 + (fpDyadic a).2)
    let t := (ps.map fpDyadic).foldl (fun acc x => addDyadic acc.1 acc.2 x.1 x.2) la
    fp32OfDyadic t.1 t.2 false

/-- One row folded over the chunk (R160 to R162). -/
def attnRow (use : List Nat) (h : AttnHead) (q : KQuad) (ch : AttnChunk) (r qpos tk : Nat) (x : AttnRow) : AttnRow :=
  let ts := attnScores use h q ch r qpos tk
  let mn := ts.foldl (fun a t => fp32Max a (t.getD fpNegInf)) x.m
  if mn.isNan || (match mn with | .inf s => !s | _ => false) then
    { m := .nan, l := .nan, o := x.o.map (fun _ => .nan) }
  else if isNegInf mn then x
  else
    let a := if isNegInf x.m then fpZero else attnExp (0 :: use) x.m mn
    let ps := (ts.zip (List.range tk)).map (fun t =>
      match t.1 with
      | some v => if isNegInf v then fpZero else attnExp (1 :: t.2 :: use) v mn
      | Option.none => fpZero)
    let valid (i : Nat) : Bool := (nth Option.none ts i).isSome
    let o := (x.o.zip (List.range ch.hd)).map (fun od =>
      let gs := (List.range (tk / 4)).map (fun g =>
        let xs := bfFlush 0xB ((List.range 4).map (fun t =>
          let i := 4 * g + t
          if valid i then probScaled (nth fpZero ps i) (ch.vScale i (od.2 / 32)) else fpZero))
        let ys := bfFlush ch.fmt ((List.range 4).map (fun t =>
          let i := 4 * g + t
          if valid i then ch.v i od.2 else fpZero))
        ({ terms := xs.zip ys, factor := some (1, 0) } : KGroup))
      dotProduct (2 :: od.2 :: use) (fp32Mul od.1 a) gs)
    { m := mn, l := attnSum x.l a ps, o := o }

/-- A row's state read from the record; empty while KNEXT equals KBASE (R160). -/
def attnRowOf (b : List Byte) (h : AttnHead) (hd r : Nat) : AttnRow :=
  if h.knext = h.kbase then { m := fpNegInf, l := fpZero, o := List.replicate hd fpZero }
  else
    { m := fp32Of (u32 b (0x100 + 4 * r)), l := fp32Of (u32 b (0x180 + 4 * r))
      o := (List.range hd).map (fun d => fp32Of (u32 b (0x200 + d / 32 * 4096 + (r * 32 + d % 32) * 4))) }

/-- One value of DST (R160, R162). -/
def attnOut (x : AttnRow) (d : Nat) : Fp :=
  if x.l.isNan || x.m.isNan then .nan
  else if fpLt fpZero x.l then fp32Div (nth fpZero x.o d) x.l else fpZero

/-- What an ATTN writes (R156, R160): DST, M, L and O, and KNEXT after every other byte. -/
def State.attnWrites (f : Fetched) (s : State) : List (Nat × List Byte) :=
  let c := f.cmd
  let tk := attnTk c
  let hd := attnHd c
  let b := s.operandBytes f (auxOf c) 0 (attnRecBytes c)
  let h := attnHead b
  let q : KQuad := { fmt := fmtA c, blk := blkA c, k := hd, blocks := 1,
                     bytes := s.operandBytes f (srcA c) 0 (kQuadBytes (fmtA c) (blkA c) hd 1) }
  let ch := attnChunk c (s.operandBytes f (srcB c) 0 (chunkBytes c))
  let rows := (List.range (attnQr c)).map (fun r =>
    attnRow [s.fresh, r] h q ch r (u32 b (0x80 + 4 * r)) tk (attnRowOf b h hd r))
  let base := f.abs (auxOf c)
  let dst := f.abs (dstOf c)
  let row (r : Nat) : AttnRow := nth { m := fpNegInf, l := fpZero, o := [] } rows r
  let outBlock (blk : Nat) : List Byte := packBits (fmtBits (fmtD c)) ((List.range 1024).map (fun i =>
    if i / 32 < attnQr c then (convertOut (fmtD c) (attnOut (row (i / 32)) (blk * 32 + i % 32))).1 else 0))
  (List.range (ceilDiv hd 32)).map (fun blk => (dst + blk * (128 * fmtBits (fmtD c)), outBlock blk))
  ++ (List.range (attnQr c)).flatMap (fun r =>
    let x := row r
    [(base + 0x100 + 4 * r, leBytes 4 (fp32Bits x.m)), (base + 0x180 + 4 * r, leBytes 4 (fp32Bits x.l))]
    ++ (List.range hd).map (fun d => (base + 0x200 + d / 32 * 4096 + (r * 32 + d % 32) * 4, leBytes 4 (fp32Bits (nth fpZero x.o d)))))
  ++ [(base + 4, leBytes 4 (h.knext + tk))]

end Sys2Proof.Machine
end

