-- ==== Sys2Proof/Machine/Conv.lean ====
section
/-! DEFINITION. CONV: the window descriptor, taps, padding, pooling and argmax, and the two output layouts (chapter 7). -/
namespace Sys2Proof.Machine
open Sys2Proof

/-- A window descriptor (R143, Table 7.1). -/
structure Window7 where
  kh : Nat
  kw : Nat
  sh : Nat
  sw : Nat
  dh : Nat
  dw : Nat
  mode : Nat
  exclPad : Bool
  frameEn : Bool
  pt : Nat
  pb : Nat
  pl : Nat
  pr : Nat
  padMode : Nat
  s2c : Nat
  c2s : Nat
  outPlanar : Bool
  inPlanar : Bool
  ih : Nat
  iw : Nat
  padVal : Nat
  zpA : Nat
  ic : Nat
  ch0 : Nat
  inRow : Nat
  inPlane : Nat
  outRow : Nat
  outPlane : Nat
  dpitch : Nat
  outStart : Nat
  orgY : Int
  orgX : Int
  fsy : Nat
  fsx : Nat
  clean : Bool
  deriving DecidableEq, Repr

/-- Read a window descriptor from its 64 bytes (Table 7.1). -/
def window7 (b : List Byte) : Window7 :=
  let a := u32 b 0
  let p := u32 b 4
  { kh := fld a 0 4 + 1, kw := fld a 4 4 + 1, sh := fld a 8 3 + 1, sw := fld a 12 3 + 1, dh := fld a 16 4 + 1,
    dw := fld a 20 4 + 1, mode := fld a 24 3, exclPad := bitOf a 28, frameEn := bitOf a 29,
    pt := fld p 0 4, pb := fld p 4 4, pl := fld p 8 4, pr := fld p 12 4, padMode := fld p 16 2,
    s2c := fld p 20 2, c2s := fld p 22 2, outPlanar := bitOf p 24, inPlanar := bitOf p 25,
    ih := u16 b 8, iw := u16 b 10, padVal := u16 b 12, zpA := u8 b 14, ic := u16 b 16, ch0 := u16 b 18,
    inRow := u16 b 20, inPlane := u16 b 22, outRow := u16 b 24, outPlane := u16 b 26, dpitch := u16 b 28,
    outStart := fld (u32 b 32) 0 24, orgY := toSigned 16 (u16 b 36), orgX := toSigned 16 (u16 b 38),
    fsy := fld (u32 b 40) 0 2, fsx := fld (u32 b 40) 4 2,
    clean := !bitOf a 11 && !bitOf a 15 && !bitOf a 27 && fld a 30 2 == 0 && fld p 18 2 == 0 && fld p 26 6 == 0
      && u8 b 15 == 0 && u16 b 30 == 0 && u8 b 35 == 0 && fld (u32 b 40) 2 2 == 0 && fld (u32 b 40) 6 26 == 0
      && zeroAt b 0x2C 20 }

def Window7.fIn (w : Window7) : Nat := 2 ^ w.s2c
def Window7.fOut (w : Window7) : Nat := 2 ^ w.c2s
def Window7.ihr (w : Window7) : Nat := w.ih / w.fIn
def Window7.iwr (w : Window7) : Nat := w.iw / w.fIn
/-- CIN of the window map (R144). -/
def Window7.cin (w : Window7) : Nat := w.ic * w.fIn * w.fIn
/-- Output rows and columns (R144); 0 where the formula is below 1. -/
def Window7.oh (w : Window7) : Nat :=
  if w.ihr + w.pt + w.pb < w.dh * (w.kh - 1) + 1 then 0 else (w.ihr + w.pt + w.pb - w.dh * (w.kh - 1) - 1) / w.sh + 1
def Window7.ow (w : Window7) : Nat :=
  if w.iwr + w.pl + w.pr < w.dw * (w.kw - 1) + 1 then 0 else (w.iwr + w.pl + w.pr - w.dw * (w.kw - 1) - 1) / w.sw + 1
/-- Cp of R148. -/
def Window7.cp (w : Window7) : Nat := 4 * ceilDiv w.cin 4

/-- The frame origin that the band cutter gave a Grove for this tick (R153). -/
structure SliceOrigin where
  bandY : Nat
  bandX : Nat
  frameH : Nat
  frameW : Nat
  deriving DecidableEq, Repr

/-- The origin that Grove `g` holds in this tick, when its list belongs to a picture stream (R153). -/
def State.sliceOrigin (s : State) (f : Fetched) : Option SliceOrigin :=
  match f.owner with
  | .stream i =>
    if (s.plan.running.stream i).map (·.kind) = some 1 then
      (tfind s.pic.origins f.grove).map (fun o => { bandY := o.1, bandX := o.2, frameH := s.pic.height, frameW := s.pic.width })
    else Option.none
  | .ctx _ => Option.none

/-- The stored element (y, x, c) of the input (R147), in its raw bits. -/
def Window7.storedRaw (w : Window7) (fmt : Nat) (map : List Byte) (y x c : Nat) : Nat :=
  let bits := fmtBits fmt
  if w.inPlanar then bitsAt map ((c * w.inPlane * 128 + y * w.inRow) * 8 + x * bits) bits
  else
    let q := y * w.iw + x
    let ncb := ceilDiv w.ic 32
    bitsAt map (((q / 32) * ncb + c / 32) * 1024 * bits + ((q % 32) * 32 + c % 32) * bits) bits

/-- The element of window-map pixel (Y, X), channel c (R147: space-to-channel). -/
def Window7.mapRaw (w : Window7) (fmt : Nat) (map : List Byte) (y x c : Nat) : Nat :=
  let f := w.fIn
  w.storedRaw fmt map (f * y + c % (f * f) / f) (f * x + c % f) (c / (f * f))

/-- The value of raw bits of the input, ZP_A subtracted for the unsigned formats (R146, R148). -/
def Window7.value (w : Window7) (fmt raw : Nat) : Fp := if hasZero fmt then subZero raw w.zpA else decodeFmt fmt raw

/-- What a tap supplies (R145, R146): its value and whether it is a padding tap. -/
def Window7.tap (w : Window7) (o : Option SliceOrigin) (fmt : Nat) (map : List Byte) (p ky kx c : Nat) : Fp × Bool :=
  let oy := p / w.ow
  let ox := p % w.ow
  let iy : Int := (oy * w.sh + ky * w.dh : Nat) - (w.pt : Int)
  let ix : Int := (ox * w.sw + kx * w.dw : Nat) - (w.pl : Int)
  let fy0 : Int := match o with | some s => (s.bandY * 2 ^ w.fsy : Nat) + w.orgY | Option.none => 0
  let fx0 : Int := match o with | some s => (s.bandX * 2 ^ w.fsx : Nat) + w.orgX | Option.none => 0
  let hy : Int := match o with | some s => (s.frameH * 2 ^ w.fsy : Nat) - 1 - fy0 | Option.none => (w.ihr : Int) - 1
  let hx : Int := match o with | some s => (s.frameW * 2 ^ w.fsx : Nat) - 1 - fx0 | Option.none => (w.iwr : Int) - 1
  let loY : Int := if w.frameEn then max 0 (-fy0) else 0
  let loX : Int := if w.frameEn then max 0 (-fx0) else 0
  let hiY : Int := min ((w.ihr : Int) - 1) (if w.frameEn then hy else (w.ihr : Int) - 1)
  let hiX : Int := min ((w.iwr : Int) - 1) (if w.frameEn then hx else (w.iwr : Int) - 1)
  if w.cin ≤ c then (fpZero, false)
  else if loY ≤ iy ∧ iy ≤ hiY ∧ loX ≤ ix ∧ ix ≤ hiX then
    (w.value fmt (w.mapRaw fmt map iy.toNat ix.toNat c), false)
  else if w.padMode = 1 ∧ loY ≤ hiY ∧ loX ≤ hiX then
    (w.value fmt (w.mapRaw fmt map (clampInt loY hiY iy).toNat (clampInt loX hiX ix).toNat c), true)
  else (w.value fmt (w.padVal % 2 ^ fmtBits fmt), true)

/-- Bytes of the stored map (R147). -/
def Window7.mapBytes (w : Window7) (fmt : Nat) : Nat :=
  if w.inPlanar then (w.ic - 1) * w.inPlane * 128 + (w.ih - 1) * w.inRow + w.iw * fmtBits fmt / 8
  else ceilDiv (w.ih * w.iw) 32 * ceilDiv w.ic 32 * (1024 * fmtBits fmt / 8)

/-- The descriptor that a CONV names, and its offset (R143). -/
def winOffset (c : Nat) : Nat := fld (extOf c) 16 14 * 128
def State.loadWindow (s : State) (f : Fetched) : Window7 := window7 (s.ownBytes f (winOffset f.cmd) 64)

/-- Kept output rows of a job (R144). -/
def TensorJob.rows (j : TensorJob) : Nat := (j.mb - 1) * 32 + (if j.mTail = 0 then 32 else j.mTail)
/-- Kept output columns of a job (R150). -/
def TensorJob.cols (j : TensorJob) : Nat := (j.nbo - 1) * 32 + (if j.nTail = 0 then 32 else j.nTail)

/-- Byte offset of an element of a PLANAR output from DST (R150). -/
def Window7.planarAt (w : Window7) (bits p n : Nat) : Nat :=
  let fo := w.fOut
  (n / (fo * fo)) * w.outPlane * 128 + (p / w.ow * fo + n % (fo * fo) / fo) * w.outRow + (p % w.ow * fo + n % fo) * bits / 8

/-- Bytes from DST to the last byte a PLANAR output can write (R150). -/
def Window7.planarBytes (w : Window7) (j : TensorJob) (cols : Nat) : Nat :=
  let bits := fmtBits j.fmtD
  (List.range j.rows).foldl (fun acc m => (List.range cols).foldl (fun acc n =>
    max acc (w.planarAt bits (w.outStart + m) n + bits / 8)) acc) 0

/-- Columns that a mode writes: all kept ones, or column 0 for ARGMAX (R152). -/
def Window7.outCols (w : Window7) (j : TensorJob) : Nat := if w.mode = 3 then 1 else j.cols

/-- Bytes of a CONV's destination with its arrays (R91, R149, R150). -/
def Window7.destBytes (w : Window7) (j : TensorJob) (e : TensorEw) : Nat :=
  if w.outPlanar then w.planarBytes j (w.outCols j)
  else if w.dpitch = 0 then j.destTotal e
  else (j.mb - 1) * w.dpitch * 128 + j.nbo * (128 * fmtBits j.fmtD)

/-- The mode's fixed fields (R148, R151, R152). -/
def Window7.modeOk (w : Window7) (c : Nat) (j : TensorJob) : Bool :=
  let k := fld (dimOf c) 0 16
  match w.mode with
  | 0 => k == w.cin && w.ch0 == 0
  | 3 => w.kh == 1 && w.kw == 1 && w.sh == 1 && w.sw == 1 && w.dh == 1 && w.dw == 1 && w.s2c == 0
      && w.pt == 0 && w.pb == 0 && w.pl == 0 && w.pr == 0 && !w.frameEn
      && k == w.cin && j.nb == 1 && j.nTail == 1 && flagsOf c == 0
      && srcB c == 0 && fmtB c == 0 && blkB c == 0 && w.ch0 == 0
      && ((j.fmtD == 2 && decide (w.cin ≤ 128)) || (j.fmtD == 3 && decide (w.cin ≤ 256)) || (j.fmtD == 4 && decide (w.cin ≤ 32768)))
  | _ => srcB c == 0 && fmtB c == 0 && blkB c == 0 && k == 4 && !j.accIn && !j.exact && !j.pair
      && decide (w.ch0 + j.nbo * 32 ≤ w.cin)

/-- The window conditions of Table 7.2 that are FIELD_BAD faults. -/
def Window7.fieldsOk (w : Window7) (c : Nat) (j : TensorJob) (e : TensorEw) (o : Option SliceOrigin) : Bool :=
  let bits := fmtBits (fmtA c)
  w.clean && decide (w.mode ≤ 3) && decide (w.padMode ≤ 1) && w.s2c != 3 && w.c2s != 3
  && decide (1 ≤ w.ih) && decide (1 ≤ w.iw) && decide (1 ≤ w.ic) && decide (w.ic ≤ 4096)
  && w.ih % w.fIn == 0 && w.iw % w.fIn == 0 && decide (1 ≤ w.oh) && decide (1 ≤ w.ow)
  && decide (w.outStart + j.rows ≤ w.oh * w.ow)
  && (bits ≥ 16 || w.padVal / 2 ^ bits == 0)
  && decide (w.fsy ≤ 2) && decide (w.fsx ≤ 2)
  && w.modeOk c j
  && (!w.inPlanar || (decide (w.iw * bits / 8 ≤ w.inRow) && decide (w.ih * w.inRow ≤ w.inPlane * 128)))
  && (w.outPlanar || w.dpitch == 0 || decide (j.nbo * (128 * fmtBits j.fmtD) ≤ w.dpitch * 128))
  && (w.c2s == 0 || w.outPlanar)
  && (!w.outPlanar || w.outCols j % (w.fOut * w.fOut) == 0
      && (match e.cvt with | some u => decide (u.head.gran < 2) && !u.head.zpEn | Option.none => true))
  && (!w.frameEn || (o.isSome && w.s2c == 0))

/-- What a CONV's issue checks are (R106, R155). -/
def State.convCheck (s : State) (f : Fetched) : IssueCheck :=
  let c := f.cmd
  let w := s.loadWindow f
  let k := fld (dimOf c) 0 16
  let j := tensorJob c k
  let nval := j.nbo * 32
  let e := s.loadEw f j.ew j.tally nval
  let kLen := w.kh * w.kw * w.cp
  let dense := w.mode == 0
  let rs : List CmdRegion :=
    [{ word := srcA c, bytes := w.mapBytes (fmtA c), use := .a },
     { word := srcB c, bytes := if dense then kQuadBytes (fmtB c) (blkB c) kLen j.nb else 0, use := .b },
     { word := winOffset c, bytes := 64, use := .exempt }]
    ++ ({ j with } : TensorJob).regions c e nval
  let rs := rs.map (fun r => if r.use = .dst then { r with bytes := w.destBytes j e } else r)
  let lk := match w.mode with
    | 0 => w.kh * w.kw * ceilDiv w.cin 4 * j.rd
    | 3 => ceilDiv w.cin 4 * rateDiv (fmtA c)
    | _ => w.kh * w.kw * rateDiv (fmtA c)
  let planarFmt := (!w.inPlanar || fmtBits (fmtA c) == 8 || fmtBits (fmtA c) == 16)
    && (!w.outPlanar || fmtBits j.fmtD == 8 || fmtBits j.fmtD == 16)
  let bOk := !dense || (operandFmtOk (fmtB c) (blkB c) kLen && (blkB c == 0 || w.cin % blkSize (blkB c) == 0))
  { fieldsOk := commonFields c 0x1F true true true true && tensorFields c && e.fieldsOk j.tally nval true
      && w.fieldsOk c j e (s.sliceOrigin f)
    formatsOk := blkA c == 0 && operandFmtOk (fmtA c) 0 4 && bOk && destFmtOk j.fmtD j.exact && e.formatsOk j.fmtD && planarFmt
      && (!j.exact || (decide (fmtA c ≤ 4) && decide (fmtB c ≤ 4) && blkB c == 0 && !j.ew))
      && (!j.pair || ((j.nb == 2 || j.nb == 4) && j.ew))
    regions := rs
    programOk := (match e.prog with | some p => p.ok j.pair | Option.none => true)
    bankExtra := e.bankOk f rs
    cycles := j.cycles lk e.ep }

/-- IN_ROW_PITCH and OUT_ROW_PITCH are multiples of 16, or the command faults with ALIGN (Table 7.2); the region list carries
the pitches so that the check falls in its place in the order of R106. -/
def Window7.pitchWords (w : Window7) : List CmdRegion :=
  (if w.inPlanar && w.inRow % 16 != 0 then [{ word := 1, bytes := 0, use := .exempt }] else []) ++
  (if w.outPlanar && w.outRow % 16 != 0 then [{ word := 1, bytes := 0, use := .exempt }] else [])

/-- One k-group of a DENSE CONV (R145, R148): tap t, channel quad q. -/
def convGroup (w : Window7) (o : Option SliceOrigin) (fa : Nat) (map : List Byte) (b : KQuad) (p j col t q : Nat) : KGroup :=
  let xs := bfFlush fa ((List.range 4).map (fun i => (w.tap o fa map p (t / w.kw) (t % w.kw) (4 * q + i)).1))
  let kg := t * ceilDiv w.cin 4 + q
  let ys := bfFlush b.fmt ((List.range 4).map (fun i => b.elem j col (4 * kg + i)))
  { terms := xs.zip ys, factor := b.factor j col kg }

/-- The taps of a position's window in the order ky then kx. -/
def Window7.taps (w : Window7) (o : Option SliceOrigin) (fa : Nat) (map : List Byte) (p c : Nat) : List (Fp × Bool) :=
  (List.range (w.kh * w.kw)).map (fun t => w.tap o fa map p (t / w.kw) (t % w.kw) c)

/-- POOL_MAX and POOL_AVG of one window (R151). -/
def Window7.pool (w : Window7) (ts : List (Fp × Bool)) : Fp :=
  let live := if w.exclPad then ts.filter (fun t => !t.2) else ts
  match live.map (·.1) with
  | [] => fpZero
  | x :: xs =>
    if w.mode = 1 then xs.foldl fp32Max x
    else fp32Mul (xs.foldl fp32Add (fp32Add fpZero x)) (fp32OfFrac false 1 live.length 0)

/-- The index of the largest channel (R152): the first NaN wins, ties go to the lowest index, +0 above −0. -/
def argmaxIndex : List Fp → Nat → Nat → Fp → Nat
  | [], _, best, _ => best
  | x :: xs, i, best, v =>
    if v.isNan then best
    else if x.isNan ∨ fpLt v x then argmaxIndex xs (i + 1) i x
    else argmaxIndex xs (i + 1) best v

/-- The writes of a PLANAR output: one element at a time (R150). -/
def Window7.planarWrites (w : Window7) (j : TensorJob) (dst cols : Nat) (v : Nat → Nat → Nat) : List (Nat × List Byte) :=
  let bits := fmtBits j.fmtD
  (List.range j.rows).flatMap (fun m => (List.range cols).map (fun n =>
    (dst + w.planarAt bits (w.outStart + m) n, leBytes (bits / 8) (v m n))))

/-- The destination of a job moved to a row-block pitch (R149). -/
def Window7.repitch (w : Window7) (j : TensorJob) (dst : Nat) (ws : List (Nat × List Byte)) : List (Nat × List Byte) :=
  if w.dpitch = 0 then ws
  else
    let bb := 128 * fmtBits j.fmtD
    (ws.zip (List.range ws.length)).map (fun x =>
      if x.2 < j.mb * j.nbo then (dst + x.2 / j.nbo * (w.dpitch * 128) + x.2 % j.nbo * bb, x.1.2) else x.1)

/-- The part of a PLANAR output that one output block drains (R104, R150): of `ws`, the writes of its positions and columns. -/
def TensorJob.planarPart (j : TensorJob) (cols : Nat) (ws : List (Nat × List Byte)) (i : Nat) : List (Nat × List Byte) :=
  let b := nth (0, 0) j.blockOrder i
  ((ws.take (j.rows * cols)).zip (List.range (j.rows * cols))).filterMap (fun x =>
    if x.2 / cols / 32 = b.1 ∧ x.2 % cols / 32 = b.2 then some x.1 else Option.none)

/-- What a CONV writes (R145 to R152), and its blocks as they drain (R104). -/
def State.convParts (f : Fetched) (s : State) : List (Nat × List Byte) × List Drain :=
  let c := f.cmd
  let w := s.loadWindow f
  let o := if w.frameEn then s.sliceOrigin f else Option.none
  let fa := fmtA c
  let j := tensorJob c (fld (dimOf c) 0 16)
  let e := s.loadEw f j.ew j.tally (j.nbo * 32)
  let map := s.operandBytes f (srcA c) 0 (w.mapBytes fa)
  let kLen := w.kh * w.kw * w.cp
  let b : KQuad := { fmt := fmtB c, blk := blkB c, k := kLen, blocks := j.nb,
                     bytes := s.operandBytes f (srcB c) 0 (kQuadBytes (fmtB c) (blkB c) kLen j.nb) }
  let aux := if j.accIn then s.operandBytes f (auxOf c) 0 j.auxBytes else []
  let dst := f.abs (dstOf c)
  let quads := ceilDiv w.cin 4
  let pos (r row : Nat) : Nat := w.outStart + r * 32 + row
  let kgs (r q row col : Nat) : List KGroup :=
    (List.range (w.kh * w.kw)).flatMap (fun t => (List.range quads).map (fun g => convGroup w o fa map b (pos r row) q col t g))
  let acc (r q row col : Nat) : Fp :=
    match w.mode with
    | 0 => dotProduct [s.fresh, r, q, row, col] (if j.accIn then fp32Of (j.preload aux r q row col) else fpZero) (kgs r q row col)
    | _ => w.pool (w.taps o fa map (pos r row) (w.ch0 + q * 32 + col))
  let exactSum (r q row col : Nat) : Int :=
    toSigned 32 (j.preload aux r q row col) + ((kgs r q row col).map (fun g => (g.terms.map (fun t => fpInt t.1 * fpInt t.2)).sum)).sum
  let argIdx (m : Nat) : Nat :=
    let xs := (List.range w.cin).map (fun ch => (w.tap o fa map (w.outStart + m) 0 0 ch).1)
    match xs with
    | [] => 0
    | x :: rest => argmaxIndex rest 1 0 x
  let cols := w.outCols j
  let elem (m n : Nat) : Nat × Option (Nat × Fp) := j.element e [s.fresh] acc (m / 32) (n / 32) (m % 32) (n % 32)
  let bits (m n : Nat) : Nat :=
    if w.mode = 3 then argIdx m
    else if j.exact then ofSigned 32 (exactSum (m / 32) (n / 32) (m % 32) (n % 32))
    else (elem m n).1
  if w.outPlanar then
    let obs := (List.range j.rows).flatMap (fun m => (List.range cols).filterMap (fun n => (elem m n).2))
    let ws := w.planarWrites j dst cols bits ++ (match e.cvt with | some u => u.entryWrites f.base obs | Option.none => [])
    (ws, j.drains f e [s.fresh] acc (j.planarPart cols ws))
  else
    let ws :=
      if w.mode = 3 then
        (List.range j.mb).map (fun r => (dst + r * (128 * fmtBits j.fmtD),
          packBits (fmtBits j.fmtD) (blockValues j.mb 1 j.mTail 1 r 0 (fun row _ => argIdx (r * 32 + row)))))
      else if j.exact then j.exactWrites f exactSum
      else j.writes f e [s.fresh] acc
    let ws := if w.dpitch = 0 then ws
      else ws.filter (fun x => match e.cvt with
        | some u => !(j.sideWrites dst u).any (fun y => y.1 == x.1)
        | Option.none => true)
    let ws := w.repitch j dst ws
    (ws, j.drains f e [s.fresh] acc (fun i => (ws.drop i).take 1))

/-- What a CONV writes. -/
def State.convWrites (f : Fetched) (s : State) : List (Nat × List Byte) := (s.convParts f).1
/-- A CONV's output blocks as they drain. -/
def State.convDrains (f : Fetched) (s : State) : List Drain := (s.convParts f).2

/-- The CONV issue check with its pitches in their place (R106, Table 7.2). -/
def State.convIssueCheck (s : State) (f : Fetched) : IssueCheck :=
  let k := s.convCheck f
  { k with regions := k.regions ++ (s.loadWindow f).pitchWords }

end Sys2Proof.Machine
end

