-- ==== Sys2Proof/Machine/Tick.lean ====
section
/-! DEFINITION. The tick generator, ALIVE and the start of standing lists (chapter 3, R55 to R64, R466). -/
namespace Sys2Proof.Machine
open Sys2Proof

/-- The running plan. -/
def State.thePlan (s : State) : Plan := s.plan.running
/-- The current mode's record. -/
def State.theMode (s : State) : ModeRec := s.thePlan.mode s.mode.cur

/-- The shortest tick of a mode in ns: floor(10⁹ / TICK_MAX) (R57). -/
def minTickNs (m : ModeRec) : Nat := 1000000000 / m.tickMax

/-- The length of a free-running tick in ns: ceil(24,000,000 / r) reference cycles (R56). -/
def freeTickNs (freeRate : Nat) (m : ModeRec) : Nat :=
  ceilDiv 24000000 (max 1 (min freeRate m.tickMax)) * 125 / 3

/-- FREE_RATE of TICK_CTRL (R79). -/
def State.freeRate (s : State) : Nat := s.rf Reg.TICK_CTRL 16 16

/-- N for a mode and a nominal frame rate in mHz (R57). -/
def lockN (m : ModeRec) (fMhz : Nat) : Nat := if fMhz = 0 then 0 else m.tickMax * 1000 / fMhz
/-- Whether N × F is at least 1,000 (R57). -/
def lockable (m : ModeRec) (fMhz : Nat) : Bool := decide (1000000 ≤ lockN m fMhz * fMhz)
/-- Whether a measured period lies within ±0.1 % of 1 / F (R57). -/
def periodGood (fMhz period : Nat) : Bool :=
  decide (period * fMhz ≤ 1001000000000) && decide (999000000000 ≤ period * fMhz)
/-- 0.1 % of a period. -/
def tolNs (p : Nat) : Nat := p / 1000

/-- The plan in force calls for video lock: SOURCE 1, and not the ROM plan, which runs free (R48, R55). -/
def State.videoSource (s : State) : Bool := s.rb Reg.TICK_CTRL 0 && !s.thePlan.rom
/-- The plan calls for video lock and the input allows it: D8 out of reset, N × F at least 1,000, and, on a device of a closed
ring, the root's own input (R55, R57, R346). -/
def State.mayLock (s : State) : Bool :=
  s.videoSource && s.running 8 && lockable s.theMode s.pic.frameMhz
    && !(decide (s.vil.ring = .closed) && decide (s.pins.chipId % 4 ≠ 0)) && s.rf Reg.PWR_STATUS 0 2 == 0

/-- TICK_STATUS written from the generator's state. -/
def State.showTick (s : State) : State :=
  let t := s.tick
  let s := s.putF Reg.TICK_STATUS 0 1 (b2n t.locked)
  let s := s.putF Reg.TICK_STATUS 8 6 t.slot
  let s := s.put Reg.TICK_N (if t.locked then t.n else 0)
  s.put Reg.TICK_LEN_NS (t.endNs - t.startNs)

/-- Lock ends with no event of its own and the frame-period measurements kept: the generator runs free from the end of the tick
in progress (R60). -/
def State.unlockKept (s : State) : State :=
  ({ s with tick.locked := false, tick.n := 0, tick.predicted := Option.none, tick.frameTick := false,
            tick.lockNext := false }).showTick

/-- Lock ends with no event of its own and acquisition begins anew (R59). -/
def State.endLock (s : State) : State := ({ s with tick.goodPeriods := 0 }).unlockKept

/-- Lock is lost (R59): the tick in progress runs to its scheduled end, or ends at `now` when that is given. -/
def State.loseLock (s : State) (now : Option Nat) : State :=
  if s.tick.locked then
    let e := match now with | some t => t | Option.none => s.tick.endNs
    let s := { s with tick.endNs := e }
    (s.endLock).evt Reg.TICK_EVT 1
  else s

/-- Acquisition begins again with three new measured periods (R57). -/
def State.restartAcquisition (s : State) : State :=
  { s with tick.goodPeriods := 0, tick.predicted := Option.none, tick.lockNext := false }

/-- The end of a free tick that begins at `start` (R56, R57): its free length, lengthened to the predicted frame start when
it would end less than the shortest tick before it. -/
def State.freeEnd (s : State) (start : Nat) : Nat :=
  let e := start + freeTickNs s.freeRate s.theMode
  match s.tick.predicted with
  | some p => if e < p ∧ p - e < minTickNs s.theMode then p else e
  | Option.none => e

/-- The end of locked tick `j` of the frame that started at `fs` (R58). -/
def lockedEnd (fs period n j : Nat) : Nat := if j + 1 < n then fs + (j + 1) * period / n else fs + period

/-- The generator begins a new tick at `start` (R57, R58, R60). -/
def State.beginTick (s : State) (start : Nat) : State :=
  let t := s.tick
  let m := s.theMode
  let slotNext := if t.slotZero then 0 else (t.slot + 1) % max 1 m.period
  let s := { s with tick.slotZero := false }
  if t.frameTick then
    let n := lockN m s.pic.frameMhz
    let newLock := !t.locked
    let s := { s with tick.locked := true, tick.n := n, tick.frameStart := start, tick.j := 0, tick.slot := 0,
                      tick.startNs := start, tick.endNs := lockedEnd start t.period n 0,
                      tick.frameTick := false, tick.lockNext := false, tick.predicted := Option.none }
    let s := if newLock then s.evt Reg.TICK_EVT 0 else s
    s.showTick
  else if t.locked then
    let j := t.j + 1
    ({ s with tick.j := j, tick.slot := slotNext, tick.startNs := start,
              tick.endNs := lockedEnd t.frameStart t.period t.n j }).showTick
  else
    ({ s with tick.slot := slotNext, tick.startNs := start, tick.endNs := s.freeEnd start }).showTick

/-- The commands of a list, each with its stream and its index in the list. -/
def listTodo (l : ListRec) : List Todo :=
  (List.range l.cmds.length).map (fun i => { stream := l.stream, index := i, cmd := nth 0 l.cmds i })

/-- Whether a standing Grove starts lists at a boundary: it stands, its domain runs, its lists are not stopped by a mode
change (R50) and no standing restart is awaited (R381, R382). -/
def State.startsLists (s : State) (g : Nat) : Bool :=
  decide (s.role g = .standing) && s.running 2 && !s.mode.restart
    && !(decide (2 ≤ s.mode.step) && s.mode.changing.contains g)

/-- Whether stream `i` starts its lists in the tick that begins: a picture stream when a band was released (R261), the looking
stream when a frame was (R319), an exchange stream in a closed ring (R341). -/
def State.streamStarts (s : State) (i : Nat) : Bool :=
  match (s.thePlan.stream i).map (·.kind) with
  | some 1 => s.pic.tickBand.isSome
  | some 3 => s.cam.lookTick
  | some 4 => decide (s.vil.ring = .closed)
  | _ => true

/-- The lists of the slot started on Grove `g` (R63). -/
def State.startLists (s : State) (g : Nat) : State :=
  if s.startsLists g then
    let ls := (s.thePlan.listsAt s.mode.cur g s.tick.slot).filter (fun l => s.streamStarts l.stream)
    let s := s.modGrove g (fun x => { x with todo := ls.flatMap listTodo, discarded := [] })
    { s with tick.startedStreams := ls.foldl (fun m l => setFld m l.stream 1 1) s.tick.startedStreams }
  else s

/-- A stream's result for the ending tick is missed (R64, R373). -/
def State.missResult (s : State) (stream : Nat) : State :=
  let s := s.count (Reg.SCH_MISS stream) 1
  let s := s.evt Reg.TICK_EVT 3
  let s := { s with tick.missRun := tput s.tick.missRun stream (tget 0 s.tick.missRun stream + 1) }
  s.report 0x0201 0x05 [s.rn Reg.TICK_COUNT_LO] Option.none (some stream)

/-- The streams that a standing Grove still owes commands of at a boundary: commands not issued, one in execution, or ones
discarded after a fault (R64, R107). -/
def Grove.owes (x : Grove) : List Nat :=
  x.todo.map (·.stream) ++ x.discarded ++ (match x.run with | some r => r.stream.toList | Option.none => [])

/-- The streams whose result of the ending tick is incomplete (R64). -/
def State.missing (s : State) : List Nat :=
  let gs := (List.range 16).filter (fun g => decide (s.role g = .standing))
  let owed := gs.flatMap (fun g => (s.grove g).owes)
  (List.range 32).filter owed.contains

/-- The standing lists at a tick boundary: what is still owed is missed and its unissued commands discarded (R64), busy
cycles of the tick are kept, and the lists of the slot start (R63). -/
def State.boundaryLists (s : State) : State :=
  let missed := s.missing
  let s := missed.foldl State.missResult s
  let kept := (List.range 32).filter (fun i => bitOf s.tick.startedStreams i && !missed.contains i)
  let s := { s with tick.missRun := kept.foldl (fun t i => tdel t i) s.tick.missRun, tick.startedStreams := 0, lkt.turn := Option.none }
  forRange 16 s (fun s g =>
    let x := s.grove g
    let s := s.modGrove g (fun x => { x with todo := [], discarded := [], tickBusy := 0, testTiles := 0, lateStream := x.run.bind (·.stream) })
    let s :=
      if x.role = .standing ∧ s.running 2 then
        let s := s.put (Reg.GRV_TICK_LAST g) x.tickBusy
        s.put (Reg.GRV_TICK_MAX g) (max (s.rn (Reg.GRV_TICK_MAX g)) x.tickBusy)
      else s
    s.startLists g)

/-- ALIVE changes level while D1 and D8 are both out of reset (R61). -/
def State.toggleAlive (s : State) : State := { s with pins.alive := !s.pins.alive }

/-- The count and ALIVE at a tick boundary (R55, R61). -/
def State.countTick (s : State) : State :=
  let s := s.incR64 Reg.TICK_COUNT_LO 1
  if s.running 8 then (s.toggleAlive).putF Reg.TICK_STATUS 2 1 0 else s

/-- Whether a standing restart ends at the boundary that has begun the tick in progress (R381, R382): the images stand, and the
tick is one at which a picture stream may start. -/
def State.restartEnds (s : State) : Bool :=
  s.mode.restart && s.mode.restartReady
    && (s.tick.locked == false || s.tick.j == 0 || (s.thePlan.streamOfKind s.mode.cur 1).isNone)

/-- A frame start is measured (R57): the period, and how many consecutive periods lie within the tolerance. -/
def State.measureFrame (s : State) (at_ : Nat) : State :=
  match s.tick.lastStart with
  | Option.none => { s with tick.lastStart := some at_, tick.goodPeriods := 0 }
  | some l =>
    let p := at_ - l
    let good := if periodGood s.pic.frameMhz p then s.tick.goodPeriods + 1 else 0
    ({ s with tick.lastStart := some at_, tick.period := p, tick.goodPeriods := good }).put Reg.TICK_FRAME_PERIOD p

/-- A frame start of the locked input (R58, R59): it ends tick N − 1, or comes too early or too late and loses the lock. -/
def State.lockedFrame (s : State) (at_ : Nat) : State :=
  let t := s.tick
  let due := t.frameStart + t.period
  if at_ + tolNs t.period < due then (s.loseLock Option.none).measureFrame at_
  else if due + tolNs t.period < at_ then (s.loseLock (some (due + tolNs t.period))).measureFrame at_
  else
    let s := s.measureFrame at_
    { s with tick.endNs := at_, tick.frameTick := true }

/-- A frame start while the generator runs free (R57): acquisition counts it, and the predicted one begins the first locked
frame when the tick in progress has lasted long enough. -/
def State.freeFrame (s : State) (at_ : Nat) : State :=
  let t := s.tick
  let wasPredicted := t.predicted.isSome
  let s := s.measureFrame at_
  if !s.mayLock then
    let s := if s.videoSource && s.running 8 && s.pic.frameMhz != 0 && !lockable s.theMode s.pic.frameMhz then
        (s.evt Reg.TICK_EVT 2).putF Reg.TICK_STATUS 1 1 1
      else s
    { s with tick.predicted := Option.none }
  else if s.tick.goodPeriods < 3 then { s with tick.predicted := Option.none }
  else if wasPredicted && decide (t.startNs + minTickNs s.theMode ≤ at_) then
    { s with tick.endNs := at_, tick.frameTick := true, tick.predicted := Option.none }
  else
    let s := { s with tick.predicted := some (at_ + s.tick.period) }
    let e := s.freeEnd t.startNs
    { s with tick.endNs := max e t.endNs }

/-- The tick generator's part of HDMI_FRAME_START (R57 to R59). -/
def State.tickFrameStart (s : State) (at_ : Nat) : State :=
  if !s.running 1 || s.tick.stopped then s
  else if s.tick.locked then s.lockedFrame at_ else s.freeFrame at_

/-- FRAME_START_TIMEOUT (R57, R59): a predicted frame start has not arrived 0.1 % of P after it was due. -/
def State.frameStartTimeout (s : State) : State :=
  if !s.running 1 || s.tick.stopped then s
  else if s.tick.locked then
    s.loseLock (some (s.tick.frameStart + s.tick.period + tolNs s.tick.period))
  else match s.tick.predicted with
    | some p =>
      let e := if s.tick.endNs = p then p + tolNs s.tick.period else s.tick.endNs
      ({ s with tick.endNs := e }).restartAcquisition
    | Option.none => s

/-- ALIVE_TIMER_TOGGLE (R61): the D0 timer toggles ALIVE while D1 is in reset, and after its release until the tick generator's
first boundary, which TICK_STATUS.ALIVE_SRC shows; D8 is out of reset. -/
def State.aliveTimerToggle (s : State) : State :=
  if (s.inReset 1 || s.rb Reg.TICK_STATUS 2) && s.running 8 && s.running 0 then s.toggleAlive else s

/-- The nominal input timing changes (R59): lock is lost, and measurement begins anew. -/
def State.tickTimingChange (s : State) : State :=
  let s := s.loseLock Option.none
  let s := { s.restartAcquisition with tick.lastStart := Option.none }
  let s := s.put Reg.TICK_FRAME_NOM s.pic.frameMhz
  let s := s.putF Reg.TICK_STATUS 1 1 0
  s.put Reg.TICK_FRAME_PERIOD 0

end Sys2Proof.Machine
end

