-- ==== Sys2Proof/Machine/Access.lean ====
section
/-! DEFINITION. Accesses from outside: reach, windows, domains in reset, register fields and plain memory (R5 to R9, R17 to
R20, R376, R394). -/
namespace Sys2Proof.Machine
open Sys2Proof

/-- INITIATOR as Table 20.7 codes it. -/
def initCode : Initiator → Nat
  | .service => 0
  | .app h => 1 + h.val * 256
  | .pcie => 2
  | .kernel => 3

/-- The INIT code of a window entry (Table 19.4). -/
def initWin : Initiator → Nat
  | .service => 0
  | .app _ => 1
  | .pcie => 2
  | .kernel => 3

/-- Whether an initiator can issue anything: its domain runs, or the PCIe link is up and not asleep in S2 (Table 22.5). -/
def State.acts (s : State) : Initiator → Bool
  | .kernel => s.running 1
  | .service => s.running 5
  | .app _ => s.running 4
  | .pcie => s.pci.linkUp && decide ((s.dom 1).power ≠ .ret)

/-! ### Usable DDR5 (R18, R237, R242) -/

/-- Installed bytes of one channel by the density strap: two devices of 16, 24 or 32 Gb (R237). -/
def channelBytes (density : Nat) : Nat := nth 4 [4, 6, 8] density * 2 ^ 30
/-- Usable bytes: 15/16 of the installed capacity of the trained channels (R18). -/
def State.ddrUsable (s : State) : Nat := popCount 8 s.ddr.trainMask * channelBytes s.pins.density * 15 / 16
/-- Accesses to the DDR5 window are held from the start of a D1 reset that is no cold start until the controller is restored
(R376). -/
def State.ddrHeld (s : State) : Bool := !s.boot.cold && (s.inReset 1 || !s.ddr.trainDone)

/-! ### Windows (R394) -/

/-- Whether entry (w0, w1, w2, w3) of the window table lets an access pass (R394). -/
def windowPasses (init : Nat) (isReg write : Bool) (addr size : Nat) (w0 w1 w2 w3 : Nat) : Bool :=
  let base := w1 + 2 ^ 32 * w2
  bitOf w0 0 && fld w0 1 2 == init && bitOf w0 4 == isReg && (!write || bitOf w0 5)
    && decide (base ≤ addr) && decide (addr + size ≤ base + w3)

/-- Whether some entry of a window table passes the access; `word` reads a SEC_WIN register. -/
def windowAny (word : Nat → Nat) (init : Nat) (isReg write : Bool) (addr size : Nat) : Bool :=
  (List.range 256).any (fun w => windowPasses init isReg write addr size (word (Reg.SEC_WIN w 0)) (word (Reg.SEC_WIN w 1))
    (word (Reg.SEC_WIN w 2)) (word (Reg.SEC_WIN w 3)))

/-- Whether the window table lets the access of an initiator pass (R394). -/
def State.windowOk (s : State) (init : Initiator) (isReg write : Bool) (addr size : Nat) : Bool :=
  windowAny s.rn (initWin init) isReg write addr size

/-- The same for the table as the last reset of D1 found it (log entry 16). -/
def State.heldWindowOk (s : State) (init : Initiator) (write : Bool) (addr size : Nat) : Bool :=
  windowAny (fun k => (tget (0 : Word) s.sec.heldWin k).toNat) (initWin init) false write addr size

/-- Whether Table 1.5 gives the initiator any reach into a region, by window or directly (R20). -/
def regionReach (init : Initiator) (r : Region) : Bool :=
  match init, r with
  | .kernel, .hole => false
  | .kernel, _ => true
  | .service, .canopy => true
  | .pcie, .outbound => false
  | _, .registers _ => true
  | _, .capability => true
  | _, .outbound => true
  | _, .ddr => true
  | _, _ => false

/-- What becomes of an access before it reaches its target. -/
inductive Gate where
  | pass | denied | silent | held
  deriving DecidableEq, Repr

/-- Whether the domain that owns a memory region is in reset (R376). -/
def State.memoryDown (s : State) : Region → Bool
  | .canopy => !s.running 1
  | .groveSram g =>
    match s.blockDomain (0x10 + g) with
    | some d => !s.running d
    | Option.none => false
  | _ => false

/-- The gate of an access (R19, R20, R21, R376, R394). -/
def State.gate (s : State) (init : Initiator) (addr size : Nat) (write : Bool) : Gate :=
  let r := regionOf addr
  if regionOf (addr + size - 1) ≠ r ∨ regionReach init r = false then .denied
  else match r with
    | .hole => .denied
    | .rom => if write then .denied else .pass
    | .capability => if write then .denied else .pass
    | .registers b =>
      if !blockListed b then .denied
      else if (match s.blockDomain b with | some d => !s.running d | Option.none => false) then .silent
      else if init ≠ .kernel ∧ s.windowOk init true write addr size = false then .denied
      else if s.blockLive b then .pass
      else .silent
    | .ddr =>
      if s.ddrHeld then
        if init = .kernel ∨ s.heldWindowOk init write addr size then .held else .denied
      else if s.ddrUsable < addr + size - ddrBase then .denied
      else if init = .kernel ∨ s.windowOk init false write addr size then .pass else .denied
    | r =>
      if s.memoryDown r then .denied
      else if init = .kernel ∨ s.windowOk init false write addr size then .pass else .denied

/-! ### Denials (R19, R7, R432) -/

/-- An access ends under R19: the count, SEC_EVT.DENIED and the access-fault event. -/
def State.denyAccess (s : State) (init : Initiator) (addr : Nat) (write : Bool) : State :=
  let s := s.count Reg.SEC_DENIED 1
  let s := s.evt Reg.SEC_EVT 1
  let s := s.report 0x0A01 0x01 [initCode init, addr % 2 ^ 32, addr / 2 ^ 32]
  if init = .pcie then
    if write then (s.count Reg.PCI_DENIED 1).answer .discarded else s.answer .unsupportedRequest
  else s.answer .busError

/-- The address of register `k`. -/
def regAddr (k : Nat) : Nat := regBase + k

/-- A write to an RK field by another initiator than the kernel (R7). -/
def State.denyRk (s : State) (init : Initiator) (k : Nat) : State :=
  let s := s.count Reg.SEC_DENIED 1
  let s := s.evt Reg.SEC_EVT 1
  (s.report 0x0A02 0x01 [initCode init, regAddr k]).answer .done

/-- An access held until the DDR5 controller is restored (R376). -/
def State.hold (s : State) (init : Initiator) (kind : AccessKind) (addr size value : Nat) : State :=
  { s with pci.heldAccesses := s.pci.heldAccesses ++ [(init, kind, addr, size, value)], bus := .held }

/-- A 32-bit write of register `k` by an initiator whose effect is `eff`, past the gate and the access code RK (R7, R394). -/
def State.viaWrite (s : State) (init : Initiator) (k : Nat) (rk : Bool) (eff : State → State) : State :=
  if !s.acts init then s
  else match s.gate init (regAddr k) 4 true with
    | .pass => if rk && decide (init ≠ .kernel) then s.denyRk init k else (eff s).answer .done
    | .denied => s.denyAccess init (regAddr k) true
    | .silent => s.answer .done
    | .held => s.answer .held

/-! ### Register fields (R6, R7, R9) -/

/-- The register fields are RK. -/
def regIsRk (k : Nat) : Bool := (regFields k).any (fun f => f.access == .rk)

/-- One field of a register after a write of `v` (R7, R9). -/
def fieldStore (kernel first : Bool) (v old : Nat) (f : RegField) : Nat :=
  let x := fld v f.lo f.width
  match f.access with
  | .ro => old
  | .rw => if f.legal.ok x then setFld old f.lo f.width x else old
  | .rk => if kernel && f.legal.ok x then setFld old f.lo f.width x else old
  | .rw1c => setFld old f.lo f.width (fld old f.lo f.width &&& (2 ^ f.width - 1 - x))
  | .rwo => if first then setFld old f.lo f.width x else old

/-- The `_LO` registers of the map (R6). -/
def isLo (k : Nat) : Bool :=
  let b := k / 0x10000
  let o := k % 0x10000
  if 0x10 ≤ b ∧ b ≤ 0x1F then o == 0x10 || o == 0x18
  else match b with
  | 0x01 => o == 0x30 || o == 0x38 || o == 0x40 || o == 0x48
  | 0x06 => o == 0x10 || o == 0x18
  | 0x08 => decide (0x10C ≤ o) && decide (o < 0x30C) && o % 32 == 0x0C
  | 0x24 => o == 0x28 || o == 0x48 || o == 0x68 || o == 0x80
  | 0x25 => decide (0x80 ≤ o) && decide (o < 0xA8) && o % 8 == 0
  | 0x26 => o == 0x20 || o == 0x28
  | 0x27 => o == 0x20 || o == 0x28 || o == 0x30
  | 0x28 => o == 0x10 || o == 0x18
  | 0x29 => o == 0x10 || o == 0x18
  | 0x2A => o == 0x150
  | 0x2B => o == 0x08 || (decide (0x1004 ≤ o) && decide (o < 0x2004) && o % 32 == 4)
  | 0x2D => o == 0x10
  | _ => false

/-- The `_HI` registers of the map (R6). -/
def isHi (k : Nat) : Bool := decide (4 ≤ k) && isLo (k - 4)

/-- A write of register `k` into its fields, with no other effect (R7, R9). -/
def State.storeReg (s : State) (kernel : Bool) (k v : Nat) : State :=
  let first := !s.written.contains k
  let s := s.setReg k ((regFields k).foldl (fieldStore kernel first v) (s.rn k))
  if (regFields k).any (fun f => f.access == .rwo) && first then { s with written := k :: s.written } else s

/-- A write of a register, the halves of a pair staged and committed (R6). -/
def State.storePair (s : State) (kernel : Bool) (k v : Nat) : State :=
  if isLo k then { s with staged := tput s.staged k (BitVec.ofNat 32 v) }
  else if isHi k then
    let s := match tfind s.staged (k - 4) with
      | some w => s.storeReg kernel (k - 4) w.toNat
      | Option.none => s
    { (s.storeReg kernel k v) with staged := tdel s.staged (k - 4) }
  else s.storeReg kernel k v

/-- A read of register `k` whose current value is `v`, and of its `_HI` half `hi`: reading `_LO` captures the other half, and
the next read of `_HI` returns what was captured (R6). -/
def State.readPair (s : State) (k v hi : Nat) : State × Nat :=
  if isLo k then ({ s with captured := tput s.captured (k + 4) (BitVec.ofNat 32 hi) }, v)
  else match tfind s.captured k with
    | some w => ({ s with captured := tdel s.captured k }, w.toNat)
    | Option.none => (s, v)

/-! ### Plain memory -/

/-- The capability table's word at offset `o` (R23). -/
def State.capWord (s : State) (o : Nat) : Nat := (tget (0 : Word) s.cap o).toNat
/-- Bytes of the capability table: none for a read that is not aligned to its size (chapter 1). -/
def State.capRead (s : State) (o size : Nat) : Nat :=
  if size = 0 ∨ o % size ≠ 0 then 0
  else if size = 8 then s.capWord o + 2 ^ 32 * s.capWord (o + 4)
  else fld (s.capWord (o / 4 * 4)) (8 * (o % 4)) (8 * size)

/-- The capability table changed by `f`: CAP_GEN rises once the new values are in place (R24). -/
def State.capChange (s : State) (f : Tbl Word → Tbl Word) : State :=
  let t := f s.cap
  { s with cap := tput t 0x14 ((tget (0 : Word) t 0x14) + 1) }
/-- A word of the capability table. -/
def capPut (o v : Nat) (t : Tbl Word) : Tbl Word := tput t o (BitVec.ofNat 32 v)

/-- Whether outbound transfers leave the device: the link is up and PCI_OB_BASE is not zero (R433). -/
def State.outboundOpen (s : State) : Bool := s.pci.linkUp && s.r64 Reg.PCI_OB_BASE_LO != 0

/-- A read or write of plain memory that passed the gate, an initiator meeting `symbols` erroneous symbols in the line it
reads or writes in part (R245 to R251, R433, Table 12.2). -/
def State.memAccess (s : State) (init : Initiator) (kind : AccessKind) (addr size value symbols : Nat) : State :=
  match regionOf addr with
  | .capability => s.answer (.data (s.capRead (addr - capBase) size))
  | .rom => s.answer (.data (s.rdLE addr size))
  | .outbound =>
    match kind with
    | .write =>
      if s.outboundOpen then
        { s with pci.outbound := some (s.r64 Reg.PCI_OB_BASE_LO + (addr - outboundBase), value % 2 ^ (8 * size)), bus := .done }
      else s.answer .discarded
    | .read =>
      if s.outboundOpen then (s.answer (.data (s.freeVal 5 % 2 ^ (8 * size)))).tickFresh else s.answer .busError
  | _ =>
    let s := s.meetErrors addr symbols
    if !(s.badIn addr size).isEmpty then
      (s.reportBad addr size 0).answer (if init = .pcie then .completerAbort else .busError)
    else match kind with
      | .read => s.answer (.data (s.rdLE addr size))
      | .write => (s.wrLE addr size value).answer .done

end Sys2Proof.Machine
end

