-- ==== Sys2Proof/Machine/Tiles.lean ====
section
/-! DEFINITION. Stored tiles: header, encodings, sealing, and reading and writing a tile of an object or of the page pool
(R206 to R211, R225, R226, R248). -/
namespace Sys2Proof.Machine
open Sys2Proof

/-! ### Header and encodings (R207 to R209) -/

def tileCtl (h : List Byte) : Nat := u32 h 0
def tileEnc (h : List Byte) : Nat := fld (tileCtl h) 4 2
def tileSealed (h : List Byte) : Bool := bitOf (tileCtl h) 6
def tileWidth (h : List Byte) : Nat := fld (tileCtl h) 8 2
def tileStored (h : List Byte) : Nat := fld (tileCtl h) 16 13
def tilePosition (h : List Byte) : Nat := u32 h 4
def tileCrc (h : List Byte) : Nat := u32 h 8
/-- SEGLEN of segment `i` (Table 11.2). -/
def tileSegLen (h : List Byte) (i : Nat) : Nat := fld (leNat (slice h 0x0C 18)) (9 * i) 9
/-- The header without its SEGLEN, CRC and POSITION: encoding, flags and widths. -/
def tileHeader (enc width stored position crc : Nat) (sealed pool : Bool) (segs : List Nat) : List Byte :=
  leBytes 4 (1 + enc * 16 + b2n sealed * 64 + b2n pool * 128 + width * 256 + stored * 65536)
    ++ leBytes 4 position ++ leBytes 4 crc
    ++ leBytes 18 (segs.foldr (fun x acc => x % 512 + 512 * acc) 0) ++ [0, 0]

/-- Reserved encodings and reserved bits of a header are not in use (R209). -/
def headerClean (h : List Byte) : Bool :=
  fld (tileCtl h) 0 4 == 1 && tileEnc h != 3 && tileWidth h != 3 && fld (tileCtl h) 10 6 == 0 && fld (tileCtl h) 29 3 == 0
    && u16 h 0x1E == 0

/-- STORED agrees with ENC and SEGLEN (R207 to R209). -/
def storedOk (h : List Byte) : Bool :=
  match tileEnc h with
  | 0 => tileStored h == 4096
  | 2 => tileStored h == 0
  | _ =>
    let ls := (List.range 16).map (tileSegLen h)
    ls.all (fun l => decide (l ≤ 256)) && tileStored h == ls.sum && decide (1 ≤ ls.sum)

/-- The elements of an encoded segment of `n` elements of `w` bytes and `b` bits (R208). -/
def segElems (b w mode : Nat) (body : List Byte) : Nat → Nat → Nat → List Nat
  | 0, _, _ => []
  | n + 1, i, prev =>
    let d := bitsAt body (i * b) b
    let x := if mode = 0 then
        (if d % 2 = 0 then prev + d / 2 else prev + 2 ^ (8 * w) - (d / 2 + 1) % 2 ^ (8 * w)) % 2 ^ (8 * w)
      else d
    x :: segElems b w mode body n (i + 1) x

/-- A stored segment decoded to its 256 bytes; none where it fails the require() of R208. -/
def decodeSegment (width : Nat) (seg : List Byte) : Option (List Byte) :=
  if seg.length = 0 then some (List.replicate 256 0)
  else if seg.length = 256 then some seg
  else
    let ctl := u8 seg 0
    let b := ctl % 64
    let w := 2 ^ width
    let n := 256 / w
    if ctl / 64 ≤ 1 ∧ b ≤ 8 * w ∧ seg.length = 1 + ceilDiv (n * b) 8 then
      some ((segElems b w (ctl / 64) (seg.drop 1) n 0 0).flatMap (leBytes w))
    else Option.none

/-- Segments decoded one after another. -/
def decodeSegments (width : Nat) : List (List Byte) → Option (List Byte)
  | [] => some []
  | x :: xs =>
    match decodeSegment width x, decodeSegments width xs with
    | some a, some b => some (a ++ b)
    | _, _ => Option.none

/-- A slot cut into its segments by a list of lengths. -/
def cutSegments : List Nat → List Byte → List (List Byte)
  | [], _ => []
  | n :: ns, bs => bs.take n :: cutSegments ns (bs.drop n)

/-- Payload of the slot bytes in plain form under a header (R208). -/
def slotPayload (h : List Byte) (slot : List Byte) : Option (List Byte) :=
  match tileEnc h with
  | 0 => some (padTo 0 tileBytes slot)
  | 2 => some (List.replicate tileBytes 0)
  | _ => decodeSegments (tileWidth h) (cutSegments ((List.range 16).map (tileSegLen h)) slot)

/-- A stored tile decoded as a transfer reads it (R209, R225, R226): its payload, or the code of Table 11.10. `key` is the
owner's sealing key, if one is loaded, and `tweak` the slot's address divided by 4,096. -/
def decodeTile (t : StoredTile) (position : Nat) (key : Option Nat) (tweak : Nat) : Except Nat (List Byte) :=
  let h := t.header
  if !headerClean h || !storedOk h || tilePosition h != position || (tileSealed h && tileEnc h == 1) then .error 0x07
  else if tileSealed h then
    match key with
    | Option.none => .error 0x06
    | some k => if tileEnc h = 2 then .ok (List.replicate tileBytes 0) else .ok (xts true k tweak t.slot)
  else match slotPayload h t.slot with
    | Option.none => .error 0x07
    | some p => if crc32 p = tileCrc h then .ok p else .error 0x08

/-- How a payload is to be stored. -/
structure TileForm where
  position : Nat
  pool : Bool
  compress : Bool
  width : Nat
  key : Option Nat
  tweak : Nat
  deriving DecidableEq, Repr

/-- A payload stored (R207 to R209, R225): zero, segmented where the encoder's segments are shorter, or raw. -/
def encodeTile (f : TileForm) (p : List Byte) : StoredTile :=
  let crc := if f.key.isSome then 0 else crc32 p
  if p.all (· == 0) && Config.zeroAsZero f.width then
    { header := tileHeader 2 f.width 0 f.position crc f.key.isSome f.pool [], slot := [] }
  else match f.key with
    | some k => { header := tileHeader 0 f.width 4096 f.position 0 true f.pool [], slot := xts false k f.tweak p }
    | Option.none =>
      let segs := Config.tileSegments f.width p
      let n := (segs.map List.length).sum
      if f.compress && segs.length == 16 && decide (1 ≤ n) && decide (n < 4096) && decodeSegments f.width segs == some p then
        { header := tileHeader 1 f.width n f.position crc false f.pool (segs.map List.length), slot := segs.flatten }
      else { header := tileHeader 0 f.width 4096 f.position crc false f.pool [], slot := p }

/-! ### Where tiles lie -/

/-- A stored tile's place: home or staged copy of an object, or a tile of a page-pool frame. -/
inductive TileLoc where
  | home (obj index : Nat)
  | copy (obj index : Nat)
  | pool (frame tile : Nat)
  deriving DecidableEq, Repr

def objDefault : Obj := { owner := 0xFF, place := 0, tiles := 0 }
/-- Object `k` (R213). -/
def State.obj (s : State) (k : Nat) : Obj := tget objDefault s.tiers.objs k
/-- Whether object `k` is not FREE. -/
def State.hasObj (s : State) (k : Nat) : Bool := thas s.tiers.objs k
/-- Object `k` changed by `f`. -/
def State.modObj (s : State) (k : Nat) (f : Obj → Obj) : State :=
  { s with tiers.objs := tmod objDefault s.tiers.objs k f }

/-- A zero tile at a position. -/
def zeroTile (position : Nat) (pool : Bool) : StoredTile :=
  { header := tileHeader 2 0 0 position (crc32 (List.replicate tileBytes 0)) false pool [], slot := [] }

/-- POSITION of a place (Table 11.2). -/
def State.tilePos (s : State) : TileLoc → Nat
  | .home k i => k % 4096 + i * 4096
  | .copy k i => k % 4096 + i * 4096
  | .pool f t => f * s.pages.pageTiles + t

/-- The tile stored at a place; an absent one is a zero tile. -/
def State.tileAt (s : State) (l : TileLoc) : Option StoredTile :=
  match l with
  | .home k i => tfind (s.obj k).home i
  | .copy k i => tfind (s.obj k).copy i
  | .pool f t => tfind s.pages.tiles (f * s.pages.pageTiles + t)

/-- A tile stored at a place. -/
def State.putTile (s : State) (l : TileLoc) (t : StoredTile) : State :=
  match l with
  | .home k i => s.modObj k (fun o => { o with home := tput o.home i t })
  | .copy k i => s.modObj k (fun o => { o with copy := tput o.copy i t })
  | .pool f i => { s with pages.tiles := tput s.pages.tiles (f * s.pages.pageTiles + i) t }

/-- The address of a place's slot (R206; log entry 18): in the Canopy for a staged copy and for a CANOPY object, else in
DDR5. -/
def State.slotAddress (s : State) (l : TileLoc) : Nat :=
  let inDdr (k u i : Nat) := ddrBase + 4096 * (Config.slotIndex k u i % max 1 (s.ddrUsable / 4096))
  let inCanopy (k u i : Nat) := canopyBase + 4096 * (Config.slotIndex k u i % 8192)
  match l with
  | .home k i => if (s.obj k).place = 2 then inCanopy 2 k i else inDdr 0 k i
  | .copy k i => inCanopy 1 k i
  | .pool f t => inDdr 3 f t

/-- The sealing key of an object's owner, if the object is sealed and the key is loaded. -/
def State.sealKey (s : State) (o : Obj) : Option Nat := if o.owner < 128 then tfind s.sec.sealKeys o.owner else Option.none

/-- The form in which a place's payload is stored. -/
def State.tileForm (s : State) (l : TileLoc) : TileForm :=
  match l with
  | .home k i =>
    let o := s.obj k
    { position := s.tilePos (.home k i), pool := false, compress := o.compress, width := o.width,
      key := if o.sealed then s.sealKey o else Option.none, tweak := s.slotAddress (.home k i) / 4096 }
  | .copy k i =>
    let o := s.obj k
    { position := s.tilePos (.copy k i), pool := false, compress := o.compress, width := o.width, key := Option.none, tweak := 0 }
  | .pool f t =>
    { position := s.tilePos (.pool f t), pool := true, compress := false, width := 0, key := Option.none, tweak := 0 }

/-- Whether a place is of a sealed object. -/
def State.tileIsSealed (s : State) : TileLoc → Bool
  | .home k _ => (s.obj k).sealed
  | _ => false

/-- The stored bytes that a tile moves: its header line and the lines of its slot in use (R210). -/
def StoredTile.moved (t : StoredTile) : Nat := 64 + ceilDiv (tileStored t.header) 64 * 64

/-- The DMA's byte counts grow by a tile of `payload` bytes used and `stored` bytes moved (Table 11.14). -/
def State.countBytes (s : State) (payload stored : Nat) : State :=
  if s.blockLive 6 then (s.incR64 Reg.DMA_PAYLOAD_LO payload).incR64 Reg.DMA_STORED_LO stored else s

/-- Erroneous symbols met in a stored tile: corrections are counted; from three on the tile becomes uncorrectable, or its
slot's first byte is miscorrected to a free value (R245, R247, R250). -/
def State.meetTileErrors (s : State) (l : TileLoc) (symbols : Nat) : State :=
  let a := s.slotAddress l
  let t := (s.tileAt l).getD (zeroTile (s.tilePos l) (match l with | .pool _ _ => true | _ => false))
  match s.lineOutcome a symbols with
  | .clean => s
  | .corrected => s.corrected a
  | .uncorrectable => s.tickFresh.putTile l { t with bad := true }
  | .miscorrected => s.tickFresh.putTile l { t with slot := BitVec.ofNat 8 (s.freeVal 6) :: t.slot.drop 1 }

/-- A tile read and decoded (R209, R211, R226, R248): its payload, or the code of Table 11.10. -/
def State.readTile (s : State) (l : TileLoc) (symbols : Nat) : State × Except Nat (List Byte) :=
  let s := s.meetTileErrors l symbols
  match s.tileAt l with
  | Option.none =>
    if s.tileIsSealed l && (s.tileForm l).key.isNone then (s, .error 0x06)
    else (s.countBytes 0 64, .ok (List.replicate tileBytes 0))
  | some t =>
    let s := s.countBytes 0 t.moved
    if t.bad then (s.uncorrectable (s.slotAddress l) 0, .error 0x09)
    else (s, decodeTile t (s.tilePos l) (s.tileForm l).key (s.slotAddress l / 4096))

/-- A whole tile stored (R211); without the key of a sealed object it fails with KEY_ABSENT (R226). -/
def State.writeTile (s : State) (l : TileLoc) (p : List Byte) : State × Option Nat :=
  if s.tileIsSealed l && (s.tileForm l).key.isNone then (s, some 0x06)
  else
    let t := encodeTile (s.tileForm l) p
    ((s.putTile l t).countBytes 0 t.moved, Option.none)

/-- `bs` put over a payload from offset `o`. -/
def overlay (p : List Byte) (o : Nat) (bs : List Byte) : List Byte := p.take o ++ bs ++ p.drop (o + bs.length)

/-- Part of a tile stored: read, merged and stored whole (R211). -/
def State.mergeTile (s : State) (l : TileLoc) (o : Nat) (bs : List Byte) (symbols : Nat) : State × Option Nat :=
  if o = 0 ∧ bs.length = tileBytes then s.writeTile l bs
  else match s.readTile l symbols with
    | (s, .error e) => (s, some e)
    | (s, .ok p) => s.writeTile l (overlay p o bs)

/-! ### Quotas (R220 to R222) -/

def Plan.cnpOpen (p : Plan) : Nat := fld (u32 p.quota 0x60) 0 16
def Plan.ddrOpen (p : Plan) : Nat := fld (u32 p.quota 0x64) 0 24
def Plan.quotaCount (p : Plan) : Nat := fld (u32 p.quota 0x68) 0 8
def Plan.ageTicks (p : Plan) : Nat := u32 p.quota 0x6C

/-- A tenant quota record (Table 11.7). -/
structure QuotaRec where
  cnpGuar : Nat := 0
  cnpCeil : Nat := 0
  ddrGuar : Nat := 0
  ddrCeil : Nat := 0
  deriving DecidableEq, Repr

/-- The context of quota record `i`. -/
def Plan.quotaCtx (p : Plan) (i : Nat) : Nat := fld (u32 p.quota (0x80 + 16 * i)) 0 7
/-- The quota record of owner `o`; zeros without one (R221). -/
def Plan.quotaOf (p : Plan) (o : Nat) : QuotaRec :=
  match (List.range p.quotaCount).find? (fun i => p.quotaCtx i == o) with
  | some i =>
    let a := 0x80 + 16 * i
    { cnpGuar := u16 p.quota (a + 4), cnpCeil := u16 p.quota (a + 6), ddrGuar := fld (u32 p.quota (a + 8)) 0 24,
      ddrCeil := fld (u32 p.quota (a + 12)) 0 24 }
  | Option.none => {}

/-- Canopy tiles an open object holds: its own or its staged copy's (R222). -/
def Obj.cnpTiles (o : Obj) : Nat := if o.standing then 0 else if o.place ≠ 0 ∨ (o.state = .moving ∧ o.target ≠ 0) then o.tiles else 0
/-- Canopy tiles of an object placed CANOPY, or moving there. -/
def Obj.canopyOnly (o : Obj) : Nat := if o.standing then 0 else if o.place = 2 ∨ (o.state = .moving ∧ o.target = 2) then o.tiles else 0
/-- Home tiles of an object in the open DDR5 pool. -/
def Obj.ddrTiles (o : Obj) : Nat := if o.standing then 0 else if o.place ≠ 2 ∨ (o.state = .moving ∧ o.target ≠ 2) then o.tiles else 0

/-- The sum of a measure over an owner's objects. -/
def State.objSum (s : State) (o : Nat) (f : Obj → Nat) : Nat :=
  (s.tiers.objs.map (fun e => if e.2.owner = o then f e.2 else 0)).sum
/-- Canopy usage of an owner (R222). -/
def State.cnpUsed (s : State) (o : Nat) : Nat := s.objSum o Obj.cnpTiles
/-- Free tiles of the open Canopy pool. -/
def State.cnpFree (s : State) : Nat := s.thePlan.cnpOpen - (s.tiers.objs.map (fun e => e.2.cnpTiles)).sum
/-- Tiles of a context's swap image (R219). -/
def Ctx.imageTiles (c : Ctx) : Nat := if c.state = .free ∨ c.state = .stopped then 0 else c.sramKib / 4
/-- Tiles of the open DDR5 pool that an owner uses: object homes and its swap image. -/
def State.poolUsed (s : State) (o : Nat) : Nat := s.objSum o Obj.ddrTiles + (s.ctx o).imageTiles
/-- Frames an owner holds (R170). -/
def State.framesOf (s : State) (o : Nat) : Nat := (s.pages.used.filter (fun e => e.2.owner == o && !e.2.feature)).length
/-- DDR5 usage of an owner (R222). -/
def State.ddrUsed (s : State) (o : Nat) : Nat := s.poolUsed o + s.pages.pageTiles * s.framesOf o
/-- Tiles of the unguaranteed part of the open DDR5 pool in use: what owners hold beyond their guarantees. -/
def State.ddrBorrowed (s : State) : Nat :=
  ((List.range 128).map (fun o => s.poolUsed o - (s.thePlan.quotaOf o).ddrGuar)).sum
/-- Guarantees summed over the quota records. -/
def Plan.ddrGuarSum (p : Plan) : Nat := ((List.range p.quotaCount).map (fun i => (p.quotaOf (p.quotaCtx i)).ddrGuar)).sum
/-- Free tiles of the open DDR5 pool. -/
def State.ddrPoolFree (s : State) : Nat := s.thePlan.ddrOpen - ((List.range 128).map s.poolUsed).sum

/-- Whether owner `o` may take `n` more home or image tiles (R222). -/
def State.ddrFits (s : State) (o n : Nat) : Bool :=
  let q := s.thePlan.quotaOf o
  let more := (s.poolUsed o + n - q.ddrGuar) - (s.poolUsed o - q.ddrGuar)
  decide (s.ddrUsed o + n ≤ q.ddrCeil)
    && decide (s.ddrBorrowed + more ≤ s.thePlan.ddrOpen - s.thePlan.ddrGuarSum)

/-- Whether owner `o` may own `n` more frames (R170, R222). -/
def State.framesFit (s : State) (o n : Nat) : Bool :=
  if o = 0xFE then decide (s.framesOf o + n ≤ s.pages.publicMax)
  else decide (s.ddrUsed o + n * s.pages.pageTiles ≤ (s.thePlan.quotaOf o).ddrCeil)

/-- Canopy tiles that owners hold above their guarantees (Table 11.16, CNP_BORROWED). -/
def State.cnpBorrowed (s : State) : Nat :=
  ((List.range 128).map (fun o => s.cnpUsed o - (s.thePlan.quotaOf o).cnpGuar)).sum

end Sys2Proof.Machine
end

