-- ==== Sys2Proof/Machine/Pages.lean ====
section
/-! DEFINITION. The page pool: frames, lists and the operations on them (R165 to R171, R176, R178, R407). -/
namespace Sys2Proof.Machine
open Sys2Proof

/-- Frames on the free list. -/
def State.freeFrames (s : State) : Nat := s.pages.frames - s.pages.used.length
/-- Frames with REFCOUNT above 1 or PUBLIC (Table 8.10). -/
def State.sharedFrames (s : State) : Nat := (s.pages.used.filter (fun e => decide (1 < e.2.refs) || e.2.pub)).length

/-- The free frame number `k` in rising order, `used` listing the frames in use in rising order. -/
def kthFree : Tbl Frame → Nat → Nat
  | [], k => k
  | (u, _) :: t, k => if u ≤ k then kthFree t (k + 1) else k

/-- A frame leaves the free list for an entry of owner `o` (R169, R174): which free frame is open (log entry 19). -/
def State.takeFrame (s : State) (o : Nat) : State × Nat :=
  let f := kthFree s.pages.used (s.freeVal 7 % max 1 s.freeFrames)
  ({ s.tickFresh with pages.used := tput s.pages.used f { refs := 1, owner := o } }, f)

/-- `n` frames taken one after another. -/
def State.takeFrames (s : State) (o : Nat) : Nat → State × List Nat
  | 0 => (s, [])
  | n + 1 =>
    let (s, f) := s.takeFrame o
    let (s, fs) := s.takeFrames o n
    (s, f :: fs)

/-- Page-table units of 1,024 entries in use (R166). -/
def State.ptUsed (s : State) : Nat := (s.pages.lists.map (fun e => ceilDiv e.2.capacity 1024)).sum

/-- Whether list `l` is attached to an entry of the active sequence table (R195). -/
def State.attached (s : State) (l : Nat) : Bool := s.seqt.entries.any (fun e => e.2.list == l)

/-- The lowest list ID not in use. -/
def State.freeListId (s : State) : Option Nat := (List.range 1024).find? (fun l => !s.hasList l)

/-- The outcome of a list operation: the state, the code of Table 8.8 and RESULT. -/
structure OpResult where
  state : State
  err : Nat
  result : Nat

def opFail (s : State) (err : Nat) : OpResult := { state := s, err := err, result := 0 }
def opOk (s : State) (result : Nat) : OpResult := { state := s, err := 0, result := result }

/-- LIST_NEW (R166, R169): an empty list of an owner and capacity. -/
def State.listNew (s : State) (owner capacity : Nat) : OpResult :=
  if 256 ≤ owner ∨ capacity = 0 ∨ 1048576 < capacity then opFail s 0x01
  else if !(decide (owner < 128) && decide ((s.ctx owner).state ≠ .free)) && owner != 0xFE then opFail s 0x03
  else match s.freeListId with
    | Option.none => opFail s 0x04
    | some l =>
      if s.pages.ptUnits < s.ptUsed + ceilDiv capacity 1024 then opFail s 0x05
      else opOk { s with pages.lists := tput s.pages.lists l { owner := owner, capacity := capacity } } l

/-- LIST_FREE (R169, R170). -/
def State.listFree (s : State) (l : Nat) : OpResult :=
  if !s.hasList l then opFail s 0x02
  else if (s.plist l).feature then opFail s 0x03
  else opOk (s.dropList l) 0

/-- APPEND (R169, R170): `n` entries that name free frames. -/
def State.listAppend (s : State) (l n : Nat) : OpResult :=
  let x := s.plist l
  if n = 0 ∨ 4096 < n then opFail s 0x01
  else if !s.hasList l then opFail s 0x02
  else if x.feature then opFail s 0x03
  else if x.capacity < x.entries.length + n then opFail s 0x06
  else if s.freeFrames < n ∨ s.framesFit x.owner n = false then opFail s 0x07
  else if x.published then opFail s 0x09
  else
    let (s, fs) := s.takeFrames x.owner n
    opOk (s.modList l (fun y => { y with entries := y.entries ++ fs })) (x.entries.length + n)

/-- TRUNCATE (R169, R170): entries from the new length onward dropped. -/
def State.listTruncate (s : State) (l n : Nat) : OpResult :=
  let x := s.plist l
  if !s.hasList l then opFail s 0x02
  else if x.feature then opFail s 0x03
  else if x.entries.length < n then opFail s 0x06
  else if x.published then opFail s 0x09
  else
    let s := s.modList l (fun y => { y with entries := y.entries.take n })
    opOk ((x.entries.drop n).foldl State.dropFrame s) n

/-- FORK (R169, R170): the first `n` entries of list `src` copied into empty list `l`. -/
def State.listFork (s : State) (l src n : Nat) : OpResult :=
  let x := s.plist l
  let y := s.plist src
  let fs := y.entries.take n
  if 1024 ≤ src then opFail s 0x01
  else if !s.hasList l || !s.hasList src then opFail s 0x02
  else if x.feature || y.feature then opFail s 0x03
  else if x.capacity < n then opFail s 0x06
  else if !x.entries.isEmpty || decide (y.entries.length < n) || !(y.published || x.owner == y.owner) then opFail s 0x08
  else if x.published then opFail s 0x09
  else if fs.any (fun f => decide (65535 < (s.frame f).refs + fs.count f)) then opFail s 0x0A
  else
    let s := fs.foldl (fun t f => t.modFrame f (fun z => { z with refs := z.refs + 1 })) s
    opOk (s.modList l (fun z => { z with entries := fs })) n

/-- PUBLISH (R169, R170): the list published and every frame it names PUBLIC. -/
def State.listPublish (s : State) (l : Nat) : OpResult :=
  let x := s.plist l
  if !s.hasList l then opFail s 0x02
  else if x.feature then opFail s 0x03
  else if x.published || x.owner != 0xFE then opFail s 0x09
  else
    let s := x.entries.foldl (fun t f => t.modFrame f (fun z => { z with pub := true })) s
    opOk (s.modList l (fun z => { z with published := true })) x.entries.length

/-- How many valid entries, over all lists, name frame `f` (R168). -/
def State.namings (s : State) (f : Nat) : Nat := (s.pages.lists.map (fun e => e.2.entries.count f)).sum

/-- AUDIT (R168, R169): the frames found in breach. A frame that no entry of `used` holds is on the free list with REFCOUNT 0. -/
def State.auditBreaches (s : State) : Nat :=
  let inUse := (s.pages.used.filter (fun e => e.2.refs != s.namings e.1 || (e.2.refs == 0 && !e.2.draining))).length
  let named := ((s.pages.lists.flatMap (fun e => e.2.entries)).filter (fun f => !thas s.pages.used f)).eraseDups.length
  inUse + named

/-- A list operation by its code (Table 8.7); `fromPort` is the table's own port, which alone may name an attached list. -/
def State.listOp (s : State) (op l arg0 arg1 : Nat) : OpResult :=
  let named := if op = 5 then s.attached l || s.attached (arg0 % 1024) else decide (2 ≤ op) && decide (op ≤ 6) && s.attached l
  if op = 0 ∨ 7 < op then opFail s 0x01
  else if named then opFail s 0x03
  else match op with
    | 1 => s.listNew arg0 arg1
    | 2 => s.listFree l
    | 3 => s.listAppend l arg0
    | 4 => s.listTruncate l arg0
    | 5 => s.listFork l arg0 arg1
    | 6 => s.listPublish l
    | _ => opOk s s.auditBreaches

/-- An operation's completion is shown (Tables 8.10, 8.11 and 8.13). -/
def State.showPageOp (op : Nat) (r : OpResult) : State :=
  let s := r.state.put Reg.PAGE_OP_STATUS r.err
  let s := if r.err = 0 then s.put Reg.PAGE_OP_RESULT r.result else s
  let s := s.evt Reg.PAGE_EVT 0
  if op = 7 ∧ r.err = 0 ∧ r.result ≠ 0 then s.evt Reg.PAGE_EVT 4 else s

/-- A write of PAGE_OP (R178): the operation runs with PAGE_OP_ARG0 and PAGE_OP_ARG1, one at a time and whole (R169). -/
def State.pageOp (s : State) (v : Nat) : State :=
  let s := s.storeReg false Reg.PAGE_OP v
  State.showPageOp (fld v 0 4) (s.listOp (fld v 0 4) (fld v 16 10) (s.rn Reg.PAGE_OP_ARG0) (s.rn Reg.PAGE_OP_ARG1))

/-- PAGE_OP written with the operation that a row of the command table names. -/
def State.pageRow (s : State) (init : Initiator) (op : Nat) (v : Word) : State :=
  s.viaWrite init Reg.PAGE_OP false (fun s => s.pageOp (setFld v.toNat 0 4 op))

/-- LIST_NEW (R169). -/
def execListNew (init : Initiator) (value : Word) (s : State) : Host.Outcome State Fault Refusal := .next (s.pageRow init 1 value)
/-- LIST_FREE (R169). -/
def execListFree (init : Initiator) (value : Word) (s : State) : Host.Outcome State Fault Refusal := .next (s.pageRow init 2 value)
/-- APPEND (R169). -/
def execListAppend (init : Initiator) (value : Word) (s : State) : Host.Outcome State Fault Refusal :=
  .next (s.pageRow init 3 value)
/-- TRUNCATE (R169). -/
def execListTruncate (init : Initiator) (value : Word) (s : State) : Host.Outcome State Fault Refusal :=
  .next (s.pageRow init 4 value)
/-- FORK (R170). -/
def execListFork (init : Initiator) (value : Word) (s : State) : Host.Outcome State Fault Refusal := .next (s.pageRow init 5 value)
/-- PUBLISH (R170). -/
def execListPublish (init : Initiator) (value : Word) (s : State) : Host.Outcome State Fault Refusal :=
  .next (s.pageRow init 6 value)
/-- AUDIT (R169). -/
def execPoolAudit (init : Initiator) (value : Word) (s : State) : Host.Outcome State Fault Refusal := .next (s.pageRow init 7 value)

/-- FRAME_DRAIN_END (R168): the last transfer that translated through a draining frame has ended. -/
def execFrameDrainEnd (frame : Nat) (s : State) : Host.Outcome State Fault Refusal :=
  .next (if thas s.pages.used frame && (s.frame frame).draining && !s.frameInFlight frame then s.releaseFrame frame else s)

end Sys2Proof.Machine
end

