-- ==== Sys2Proof/Machine/DmaDesc.lean ====
section
/-! DEFINITION. DMA descriptors, transfers in flight, and what waits for them (R86, R87, R105, R227, R228). -/
namespace Sys2Proof.Machine
open Sys2Proof

/-! ### Descriptors (Tables 11.8 and 11.9) -/

/-- A DMA descriptor: its fields, LEN in units of 128 bytes. -/
structure Desc where
  srcKind : Nat
  dstKind : Nat
  mark : Nat
  len : Nat
  step : Nat
  srcA : Nat
  srcB : Nat
  dstA : Nat
  dstB : Nat
  group : Nat
  deriving DecidableEq, Repr

/-- The descriptor that 32 bytes spell. -/
def descOf (b : List Byte) : Desc :=
  let w0 := u32 b 0
  { srcKind := fld w0 0 4, dstKind := fld w0 4 4, mark := fld w0 8 2, len := fld w0 16 14, step := u32 b 4,
    srcA := u32 b 8, srcB := u32 b 12, dstA := u32 b 16, dstB := u32 b 20, group := fld (u32 b 24) 0 4 }

/-- Reserved bits outside the endpoints are zero (Table 11.8). -/
def descReserved (b : List Byte) : Bool :=
  fld (u32 b 0) 10 6 == 0 && fld (u32 b 0) 30 2 == 0 && fld (u32 b 24) 4 28 == 0 && u32 b 28 == 0

/-- Whether an endpoint's words use only the bits of its kind (Table 11.9). -/
def endpointClean (kind a b : Nat) : Bool :=
  match kind with
  | 0 => fld a 0 7 == 0 && fld a 21 11 == 0 && b == 0
  | 1 => fld a 4 28 == 0 && b == 0
  | 2 => fld a 12 20 == 0
  | 3 => fld a 10 2 == 0 && fld a 15 1 == 0 && fld b 20 12 == 0
  | 4 => fld a 8 24 == 0
  | 5 => fld a 0 7 == 0 && fld a 20 12 == 0 && b == 0
  | 6 => fld a 8 24 == 0
  | 7 => fld a 8 24 == 0
  | 0xF => a == 0 && b == 0
  | _ => false

/-- The step-completion and carry marks (Table 11.8). -/
def Desc.isStep (d : Desc) : Bool := d.mark == 2
def Desc.isCarry (d : Desc) : Bool := d.mark == 1
/-- Whether the transfer writes its remote endpoint. -/
def Desc.isStore (d : Desc) : Bool := d.srcKind == 0
/-- The remote endpoint: its kind and words; the end that is not Grove SRAM or the Skid. -/
def Desc.remote (d : Desc) : Nat × Nat × Nat := if d.isStore then (d.dstKind, d.dstA, d.dstB) else (d.srcKind, d.srcA, d.srcB)
/-- The object that the transfer names. -/
def Desc.object (d : Desc) : Option Nat := if d.remote.1 = 2 then some (fld d.remote.2.1 0 12) else Option.none
/-- The Grove SRAM offset of the local endpoint. -/
def Desc.gsram (d : Desc) : Nat := fld (if d.isStore then d.srcA else d.dstA) 0 21
/-- Bytes of the transfer. -/
def Desc.bytes (d : Desc) : Nat := d.len * 128
/-- A carry transfer that brings a record back (R228). -/
def Desc.isRestore (d : Desc) : Bool := d.isCarry && !d.isStore

/-! ### Transfers in flight -/

def xferDefault : Transfer := { owner := .stream 0, grove := 0, xid := 0, desc := [], tag := 0 }
/-- Transfer `t`. -/
def State.xfer (s : State) (t : Nat) : Transfer := tget xferDefault s.dma.xfers t
/-- Transfer `t` changed by `f`. -/
def State.modXfer (s : State) (t : Nat) (f : Transfer → Transfer) : State :=
  { s with dma.xfers := tmod xferDefault s.dma.xfers t f }
/-- The reset domain of an owner. -/
def Owner.domain : Owner → Nat
  | .stream _ => 2
  | .ctx _ => 3
/-- The owner code of Table 8.5. -/
def Owner.code : Owner → Nat
  | .stream i => 0x80 + i
  | .ctx c => c
/-- The stream and the context of an owner. -/
def Owner.parts : Owner → Option Nat × Option Nat
  | .ctx c => (some c, Option.none)
  | .stream i => (Option.none, some i)
/-- Whether the transfer's tag is no longer its domain's (R28, R230). -/
def State.stale (s : State) (x : Transfer) : Bool := x.tag != (s.dom x.owner.domain).tag
/-- Whether an owner has a transfer in flight under an identifier. -/
def State.xidBusy (s : State) (o : Owner) (xid : Nat) : Bool := s.dma.xfers.any (fun t => t.2.owner == o && t.2.xid == xid)
/-- Whether a transfer in flight names object `k`. -/
def State.objBusy (s : State) (k : Nat) : Bool := s.dma.xfers.any (fun t => (descOf t.2.desc).object == some k)
/-- Whether a transfer in flight fills an owner's virtual slot on Grove `g`. -/
def State.slotFilling (s : State) (g : Nat) (o : Owner) (v : Nat) : Bool :=
  s.dma.xfers.any (fun t => t.2.grove == g && t.2.owner == o && t.2.slots.any (fun p => p.1 == v))
/-- A restore in flight to the carry record at a Grove SRAM offset of an owner on Grove `g` (R187). -/
def State.restoreTo (s : State) (g : Nat) (o : Owner) (off : Nat) : Option Transfer :=
  (s.dma.xfers.find? (fun t => t.2.grove == g && t.2.owner == o && (descOf t.2.desc).isRestore
    && (descOf t.2.desc).gsram == off)).map (·.2)

/-! ### Waits of contexts (R86, R87, R105, R216)

`waitMask` names what a BLOCKED context waits for: bits 0 to 15 its transfers, bits 16 to 31 its virtual slots, bit 32 any
completion on its Grove, bit 33 an object that moves. -/

/-- Whether the context's wait is over. -/
def State.waitOver (s : State) (c : Nat) : Bool :=
  let k := s.ctx c
  let m := k.waitMask
  (bitsOf 16 m).all (fun x => !s.xidBusy (.ctx c) x)
    && (bitsOf 16 (m / 65536)).all (fun v => !(List.range 16).any (fun g => s.slotFilling g (.ctx c) v))
    && !bitOf m 32
    && (!bitOf m 33 || !s.dma.xfers.any (fun t => t.2.owner == .ctx c && t.2.wait == .moving))

/-- Whether a context waits for transfers. -/
def Ctx.waitsForTransfer (k : Ctx) : Bool :=
  (decide (k.state = .blocked) || decide (k.state = .swappedBlocked)) && (k.cause == 1 || k.cause == 4) && k.waitMask != 0

/-- A context is looked at again after a transfer of it ended or an object moved. -/
def State.checkWait (s : State) (c : Nat) : State :=
  if (s.ctx c).waitsForTransfer && s.waitOver c then s.wakeCtx c else s

/-- The contexts that wait for any completion on Grove `g` are looked at again (R87). -/
def State.wakeOnGrove (s : State) (g : Nat) : State :=
  forRange 128 s (fun s c =>
    let k := s.ctx c
    if k.grove = g ∧ k.waitsForTransfer = true ∧ bitOf k.waitMask 32 = true then
      (s.modCtx c (fun k => { k with waitMask := setFld k.waitMask 32 1 0 })).checkWait c
    else s)

/-- A context blocks on transfers (R86, R87, R105): CAUSE 0x4 when one that it names waits for a frame (Table 8.9). -/
def State.blockFor (s : State) (c mask : Nat) : State :=
  let quota := (bitsOf 16 mask).any (fun x => s.dma.xfers.any (fun t => t.2.owner == .ctx c && t.2.xid == x && t.2.wait == .frames))
  (s.blockCtx c (if quota then 4 else 1)).modCtx c (fun k => { k with waitMask := mask })

end Sys2Proof.Machine
end

