-- ==== Sys2Proof/Machine/Objects.lean ====
section
/-! DEFINITION. Objects: creation, placement, staged copies, eviction and quotas (R212 to R224, R234). -/
namespace Sys2Proof.Machine
open Sys2Proof

/-! ### Write-back and eviction (R218, R223, R224) -/

/-- The dirty tiles of a staged copy stored into the home, their marks cleared (R218). -/
def Obj.writeBack (o : Obj) : Obj :=
  { o with home := o.dirty.foldl (fun h i => match tfind o.copy i with | some t => tput h i t | Option.none => tdel h i) o.home,
           dirty := [] }

/-- Stored bytes of some tiles of a table, absent ones being zero tiles. -/
def storedBytes (t : Tbl StoredTile) (n : Nat) : Nat := (t.map (fun e => e.2.moved)).sum + (n - t.length) * 64

/-- A staged copy evicted: written back, dropped, and the object placed DDR (R223). -/
def State.evictCopy (s : State) (k : Nat) : State :=
  let n := (s.obj k).dirty.length
  let s := s.countBytes (n * 4096) (((s.obj k).dirty.map (fun i => match tfind (s.obj k).copy i with | some t => t.moved | Option.none => 64)).sum)
  let s := s.modObj k (fun o => { o.writeBack with copy := [], place := 0 })
  let s := (s.evt Reg.TIER_EVT 3).count Reg.TIER_EVICTIONS 1
  s.report 0x0403 0x07 [k, n] (if (s.obj k).owner < 128 then some (s.obj k).owner else Option.none)

/-- How long ago an object was used, in ticks modulo 2³². -/
def State.objAge (s : State) (o : Obj) : Nat := (s.rn Reg.TICK_COUNT_LO + 2 ^ 32 - o.lastUse) % 2 ^ 32

/-- Of two candidates the one to evict first: the older, then the higher ID (R223). -/
def State.olderOf (s : State) (a b : Nat) : Nat :=
  let x := s.objAge (s.obj a)
  let y := s.objAge (s.obj b)
  if x < y ∨ (x = y ∧ a < b) then b else a

/-- The staged copy to evict among those that satisfy `ok`, READY and with no transfer in flight (R223). -/
def State.victimCopy (s : State) (ok : Obj → Bool) : Option Nat :=
  let cs := (s.tiers.objs.filter (fun e => e.2.place == 1 && decide (e.2.state = .ready) && !e.2.standing
    && !s.objBusy e.1 && ok e.2)).map (·.1)
  match cs with
  | [] => Option.none
  | c :: cs => some (cs.foldl s.olderOf c)

/-- The outcome of looking for Canopy tiles (R223). -/
inductive Room where
  | ok (s : State)
  | wait (s : State)
  | fail

/-- `n` free tiles made in the open Canopy pool for owner `o` (R223); `fuel` bounds the victims. -/
def State.makeRoom (o n : Nat) (within : Bool) : Nat → State → Room
  | fuel, s =>
    if n ≤ s.cnpFree then .ok s
    else match s.victimCopy (fun v =>
        if within then decide ((s.thePlan.quotaOf v.owner).cnpGuar < s.cnpUsed v.owner) else v.owner == o) with
      | Option.none => if within then .wait s else .fail
      | some v =>
        match fuel with
        | 0 => .fail
        | fuel + 1 => State.makeRoom o n within fuel (s.evictCopy v)

/-- Canopy tiles for owner `o` (R223). -/
def State.room (s : State) (o n : Nat) : Room :=
  State.makeRoom o n (decide (s.cnpUsed o + n ≤ (s.thePlan.quotaOf o).cnpGuar)) s.tiers.objs.length s

/-! ### Operations (R214 to R216) -/

/-- The outcome of an object operation: done, or to be tried again when a copy becomes eligible (R223). -/
inductive ObjOutcome where
  | done (r : OpResult)
  | wait (s : State)

/-- The state an operation leaves. -/
def ObjOutcome.state : ObjOutcome → State
  | .done r => r.state
  | .wait s => s

/-- The lowest FREE open object ID (R212). -/
def State.freeObjId (s : State) : Option Nat := (List.range 3840).find? (fun k => !s.hasObj k)

/-- Where the kernel lays a HOST object's data area (R233; log entry 18). -/
def State.hostArea (s : State) (k : Nat) : Nat :=
  ddrBase + 4096 * (Config.slotIndex 4 k 0 % max 1 (s.ddrUsable / 4096))

/-- The object that OBJ_NEW's operands describe (Table 11.4). -/
def newObj (arg0 tiles : Nat) : Obj :=
  { owner := fld arg0 0 8, place := fld arg0 8 2, compress := bitOf arg0 12, sealed := bitOf arg0 13, host := bitOf arg0 14,
    width := fld arg0 16 2, tiles := tiles }

/-- The flag rules of R215. -/
def Obj.flagsOk (o : Obj) : Bool :=
  (!o.host || (o.place == 0 && !o.compress && !o.sealed)) && (!o.sealed || (o.place == 0 && !o.compress))
    && decide (1 ≤ o.tiles) && decide (o.tiles ≤ 1048576)

/-- Whether the Canopy limits of R222 let owner `o` hold `more` further Canopy tiles and `only` further tiles placed CANOPY. -/
def State.cnpFits (s : State) (o more only : Nat) : Bool :=
  let q := s.thePlan.quotaOf o
  decide (s.cnpUsed o + more ≤ q.cnpCeil) && decide (s.objSum o Obj.canopyOnly + only ≤ q.cnpGuar)

/-- Object `k` created; one in host memory begins as zeros. -/
def State.makeObj (s : State) (k : Nat) (o : Obj) (tiles : Nat) : State :=
  let o := { o with hostBase := if o.host then s.hostArea k else 0 }
  let s := { s with tiers.objs := tput s.tiers.objs k o }
  if o.host then s.zeroMem o.hostBase (tiles * 4096) else s

/-- Object `k` begins to move to place `p`. -/
def State.startMove (s : State) (k p : Nat) : State := s.modObj k (fun o => { o with state := .moving, target := p })

/-- OBJ_NEW (R214, R215). -/
def State.objNew (s : State) (arg0 tiles : Nat) : ObjOutcome :=
  let o := newObj arg0 tiles
  if fld arg0 10 2 ≠ 0 ∨ bitOf arg0 15 = true ∨ fld arg0 18 14 ≠ 0 ∨ o.place = 3 ∨ o.width = 3 then .done (opFail s 0x01)
  else if 128 ≤ o.owner ∨ (s.ctx o.owner).state = .free then .done (opFail s 0x03)
  else match s.freeObjId with
    | Option.none => .done (opFail s 0x04)
    | some k =>
      if !o.flagsOk then .done (opFail s 0x05)
      else if (o.place ≠ 2 ∧ s.ddrFits o.owner tiles = false)
          ∨ (o.place ≠ 0 ∧ s.cnpFits o.owner tiles (if o.place = 2 then tiles else 0) = false) then .done (opFail s 0x06)
      else if o.sealed ∧ (s.sealKey o).isNone then .done (opFail s 0x09)
      else
        if o.place = 0 then .done (opOk (s.makeObj k o tiles) k)
        else match s.room o.owner tiles with
          | .ok s => .done (opOk (s.makeObj k o tiles) k)
          | .wait s => .wait s
          | .fail => .done (opFail s 0x06)

/-- The checks that OBJ_FREE, OBJ_PLACE and OBJ_FLUSH share (Table 11.5); `flags` is their own check of R215. -/
def State.objChecks (s : State) (k : Nat) (flags : Bool) : Option Nat :=
  if !s.hasObj k then some 0x02
  else if !flags then some 0x05
  else if (s.obj k).state ≠ .ready then some 0x07
  else if (s.obj k).standing then some 0x08
  else Option.none

/-- Every window over object `k` revoked (R396). -/
def State.revokeObject (s : State) (k : Nat) : State :=
  forRange 256 s (fun s w =>
    let e := s.rn (Reg.SEC_WIN w 0)
    if bitOf e 0 && bitOf e 7 && fld e 16 12 == k then s.setReg (Reg.SEC_WIN w 0) 0 else s)

/-- OBJ_FREE (R214, R216, R396): the object becomes FREE, or drains while a transfer is in flight. -/
def State.objFree (s : State) (k : Nat) : ObjOutcome :=
  match s.objChecks k true with
  | some e => .done (opFail s e)
  | Option.none =>
    let s := s.revokeObject k
    if s.objBusy k then .done (opOk (s.modObj k (fun o => { o with state := .draining })) 0)
    else .done (opOk { s with tiers.objs := tdel s.tiers.objs k } 0)

/-- OBJ_PLACE (R214 to R216): the object is MOVING from here on. -/
def State.objPlace (s : State) (k arg0 : Nat) : ObjOutcome :=
  let o := s.obj k
  let p := fld arg0 8 2
  if fld arg0 0 8 ≠ 0 ∨ fld arg0 10 22 ≠ 0 ∨ p = 3 then .done (opFail s 0x01)
  else match s.objChecks k (!((o.host || o.sealed) && p != 0)) with
    | some e => .done (opFail s e)
    | Option.none =>
      let more := if o.place = 0 ∧ p ≠ 0 then o.tiles else 0
      let only := if o.place ≠ 2 ∧ p = 2 then o.tiles else 0
      if (o.place = 2 ∧ p ≠ 2 ∧ s.ddrFits o.owner o.tiles = false) ∨ (p ≠ 0 ∧ s.cnpFits o.owner more only = false) then
        .done (opFail s 0x06)
      else
        if more = 0 then .done (opOk (s.startMove k p) 0)
        else match s.room o.owner more with
          | .ok s => .done (opOk (s.startMove k p) 0)
          | .wait s => .wait s
          | .fail => .done (opFail s 0x06)

/-- OBJ_FLUSH (R214, R215): an object that is not STAGED returns 0 and changes nothing. -/
def State.objFlush (s : State) (k : Nat) : ObjOutcome :=
  match s.objChecks k true with
  | some e => .done (opFail s e)
  | Option.none =>
    if (s.obj k).place = 1 then
      .done (opOk (s.modObj k (fun o => { o with state := .moving, target := 1 })) (s.obj k).dirty.length)
    else .done (opOk s 0)

/-- An object operation by its code (Table 11.4). -/
def State.objOp (s : State) (op k arg0 arg1 : Nat) : ObjOutcome :=
  match op with
  | 1 => s.objNew arg0 arg1
  | 2 => s.objFree k
  | 3 => s.objPlace k arg0
  | 4 => s.objFlush k
  | _ => .done (opFail s 0x01)

/-- An operation's outcome is shown (Table 11.12): completed, or BUSY while it waits for Canopy tiles. -/
def State.showObjOp (s : State) (q : Nat × Nat × Nat × Nat) : ObjOutcome → State
  | .done r =>
    let t := { r.state with tiers.waiting := Option.none }
    let t := t.put Reg.TIER_OBJ_STATUS r.err
    let t := if r.err = 0 then t.put Reg.TIER_OBJ_RESULT r.result else t
    t.evt Reg.TIER_EVT 0
  | .wait t => ({ t with tiers.waiting := some q }).put Reg.TIER_OBJ_STATUS (2 ^ 31 + fld (s.rn Reg.TIER_OBJ_STATUS) 0 8)

/-- A write of TIER_OBJ_OP (R214, R234): no effect but TIER_EVT.OP_BUSY while BUSY. -/
def State.tierOp (s : State) (v : Nat) : State :=
  if s.tiers.waiting.isSome then s.evt Reg.TIER_EVT 1
  else
    let s := s.storeReg false Reg.TIER_OBJ_OP v
    let q := (fld v 0 4, fld v 16 12, s.rn Reg.TIER_OBJ_ARG0, s.rn Reg.TIER_OBJ_ARG1)
    s.showObjOp q (s.objOp q.1 q.2.1 q.2.2.1 q.2.2.2)

/-- The waiting operation of R223 is tried again. -/
def State.retryTierOp (s : State) : State :=
  match s.tiers.waiting with
  | some q => s.showObjOp q (s.objOp q.1 q.2.1 q.2.2.1 q.2.2.2)
  | Option.none => s

/-- TIER_OBJ_OP written with the operation that a row of the command table names. -/
def State.tierRow (s : State) (init : Initiator) (op : Nat) (v : Word) : State :=
  s.viaWrite init Reg.TIER_OBJ_OP false (fun s => s.tierOp (setFld v.toNat 0 4 op))

/-- OBJ_NEW (R214). -/
def execObjNew (init : Initiator) (value : Word) (s : State) : Host.Outcome State Fault Refusal := .next (s.tierRow init 1 value)
/-- OBJ_FREE (R214). -/
def execObjFree (init : Initiator) (value : Word) (s : State) : Host.Outcome State Fault Refusal := .next (s.tierRow init 2 value)
/-- OBJ_PLACE (R214). -/
def execObjPlace (init : Initiator) (value : Word) (s : State) : Host.Outcome State Fault Refusal := .next (s.tierRow init 3 value)
/-- OBJ_FLUSH (R214). -/
def execObjFlush (init : Initiator) (value : Word) (s : State) : Host.Outcome State Fault Refusal := .next (s.tierRow init 4 value)

/-! ### Moves and drains (R216 to R218) -/

/-- The tiles of a MOVING object at their new placement (R218): a staged copy is written back, staging copies stored tiles as
they are. -/
def Obj.moved (o : Obj) : Obj :=
  let w := if o.place = 1 then o.writeBack else o
  if o.target = 1 then
    if o.place = 1 then { w with state := .ready } else { w with state := .ready, place := 1, copy := w.home }
  else { w with state := .ready, place := o.target, copy := [] }

/-- Stored bytes that a move carries. -/
def Obj.moveBytes (o : Obj) : Nat × Nat :=
  if o.place = 1 ∧ o.target ≠ 2 then (o.dirty.length * 4096, storedBytes (o.copy.filter (fun e => o.dirty.contains e.1)) o.dirty.length)
  else if o.place = o.target then (0, 0)
  else (o.tiles * 4096, storedBytes o.home o.tiles)

/-- The transfers that waited for a moving object go on, and the contexts that waited with them (R216). -/
def State.resumeMoving (s : State) (k : Nat) : State :=
  let s := { s with dma.xfers := tmap (fun _ (t : Transfer) =>
      if t.wait = .moving ∧ (descOf t.desc).object = some k then { t with wait := .none } else t) s.dma.xfers }
  forRange 128 s (fun s c => if bitOf (s.ctx c).waitMask 33 then s.checkWait c else s)

/-- The move of object `k` ends (R216): its tiles stand at the new placement, TIER_EVT.MOVE_DONE is set. -/
def State.moveDone (s : State) (k : Nat) : State :=
  if s.hasObj k ∧ (s.obj k).state = .moving then
    let (p, b) := (s.obj k).moveBytes
    let s := (s.countBytes p b).modObj k Obj.moved
    ((s.evt Reg.TIER_EVT 2).resumeMoving k).retryTierOp
  else s

/-- The last transfer that named a draining object has ended (R216). -/
def State.objDrainEnd (s : State) (k : Nat) : State :=
  if s.hasObj k && decide ((s.obj k).state = .draining) && !s.objBusy k then
    ({ s with tiers.objs := tdel s.tiers.objs k }).retryTierOp
  else s

/-- OBJECT_MOVE_DONE (R216). -/
def execObjectMoveDone (obj : Fin 4096) (s : State) : Host.Outcome State Fault Refusal := .next (s.moveDone obj.val)
/-- OBJECT_DRAIN_END (R216). -/
def execObjectDrainEnd (obj : Fin 4096) (s : State) : Host.Outcome State Fault Refusal := .next (s.objDrainEnd obj.val)

/-- Copies evicted by age until 1/16 of the open Canopy pool is free (R224); `fuel` bounds the victims. -/
def State.ageEvict : Nat → State → State
  | 0, s => s
  | fuel + 1, s =>
    if s.thePlan.cnpOpen ≤ 16 * s.cnpFree then s
    else match s.victimCopy (fun v => decide (s.thePlan.ageTicks ≤ s.objAge v)
        && decide ((s.thePlan.quotaOf v.owner).cnpGuar < s.cnpUsed v.owner)) with
      | some v => State.ageEvict fuel (s.evictCopy v)
      | Option.none => s

/-- AGE_EVICTION (R224): at a tick boundary with fewer than 1/16 of the open Canopy pool's tiles free. -/
def execAgeEviction (s : State) : Host.Outcome State Fault Refusal :=
  .next (if s.running 1 && s.thePlan.ageTicks != 0 then (State.ageEvict s.tiers.objs.length s).retryTierOp else s)

/-! ### Snapshots (R213, R234) -/

/-- The STATE code of Table 11.3. -/
def ObjState.code : ObjState → Nat
  | .ready => 1 | .moving => 2 | .draining => 3

/-- Word `i` of an object's entry (Table 11.3). -/
def Obj.word (o : Obj) : Nat → Nat
  | 0 => o.owner + o.place * 2 ^ 8 + b2n o.compress * 2 ^ 12 + b2n o.sealed * 2 ^ 13 + b2n o.host * 2 ^ 14 + o.width * 2 ^ 16
    + o.state.code * 2 ^ 20 + b2n o.standing * 2 ^ 24
  | 1 => o.tiles
  | 2 => o.dirty.length
  | 3 => o.lastUse
  | _ => 0

/-- A write of TIER_OBJ_SEL snapshots that entry (R213). -/
def State.tierObjSel (s : State) (v : Nat) : State :=
  let s := s.storeReg false Reg.TIER_OBJ_SEL v
  let k := s.rf Reg.TIER_OBJ_SEL 0 12
  forRange 4 s (fun s i => s.put (Reg.TIER_OBJ_DATA i) (if s.hasObj k then (s.obj k).word i else 0))

/-- A write of TIER_QUOTA_SEL snapshots the usage of an owner (Table 11.12). -/
def State.tierQuotaSel (s : State) (v : Nat) : State :=
  let s := s.storeReg false Reg.TIER_QUOTA_SEL v
  let o := s.rf Reg.TIER_QUOTA_SEL 0 8
  let s := s.put Reg.TIER_QUOTA_CNP (s.cnpUsed o % 65536 + (s.cnpUsed o - (s.thePlan.quotaOf o).cnpGuar) % 65536 * 65536)
  s.put Reg.TIER_QUOTA_DDR (s.ddrUsed o)

/-- TIER_OBJ_SEL (R213). -/
def execTierObjSel (init : Initiator) (value : Word) (s : State) : Host.Outcome State Fault Refusal :=
  .next (s.viaWrite init Reg.TIER_OBJ_SEL false (·.tierObjSel value.toNat))
/-- TIER_QUOTA_SEL (R234). -/
def execTierQuotaSel (init : Initiator) (value : Word) (s : State) : Host.Outcome State Fault Refusal :=
  .next (s.viaWrite init Reg.TIER_QUOTA_SEL false (·.tierQuotaSel value.toNat))

end Sys2Proof.Machine
end

