-- ==== Sys2Proof/Machine/VilvaOps.lean ====
section
/-! DEFINITION. The sending side of a Vilva port and the state of the ring (R335 to R345). -/
namespace Sys2Proof.Machine
open Sys2Proof

def portDefault : Port := {}
/-- Vilva port `p`. -/
def State.port (s : State) (p : Nat) : Port := tget portDefault s.vil.ports p
/-- Port `p` changed by `f`. -/
def State.modPort (s : State) (p : Nat) (f : Port → Port) : State := { s with vil.ports := tmod portDefault s.vil.ports p f }

/-- An empty flit. -/
def flitZero : Flit :=
  { seq := 0, ack := 0, nak := false, stream := 0, last := false, xid := 0, gen := 0, buf := 0, offset := 0, plen := 0, payload := [] }

/-- Whether port `p` carries transfers: its domain runs, it is up and not held, and the ring is closed (R339, R341, R345). -/
def State.portOpen (s : State) (p : Nat) : Bool :=
  s.running (6 + p) && (s.port p).up && !(s.port p).held && decide (s.vil.ring = .closed)

/-- How many flits port `p` can still send unacknowledged (R337). -/
def State.txRoom (s : State) (p : Nat) : Nat := 64 - (s.port p).unacked.length

/-- The flits most recently sent, newest first. -/
def State.logFlit (s : State) (p type : Nat) (f : Flit) : State := { s with vil.sent := ((p, type, f) :: s.vil.sent).take 64 }

/-- A numbered flit sent on port `p` (R336, R337): the next SEQ, the ACK of what was received in order, kept until it is
acknowledged. -/
def State.sendFlit (s : State) (p type : Nat) (f : Flit) : State :=
  let x := s.port p
  let f := { f with seq := x.txSeq, ack := x.rxSeq, nak := false }
  let s := s.modPort p (fun y => { y with txSeq := (y.txSeq + 1) % 4096, unacked := y.unacked ++ [(type, f)] })
  let s := s.logFlit p type f
  if s.blockLive (0x28 + p) then s.incR64 (Reg.VIL_TX_FLITS_LO p) 1 else s

/-- An IDLE flit that carries an acknowledgement, or asks for a replay (R336, R337). -/
def State.sendIdle (s : State) (p : Nat) (nak : Bool) : State :=
  let s := s.logFlit p 0 { flitZero with ack := (s.port p).rxSeq, nak := nak }
  if s.blockLive (0x28 + p) then s.incR64 (Reg.VIL_TX_FLITS_LO p) 1 else s

/-- Payload cut into the flits of a piece: 240 bytes at most each, `off` the offset in the buffer in bytes (Table 16.1). -/
def pieceFlits (base : Flit) (off : Nat) (endsTransfer : Bool) (bs : List Byte) : List Flit :=
  let cs := chunks 240 (bs.length / 240 + 1) bs
  (List.range cs.length).map (fun i =>
    let c := nth [] cs i
    { base with offset := (off + 240 * i) / 2 % 2 ^ 24, plen := c.length, payload := c, last := endsTransfer && i + 1 == cs.length })

/-- Whether a flit that belongs to a transfer is still unacknowledged on port `p` (R345). -/
def State.flitsPending (s : State) (p type stream xid gen : Nat) : Bool :=
  (s.port p).unacked.any (fun e => e.1 == type && e.2.stream == stream && e.2.xid == xid && e.2.gen == gen)

/-! ### The ROLE section (Table 16.4) -/

/-- The device's own CHIP_ID, as strapped (R335). -/
def State.chipId (s : State) : Nat := s.pins.chipId % 4
/-- The number of device records of a ROLE section. -/
def Plan.devices (p : Plan) : Nat := fld (u32 p.role 0) 0 3
/-- SOLO_MODE of mode `m`. -/
def Plan.soloMode (p : Plan) (m : Nat) : Nat := fld (u32 p.role 4) (4 * m) 3
/-- The device record of a CHIP_ID, as its offset in the section. -/
def Plan.roleRecord (p : Plan) (chip : Nat) : Option Nat :=
  (List.range p.devices).find? (fun d => fld (u32 p.role (0x10 + 16 * d)) 0 2 == chip)
/-- The streams that a device may use port `q` for. -/
def Plan.portStreams (p : Plan) (chip q : Nat) : Nat :=
  match p.roleRecord chip with
  | some d => u32 p.role (0x18 + 16 * d + 4 * q)
  | Option.none => 0
/-- FIRST_COL and COLS of a device. -/
def Plan.columns (p : Plan) (chip : Nat) : Nat × Nat :=
  match p.roleRecord chip with
  | some d => (u16 p.role (0x14 + 16 * d), u16 p.role (0x16 + 16 * d))
  | Option.none => (0, 0)
/-- Whether a mode holds an exchange stream (R341, R343). -/
def Plan.hasExchange (p : Plan) (m : Nat) : Bool := (p.streamOfKind m 4).isSome

/-- The mode that is run in place of mode `m` while the device is solo or its ring is broken (R341). -/
def State.soloed (s : State) (m : Nat) : Nat :=
  if (s.vil.ring = .solo ∨ s.vil.ring = .broken) ∧ s.thePlan.hasExchange m = true then s.thePlan.soloMode m else m

end Sys2Proof.Machine
end

