-- ==== Sys2Proof/Machine/Dma.lean ====
section
/-! DEFINITION. The tile DMA: descriptor checks, issue, pieces, copy-on-write, completion and faults (R85 to R88, R172 to R177,
R186, R227 to R231, R344, R345). -/
namespace Sys2Proof.Machine
open Sys2Proof

/-! ### The local end: Grove SRAM or the image of a context that is swapped out (R71, R91) -/

/-- The 4 KiB tiles of an allocation that a write touches are marked dirty (R219). -/
def State.markDirty (s : State) (c off n : Nat) : State :=
  if n = 0 then s else
  s.modCtx c (fun k =>
    let ts := (List.range ((off + n - 1) / 4096 + 1 - off / 4096)).map (off / 4096 + ·)
    { k with dirty := k.dirty ++ ts.filter (fun i => !k.dirty.contains i) })

/-- Bytes of an owner's Grove SRAM at an offset: on Grove `g` for a stream, in the allocation or the image of a context. -/
def State.localRead (s : State) (o : Owner) (g off n : Nat) : List Byte :=
  match o with
  | .stream _ => s.rdBytes (groveBase g + off) n
  | .ctx c =>
    let k := s.ctx c
    if k.resident then s.rdBytes (groveBase k.grove + k.allocBase + off) n else padTo 0 n ((k.image.drop off).take n)

/-- Bytes stored there. -/
def State.localWrite (s : State) (o : Owner) (g off : Nat) (bs : List Byte) : State :=
  match o with
  | .stream _ => s.wrBytes (groveBase g + off) bs
  | .ctx c =>
    let k := s.ctx c
    if k.resident then (s.wrBytes (groveBase k.grove + k.allocBase + off) bs).markDirty c off bs.length
    else s.modCtx c (fun k => { k with image := overlay k.image off bs })

/-- The address of the local end, where it lies in Grove SRAM. -/
def State.localAddr (s : State) (o : Owner) (g off : Nat) : Option Nat :=
  match o with
  | .stream _ => some (groveBase g + off)
  | .ctx c => if (s.ctx c).resident then some (groveBase (s.ctx c).grove + (s.ctx c).allocBase + off) else Option.none

/-- Bytes of Grove SRAM that an owner may address (R91). -/
def State.localSize (s : State) : Owner → Nat
  | .stream _ => groveSramBytes
  | .ctx c => (s.ctx c).sramKib * 1024

/-! ### Descriptor checks at issue (R227, R228, R231) -/

/-- A pair of kinds that R228 allows under a mark. -/
def pairOk (d : Desc) : Bool :=
  match d.mark with
  | 0 =>
    let far (k : Nat) := decide (2 ≤ k) && decide (k ≤ 7)
    (d.srcKind == 0 && far d.dstKind) || (far d.srcKind && (d.dstKind == 0 || d.dstKind == 1))
  | 1 => (d.srcKind == 0 && d.dstKind == 2) || (d.srcKind == 2 && d.dstKind == 0)
  | 2 => d.srcKind == 0xF && d.dstKind == 0xF
  | _ => false

/-- KIND_BAD (Table 11.10). -/
def kindOk (d : Desc) (raw : List Byte) : Bool :=
  descReserved raw && pairOk d && endpointClean d.srcKind d.srcA d.srcB && endpointClean d.dstKind d.dstA d.dstB
    && (d.isStep || (d.step == 0 && d.group == 0))

/-- LEN_BAD (Table 11.10): `ch` is the channel count of the record in Grove SRAM. -/
def lenOk (d : Desc) (ch : Nat) : Bool :=
  if d.isStep then d.len == 0
  else decide (1 ≤ d.len)
    && (d.dstKind != 1 || decide (d.len ≤ (16 - fld d.dstA 0 4) * 32))
    && (d.remote.1 != 3 || d.len % 32 == 0)
    && (!d.isCarry || d.len == ceilDiv (128 + 4 * ch) 128)

/-- The band buffer of the BUFFER section that an index names (R463). -/
def Plan.bandBuffer (p : Plan) (i : Nat) : Option RegionRec :=
  match p.regions[i]? with
  | some r => if r.tier = 0 ∧ r.band = true then some r else Option.none
  | Option.none => Option.none

/-- Whether an owner may name the remote endpoint (NOT_OWNER of Table 11.10). -/
def State.endpointOwned (s : State) (o : Owner) (d : Desc) : Bool :=
  let (k, a, _) := d.remote
  match k, o with
  | 2, _ => (s.obj (fld a 0 12)).owner == o.code
  | 3, _ => true
  | 4, .stream i => (match s.thePlan.bandBuffer (fld a 0 8) with | some r => r.stream == i | Option.none => false)
  | 5, .stream _ => true
  | 6, .stream i =>
    (s.thePlan.streamOfKind s.mode.cur 4).any (fun x => x.id == i) && bitOf (s.thePlan.portStreams s.chipId 0) i
      && (match s.thePlan.bandBuffer (fld a 0 8) with | some r => r.stream == i | Option.none => false)
  | 7, .stream i =>
    (s.thePlan.streamOfKind s.mode.cur 4).any (fun x => x.id == i) && bitOf (s.thePlan.portStreams s.chipId 1) i
      && (match s.thePlan.bandBuffer (fld a 0 8) with | some r => r.stream == i | Option.none => false)
  | 0xF, _ => true
  | _, _ => false

/-- Bytes of the remote endpoint; none for a paged one, which is checked page by page (R172, R177). -/
def State.endpointSize (s : State) (d : Desc) : Option Nat :=
  let (k, a, _) := d.remote
  match k with
  | 2 => some ((s.obj (fld a 0 12)).tiles * 4096)
  | 4 => some (((s.thePlan.bandBuffer (fld a 0 8)).map (·.bytes)).getD 0)
  | 5 => some 0x100000
  | 6 => some (((s.thePlan.bandBuffer (fld a 0 8)).map (·.bytes)).getD 0)
  | 7 => some (((s.thePlan.bandBuffer (fld a 0 8)).map (·.bytes)).getD 0)
  | _ => Option.none

/-- Where the remote endpoint begins, in bytes from its start. -/
def Desc.remoteStart (d : Desc) : Nat :=
  let (k, a, b) := d.remote
  if k = 5 then fld a 0 20 else if k = 3 then 0 else b * 128

/-- BOUND of Table 11.10. -/
def State.boundOk (s : State) (o : Owner) (d : Desc) : Bool :=
  (d.isStep || d.dstKind == 1 || decide (d.gsram + d.bytes ≤ s.localSize o))
    && (match s.endpointSize d with
        | some n => decide (d.remoteStart + d.bytes ≤ n)
        | Option.none => true)

/-- The fault of a descriptor at issue (R231); of several, in this order (log entry 20). -/
def State.descFault (s : State) (o : Owner) (g : Nat) (raw : List Byte) : Option Nat :=
  let d := descOf raw
  let ch := recCh (s.localRead o g d.gsram 128)
  if !kindOk d raw then some 0x01
  else if !lenOk d ch then some 0x02
  else match d.object with
    | some k =>
      if !s.hasObj k || decide ((s.obj k).state = .draining) then some 0x04
      else if !s.endpointOwned o d then some 0x05
      else if !s.boundOk o d then some 0x03
      else if (s.obj k).sealed && (s.sealKey (s.obj k)).isNone then some 0x06
      else Option.none
    | Option.none =>
      if !s.endpointOwned o d then some 0x05 else if !s.boundOk o d then some 0x03 else Option.none

/-! ### Faults (R177, R231) -/

/-- The owner's side of a transfer's failure (R107, R231): the context becomes FAULTED, or the stream's remaining commands on
that Grove in that tick are discarded. -/
def State.failOwner (s : State) (o : Owner) (g cause : Nat) : State :=
  match o with
  | .ctx c =>
    if (s.ctx c).state = .free ∨ (s.ctx c).state = .stopped ∨ (s.ctx c).state = .faulted then s else s.faultCtx c cause
  | .stream i => s.modGrove g (fun x => x.dropStream i)

/-- The owner's fields of DMA_FAULT and PAGE_FAULT (Tables 8.12 and 11.15). -/
def Owner.faultBits : Owner → Nat
  | .ctx c => c * 2 ^ 8 + 2 ^ 15
  | .stream i => i * 2 ^ 16 + 2 ^ 21

/-- A DMA fault is shown and recorded (R231, Tables 11.14 and 11.15). -/
def State.showDmaFault (s : State) (o : Owner) (g xid obj code : Nat) : State :=
  let s := s.evt Reg.DMA_EVT 0
  let s := if code = 9 then s.evt Reg.DMA_EVT 1 else s
  let s := s.put Reg.DMA_FAULT (code + o.faultBits)
  let s := s.put Reg.DMA_FAULT_POS (g + xid % 16 * 2 ^ 8 + obj % 4096 * 2 ^ 16)
  s.report 0x0401 0x06 [s.rn Reg.DMA_FAULT, s.rn Reg.DMA_FAULT_POS] o.parts.1 o.parts.2

/-- A DMA fault: shown, and handled by role (R231). -/
def State.dmaFault (s : State) (o : Owner) (g xid obj code : Nat) : State :=
  (s.showDmaFault o g xid obj code).failOwner o g (if code = 9 then 0xA else 0x9)

/-- A paged-transfer fault (R177). -/
def State.pageFault (s : State) (o : Owner) (g list lpage code : Nat) : State :=
  let s := s.evt Reg.PAGE_EVT 2
  let s := s.put Reg.PAGE_FAULT (code + o.faultBits)
  let s := s.put Reg.PAGE_FAULT_POS (lpage % 2 ^ 20 + list * 2 ^ 20)
  let s := s.report 0x0402 0x07 [s.rn Reg.PAGE_FAULT, s.rn Reg.PAGE_FAULT_POS] o.parts.1 o.parts.2
  s.failOwner o g 0x9

/-! ### The Skid (R85 to R88) -/

/-- The virtual slots that a descriptor fills. -/
def Desc.slots (d : Desc) : List Nat :=
  if d.dstKind = 1 then (List.range (ceilDiv d.len 32)).map (fld d.dstA 0 4 + ·) else []

/-- The entry that holds an owner's slot on a Grove (R87). -/
def Grove.entryOf (x : Grove) (o : Owner) (v : Nat) : Option Nat := (x.skid.find? (fun e => e.2.owner == o && e.2.vslot == v)).map (·.1)
/-- A free entry. -/
def Grove.freeEntry (x : Grove) : Option Nat := (List.range 16).find? (fun n => !thas x.skid n)
/-- The least recently read entry whose transfer has completed. -/
def Grove.oldestEntry (x : Grove) : Option Nat :=
  match x.skid.filter (fun e => e.2.complete) with
  | [] => Option.none
  | e :: es => some (es.foldl (fun a b => if b.2.lastRead < a.2.lastRead then b else a) e).1

/-- The entry that an XFER into a slot takes (R87). -/
def Grove.takeEntry (x : Grove) (o : Owner) (v : Nat) : Option Nat :=
  match x.entryOf o v with
  | some n => some n
  | Option.none => match x.freeEntry with
    | some n => some n
    | Option.none => x.oldestEntry

/-- A slot given an entry: what it replaces is remembered with its descriptor (R86). -/
def Grove.fillEntry (x : Grove) (o : Owner) (v tag : Nat) (desc : List Byte) (n : Nat) : Grove :=
  let gone := match tfind x.skid n with
    | some e => if e.owner == o && e.vslot == v then [] else [(e.owner, e.vslot, e.desc)]
    | Option.none => []
  { x with skid := tput x.skid n { owner := o, vslot := v, tag := tag, desc := desc },
           replaced := (gone ++ x.replaced).filter (fun r => !(r.1 == o && r.2.1 == v)) }

/-- Entries for a list of slots, one after another; none when an entry is lacking (R87). -/
def Grove.fillSlots (o : Owner) (tag : Nat) (desc : List Byte) : List Nat → Grove → Option (Grove × List (Nat × Nat))
  | [], x => some (x, [])
  | v :: vs, x =>
    match x.takeEntry o v with
    | Option.none => Option.none
    | some n =>
      match Grove.fillSlots o tag desc vs (x.fillEntry o v tag desc n) with
      | some (y, ps) => some (y, (v, n) :: ps)
      | Option.none => Option.none

/-! ### Issue (R87, R186, R216, R227, R228) -/

/-- Whether an XFER must wait (R87, R186): its XID in flight; or, where its descriptor has no fault, a slot in flight, no entry to
take, or another carry transfer on its record or home in flight. -/
def State.xferMustWait (s : State) (o : Owner) (g xid : Nat) (raw : List Byte) : Bool :=
  let d := descOf raw
  s.xidBusy o xid
    || ((s.descFault o g raw).isNone
      && (d.slots.any (s.slotFilling g o)
        || (Grove.fillSlots o 0 raw d.slots (s.grove g)).isNone
        || (d.isCarry && s.dma.xfers.any (fun t =>
            let e := descOf t.2.desc
            t.2.owner == o && e.isCarry && ((t.2.grove == g && e.gsram == d.gsram) || (e.object == d.object && e.remote.2.2 == d.remote.2.2))))))

/-- VALID and TAG of the carry record at a Grove SRAM offset (Table 9.3). -/
def State.setRecord (s : State) (o : Owner) (g off : Nat) (valid : Bool) (tag : Option Nat) : State :=
  let w := leNat (s.localRead o g (off + 4) 4)
  let w := setFld w 16 1 (b2n valid)
  let w := match tag with | some t => setFld w 20 12 t | Option.none => w
  s.localWrite o g (off + 4) (leBytes 4 w)

/-- A transfer enters the DMA, with no check: its object's LAST_USE is set, its Skid entries are taken, a park clears VALID. -/
def State.enterXfer (s : State) (o : Owner) (g xid : Nat) (raw : List Byte) (only : Option Nat) : State :=
  let d := descOf raw
  let tag := s.ownerTag o
  let vs := match only with | some v => [v] | Option.none => d.slots
  match Grove.fillSlots o tag raw vs (s.grove g) with
  | Option.none => s
  | some (x, ps) =>
    let s := s.modGrove g (fun _ => x)
    let s := match d.object with
      | some k => s.modObj k (fun b => { b with lastUse := s.rn Reg.TICK_COUNT_LO })
      | Option.none => s
    let moving : Bool := match d.object with | some k => decide ((s.obj k).state = .moving) | Option.none => false
    let start := match only with | some v => (v - fld d.dstA 0 4) * 4096 | Option.none => 0
    let t : Transfer := { owner := o, grove := g, xid := xid, desc := raw, tag := tag, slots := ps, only := only, moved := start,
                          wait := if moving then .moving else .none }
    let s := { s with dma.xfers := tput s.dma.xfers s.dma.next t, dma.next := s.dma.next + 1 }
    if d.isCarry && d.isStore then s.setRecord o g d.gsram false Option.none else s

/-- The port that a descriptor's remote endpoint names (R344). -/
def Desc.port (d : Desc) : Option Nat := if d.remote.1 = 6 then some 0 else if d.remote.1 = 7 then some 1 else Option.none

/-- An XFER issues its descriptor (R186, R216, R231, R345). A fault moves nothing; a restore to a record that is present and
an exchange over a port that carries none complete at once. -/
def State.dmaIssue (s : State) (o : Owner) (g xid : Nat) (raw : List Byte) : State :=
  let d := descOf raw
  match s.descFault o g raw with
  | some code => s.dmaFault o g xid (d.object.getD 0) code
  | Option.none =>
    let head := s.localRead o g d.gsram 128
    if d.isRestore && recValid head && recTag head == s.ownerTag o then s
    else match d.port with
      | some p => if s.portOpen p then s.enterXfer o g xid raw Option.none else s.count (Reg.VIL_DISCARDS p) 1
      | Option.none =>
        let s := s.enterXfer o g xid raw Option.none
        match d.object, o with
        | some k, .ctx c => if (s.obj k).state = .moving then s.blockFor c (2 ^ 33) else s
        | _, _ => s

/-- The recorded descriptor of an owner's slot whose entry was replaced, or that another Grove's Skid holds (R71, R86). -/
def State.slotDesc (s : State) (g : Nat) (o : Owner) (v : Nat) : Option (List Byte) :=
  match (s.grove g).replaced.find? (fun r => r.1 == o && r.2.1 == v) with
  | some r => some r.2.2
  | Option.none =>
    (List.range 16).findSome? (fun h =>
      if h = g then Option.none
      else match (s.grove h).skid.find? (fun e => e.2.owner == o && e.2.vslot == v) with
        | some e => some e.2.desc
        | Option.none => ((s.grove h).replaced.find? (fun r => r.1 == o && r.2.1 == v)).map (·.2.2))

/-- The refetch of a missing slot (R86), charged to the owner and shown in GRV_EVT.REFETCH (Table 4.14); its transfer carries XID 16
plus the slot. -/
def State.refetch (s : State) (f : Fetched) (v : Nat) : State :=
  if s.slotFilling f.grove f.owner v then s
  else match s.slotDesc f.grove f.owner v with
    | some raw =>
      (match s.descFault f.owner f.grove raw with
       | some code => s.dmaFault f.owner f.grove (16 + v) ((descOf raw).object.getD 0) code
       | Option.none => (s.evt (Reg.GRV_EVT f.grove) 3).enterXfer f.owner f.grove (16 + v) raw (some v))
    | Option.none => s

/-! ### The end of a transfer -/

/-- Where a transfer ends, in bytes of its descriptor's range; a refetch ends with its one slot. -/
def Transfer.endAt (x : Transfer) : Nat :=
  let d := descOf x.desc
  match x.only with
  | some v => min d.bytes ((v - fld d.dstA 0 4 + 1) * 4096)
  | Option.none => d.bytes

/-- Transfer `t` leaves the DMA: its Skid entries become resident, or are given up where it did not complete; what waited for
it is looked at again. -/
def State.endXfer (s : State) (t : Nat) (completed : Bool) : State :=
  let x := s.xfer t
  let s := { s with dma.xfers := tdel s.dma.xfers t }
  let s := s.modGrove x.grove (fun g =>
    { g with skid := x.slots.foldl (fun k p =>
        match tfind k p.2 with
        | some e => if e.owner == x.owner && e.vslot == p.1 then
            (if completed && e.tag == x.tag then tput k p.2 { e with complete := true } else tdel k p.2) else k
        | Option.none => k) g.skid })
  let s := match x.owner with
    | .ctx c => (s.modCtx c (fun k => { k with waitMask := setFld k.waitMask 32 1 0 })).checkWait c
    | .stream _ => s
  (s.wakeOnGrove x.grove).retryTierOp

/-- A reply or completion with a stale tag dropped (R230, R378). -/
def State.countDropped (s : State) (domain : Nat) : State :=
  ((s.count Reg.DMA_DROPPED 1).evt Reg.DMA_EVT 3).count (Reg.LKT_DROPPED domain) 1

/-- Transfer `t` fails during the transfer (R231): pieces already stored stay. -/
def State.failXfer (s : State) (t code : Nat) : State :=
  let x := s.xfer t
  (s.dmaFault x.owner x.grove x.xid ((descOf x.desc).object.getD 0) code).endXfer t false

/-! ### Pages (R172 to R174) -/

/-- The page and tile that tile `i` of a paged transfer names (Table 11.9). -/
def pagedTile (pageTiles : Nat) (d : Desc) (i : Nat) : Nat × Nat :=
  let (_, a, b) := d.remote
  let tile := fld a 12 3
  let stride := fld a 16 16
  let lpage := fld b 0 20
  if stride = 0 then (lpage + (tile + i) / max 1 pageTiles, (tile + i) % max 1 pageTiles) else (lpage + i * stride, tile)

/-- The tenant slot record of a context (R397). -/
def Plan.tenant (p : Plan) (c : Nat) : Option (List Byte) := p.tenants.find? (fun r => fld (u32 r 0) 0 7 == c)
/-- PUBLIC_OWNER of a tenant slot record (Table 19.6). -/
def Plan.publicWriter (p : Plan) (c : Nat) : Bool := ((p.tenant c).map (fun r => bitOf (u32 r 0) 16)).getD false

/-- The fault of a page of a paged transfer when its first tile starts (R173, R177). -/
def State.pageFaultOf (s : State) (o : Owner) (d : Desc) (lpage : Nat) : Option Nat :=
  let l := fld d.remote.2.1 0 10
  let x := s.plist l
  let mark := match o with | .ctx c => s.thePlan.publicWriter c | .stream _ => false
  let allowed := match o with
    | .stream _ => x.owner == o.code
    | .ctx _ => x.owner == o.code || x.published || (d.isStore && x.owner == 0xFE && mark)
  if !s.hasList l then some 0x01
  else if !allowed then some 0x02
  else if x.entries.length ≤ lpage then some 0x03
  else if d.isStore && x.published then some 0x04
  else if s.pages.pageTiles ≤ fld d.remote.2.1 12 3 then some 0x05
  else Option.none

/-- Whether the next tile of a paged write must be preceded by a copy-on-write (R174). -/
def State.needsCopy (s : State) (x : Transfer) : Bool :=
  let d := descOf x.desc
  if d.remote.1 = 3 ∧ d.isStore = true ∧ x.moved < x.endAt then
    let (lp, _) := pagedTile s.pages.pageTiles d (x.moved / 4096)
    if thas x.pages lp ∨ (s.pageFaultOf x.owner d lp).isSome then false
    else
      let f := s.frame (nth 0 (s.plist (fld d.remote.2.1 0 10)).entries lp)
      decide (1 < f.refs) || f.pub
  else false

/-- The tiles of frame `f` copied into frame `h` (R174): the state, or the code of the read that failed. -/
def State.copyTiles (f h symbols : Nat) : Nat → State → State × Option Nat
  | 0, s => (s, Option.none)
  | n + 1, s =>
    match s.readTile (.pool f n) (if n = 0 then symbols else 0) with
    | (s, .error e) => (s, some e)
    | (s, .ok p) => State.copyTiles f h symbols n (s.writeTile (.pool h n) p).1

/-- COPY_ON_WRITE for transfer `t` (R174): without a free frame or quota the transfer waits for one (Table 8.9). -/
def State.copyOnWrite (s : State) (t symbols : Nat) : State :=
  let x := s.xfer t
  if !thas s.dma.xfers t || s.stale x || !s.needsCopy x then s
  else
    let d := descOf x.desc
    let l := fld d.remote.2.1 0 10
    let (lp, _) := pagedTile s.pages.pageTiles d (x.moved / 4096)
    let owner := (s.plist l).owner
    let f := nth 0 (s.plist l).entries lp
    if s.freeFrames = 0 ∨ s.framesFit owner 1 = false then
      let s := s.modXfer t (fun y => { y with wait := .frames })
      (match x.owner with
       | .ctx c => if (s.ctx c).waitsForTransfer && bitOf (s.ctx c).waitMask x.xid then s.modCtx c (fun k => { k with cause := 4 }) else s
       | .stream _ => s)
    else
      let (s, h) := s.takeFrame owner
      match State.copyTiles f h symbols s.pages.pageTiles s with
      | (s, some code) => ((s.releaseFrame h).failXfer t code)
      | (s, Option.none) =>
        let s := s.modList l (fun y => { y with entries := y.entries.set lp h })
        let s := s.modXfer t (fun y => { y with wait := .none, pages := tput y.pages lp h })
        let s := s.dropFrame f
        (s.count Reg.PAGE_COW_COUNT 1).evt Reg.PAGE_EVT 3

/-! ### Pieces (R229) -/

/-- Bytes of the next piece: at most one tile, and none beyond a tile of the remote endpoint. -/
def Transfer.pieceBytes (x : Transfer) : Nat :=
  let d := descOf x.desc
  min (x.endAt - x.moved) (4096 - (if d.remote.1 = 2 then (d.remoteStart + x.moved) % 4096 else x.moved % 4096))

/-- The base flit of a transfer (Table 16.1). -/
def Transfer.flit (x : Transfer) : Flit :=
  { flitZero with stream := (x.owner.parts.2).getD 0, xid := x.xid, gen := x.tag, buf := fld (descOf x.desc).remote.2.1 0 8 }

/-- Bytes of plain memory read, or the code of the failure (Table 12.2). -/
def State.plainRead (s : State) (a n symbols : Nat) : State × Except Nat (List Byte) :=
  let s := s.meetErrors a symbols
  if !(s.badIn a n).isEmpty then (s.reportBad a n 0, .error 0x09) else (s, .ok (s.rdBytes a n))

/-- Bytes of plain memory written: a partial write of an uncorrectable line fails (R248). -/
def State.plainWrite (s : State) (a : Nat) (bs : List Byte) : State × Option Nat :=
  let partial_ := (s.badIn a bs.length).filter (fun l => !fullLine a bs.length l)
  if partial_.isEmpty then (s.wrBytes a bs, Option.none) else (s.reportBad a bs.length 0, some 0x09)

/-- Whether the remote endpoint lies in the Canopy or in DDR5, whose bytes the DMA counts (Table 11.14). -/
def Desc.counted (d : Desc) : Bool := d.remote.1 == 2 || d.remote.1 == 3 || d.remote.1 == 4

/-- `n` bytes read from the remote endpoint at byte `m` of the transfer. -/
def State.remoteRead (s : State) (x : Transfer) (m n symbols : Nat) : State × Except Nat (List Byte) :=
  let d := descOf x.desc
  let (k, a, _) := d.remote
  let s := if d.counted then s.countBytes n 0 else s
  match k with
  | 2 =>
    let id := fld a 0 12
    let o := s.obj id
    let off := d.remoteStart + m
    if o.host then (s.countBytes 0 n).plainRead (o.hostBase + off) n symbols
    else match s.readTile (if o.place = 1 then .copy id (off / 4096) else .home id (off / 4096)) symbols with
      | (s, .ok p) => (s, .ok ((p.drop (off % 4096)).take n))
      | (s, .error e) => (s, .error e)
  | 3 =>
    let (lp, ti) := pagedTile s.pages.pageTiles d (m / 4096)
    match s.readTile (.pool (tget 0 x.pages lp) ti) symbols with
    | (s, .ok p) => (s, .ok (p.take n))
    | (s, .error e) => (s, .error e)
  | 4 =>
    let r := ((s.thePlan.bandBuffer (fld a 0 8)).map (·.offset)).getD 0
    (s.countBytes 0 n).plainRead (canopyBase + r + d.remoteStart + m) n symbols
  | _ => s.plainRead (dawnBase + d.remoteStart + m) n symbols

/-- Bytes stored in the remote endpoint at byte `m` of the transfer. -/
def State.remoteWrite (s : State) (x : Transfer) (m : Nat) (bs : List Byte) : State × Option Nat :=
  let d := descOf x.desc
  let (k, a, _) := d.remote
  let s := if d.counted then s.countBytes bs.length 0 else s
  match k with
  | 2 =>
    let id := fld a 0 12
    let o := s.obj id
    let off := d.remoteStart + m
    if o.host then (s.countBytes 0 bs.length).plainWrite (o.hostBase + off) bs
    else
      let loc := if o.place = 1 then TileLoc.copy id (off / 4096) else .home id (off / 4096)
      let (s, e) := s.mergeTile loc (off % 4096) bs 0
      let s := if o.place = 1 ∧ e = Option.none then
          s.modObj id (fun y => { y with dirty := if y.dirty.contains (off / 4096) then y.dirty else y.dirty ++ [off / 4096] }) else s
      (s, e)
  | 3 =>
    let (lp, ti) := pagedTile s.pages.pageTiles d (m / 4096)
    s.mergeTile (.pool (tget 0 x.pages lp) ti) 0 bs 0
  | 4 =>
    let r := ((s.thePlan.bandBuffer (fld a 0 8)).map (·.offset)).getD 0
    (s.countBytes 0 bs.length).plainWrite (canopyBase + r + d.remoteStart + m) bs
  | _ => s.plainWrite (dawnBase + d.remoteStart + m) bs

/-- The first bytes of a restore as they are stored: VALID and TAG of the home copy are ignored, so VALID stays 0 until the restore
completes (R186). -/
def restoreHead (bs : List Byte) : List Byte := overlay bs 4 (leBytes 4 (setFld (leNat (slice bs 4 4)) 16 1 0))

/-- Bytes delivered to the local end: Grove SRAM, or the Skid entry of their slot. -/
def State.deliver (s : State) (x : Transfer) (m : Nat) (bs : List Byte) : State :=
  let d := descOf x.desc
  if d.dstKind = 1 then
    let v := fld d.dstA 0 4 + m / 4096
    s.modGrove x.grove (fun g =>
      { g with skid := tmap (fun _ (e : SkidEntry) => if e.owner == x.owner && e.vslot == v && e.tag == x.tag && !e.complete then
          { e with payload := overlay (padTo 0 tileBytes e.payload) (m % 4096) bs } else e) g.skid })
  else s.localWrite x.owner x.grove (d.gsram + m) (if d.isRestore && m == 0 then restoreHead bs else bs)

/-- A page of a paged transfer translated as its first tile starts (R172); `none` when the page breaks a rule. -/
def State.translate (s : State) (t : Nat) : State × Bool :=
  let x := s.xfer t
  let d := descOf x.desc
  if d.remote.1 ≠ 3 then (s, true)
  else
    let (lp, _) := pagedTile s.pages.pageTiles d (x.moved / 4096)
    if thas x.pages lp then (s, true)
    else match s.pageFaultOf x.owner d lp with
      | some code => (((s.pageFault x.owner x.grove (fld d.remote.2.1 0 10) lp code).endXfer t false), false)
      | Option.none =>
        (s.modXfer t (fun y => { y with pages := tput y.pages lp (nth 0 (s.plist (fld d.remote.2.1 0 10)).entries lp) }), true)

/-- `n` more bytes of transfer `t` moved. -/
def State.advanceXfer (s : State) (t n : Nat) : State := s.modXfer t (fun y => { y with moved := y.moved + n, wait := .none })

/-- The next piece of transfer `t` moved, `symbols` erroneous symbols met in the line it reads (R229 to R231). -/
def State.movePiece (s : State) (t symbols : Nat) : State :=
  let x := s.xfer t
  let d := descOf x.desc
  let n := x.pieceBytes
  let m := x.moved
  match d.port with
  | some p =>
    let off := d.remoteStart + m
    let ends := decide (m + n = x.endAt)
    if d.isStore then
      let bs := s.localRead x.owner x.grove (d.gsram + m) n
      ((pieceFlits x.flit off ends bs).foldl (fun s f => s.sendFlit p 1 f) s).advanceXfer t n
    else
      ((pieceFlits x.flit off ends (List.replicate n 0)).foldl (fun s f => s.sendFlit p 2 { f with payload := [] }) s).advanceXfer t n
  | Option.none =>
    match s.translate t with
    | (s, false) => s
    | (s, true) =>
      let x := s.xfer t
      if d.isStore then
        let s := match s.localAddr x.owner x.grove (d.gsram + m) with | some a => s.meetErrors a symbols | Option.none => s
        let bad := match s.localAddr x.owner x.grove (d.gsram + m) with | some a => s.badIn a n | Option.none => []
        if !bad.isEmpty then
          let s := bad.foldl (fun s l => s.uncorrectable (l * 64) 0) s
          s.failXfer t 0x09
        else match s.remoteWrite x m (s.localRead x.owner x.grove (d.gsram + m) n) with
          | (s, Option.none) => s.advanceXfer t n
          | (s, some code) => s.failXfer t code
      else match s.remoteRead x m n symbols with
        | (s, .ok bs) => (s.deliver x m bs).advanceXfer t n
        | (s, .error code) => s.failXfer t code

/-- Whether transfer `t` has a piece that can move now. -/
def State.pieceReady (s : State) (x : Transfer) : Bool :=
  let d := descOf x.desc
  decide (x.moved < x.endAt) && !s.stale x && decide (x.wait ≠ .moving) && !s.needsCopy x
    && (match d.object with | some k => decide ((s.obj k).state ≠ .moving) | Option.none => true)
    && (match d.port with
        | some p => decide (ceilDiv x.pieceBytes 240 ≤ s.txRoom p) && s.portOpen p
        | Option.none => true)

/-- The transfer whose piece the next free engine takes (R229): a standing one, which of them being open, else of the context
of the most urgent PRIO that is next in turn, its oldest. -/
def State.nextPiece (s : State) : Option Nat :=
  let ready := s.dma.xfers.filter (fun t => s.pieceReady t.2)
  let standing := ready.filter (fun t => t.2.owner.parts.2.isSome)
  if !standing.isEmpty then (standing[s.freeVal 8 % standing.length]?).map (·.1)
  else
    let cs := ready.filterMap (fun t => t.2.owner.parts.1)
    let prio := cs.foldl (fun a c => min a (s.ctx c).prio) 8
    let cs := (List.range 128).filter (fun c => cs.contains c && (s.ctx c).prio == prio)
    let last := tget 128 s.dma.lastCtx prio
    match cs.find? (fun c => decide (last < c)) with
    | some c => (ready.find? (fun t => t.2.owner == .ctx c)).map (·.1)
    | Option.none => match cs with
      | c :: _ => (ready.find? (fun t => t.2.owner == .ctx c)).map (·.1)
      | [] => Option.none

/-- TRANSFER_PIECE (R229): the next piece in the order of service. -/
def State.transferPiece (s : State) (symbols : Nat) : State :=
  if !s.running 1 then s
  else match s.nextPiece with
    | Option.none => s
    | some t =>
      let s := match (s.xfer t).owner with
        | .ctx c => { s with dma.lastCtx := tput s.dma.lastCtx (s.ctx c).prio c }
        | .stream _ => s.tickFresh
      s.movePiece t symbols

/-- Whether every piece of a transfer has moved: a write over a port also needs its flits acknowledged, and a read its last
data stored (R345). -/
def State.xferFinished (s : State) (x : Transfer) : Bool :=
  let d := descOf x.desc
  decide (x.endAt ≤ x.moved) && !d.isStep
    && (match d.port with
        | some p =>
          if d.isStore then !s.flitsPending p 1 ((x.owner.parts.2).getD 0) x.xid x.tag else x.ended
        | Option.none => true)

/-- TRANSFER_COMPLETE (R186, R230): a finished transfer's completion is delivered, or dropped where its tag is stale. -/
def State.transferComplete (s : State) (t : Nat) : State :=
  let x := s.xfer t
  let d := descOf x.desc
  if !thas s.dma.xfers t || d.isStep then s
  else if s.stale x then (s.countDropped x.owner.domain).endXfer t false
  else if !s.xferFinished x then s
  else
    let s := if d.isRestore then s.setRecord x.owner x.grove d.gsram true (some x.tag) else s
    s.endXfer t true

/-- TRANSFER_PIECE (R229). -/
def execTransferPiece (symbols : Nat) (s : State) : Host.Outcome State Fault Refusal := .next (s.transferPiece symbols)
/-- TRANSFER_COMPLETE (R230). -/
def execTransferComplete (t : Nat) (s : State) : Host.Outcome State Fault Refusal := .next (s.transferComplete t)
/-- COPY_ON_WRITE (R174). -/
def execCopyOnWrite (t : Nat) (symbols : Nat) (s : State) : Host.Outcome State Fault Refusal := .next (s.copyOnWrite t symbols)

end Sys2Proof.Machine
end

