-- ==== Sys2Proof/Machine/Issue.lean ====
section
/-! DEFINITION. The issue of each tile command, its completion and its stop (R83, R86, R93, R102 to R107, R187). -/
namespace Sys2Proof.Machine
open Sys2Proof

/-! ### Issue by opcode (Table 4.5) -/

/-- Grove `g` issues the command it would issue next, if that command satisfies `is`; the issue itself is `go`. -/
def State.issueIf (s : State) (g : Nat) (is : Fetched → Bool) (go : State → Fetched → State) : State :=
  match s.fetch g with
  | some f => if is f then go s f else s
  | Option.none => s

/-- Whether the fetched command has an opcode. -/
def hasOp (op : Nat) (f : Fetched) : Bool := opcodeOf f.cmd == op

/-- Issue with checks, writes and output blocks, missing Skid slots refetched through the DMA (R86, R106). -/
def State.issueWith (s : State) (f : Fetched) (k : IssueCheck) (writes : State → List (Nat × List Byte))
    (drains : State → List Drain := fun _ => []) : State :=
  s.issue State.refetch f k writes drains

/-- NOP issues; a command of an opcode that Table 4.5 does not list is an OPCODE_BAD fault (R93, R106). -/
def State.issueNop (s : State) (f : Fetched) : State :=
  if hasOp 0 f then s.issueWith f (nopCheck f) (fun _ => []) else s.issueFault f 0x01

/-- The MODE of the window descriptor that a CONV names (Table 7.2). -/
def State.convMode (s : State) (f : Fetched) : Nat := (s.loadWindow f).mode

/-- The TALLY flag (Table 4.3). -/
def tallyFlag (c : Nat) : Bool := flagOf c 12

/-- MATMUL issues (R120 to R123). -/
def State.issueMatmul (s : State) (f : Fetched) : State :=
  s.issueWith f (s.sharedCheck f (tallyFlag f.cmd) (s.matmulCheck f)) (State.matmulWrites f) (State.matmulDrains f)
/-- CONV, in any mode, issues (R145 to R152). -/
def State.issueConv (s : State) (f : Fetched) : State :=
  s.issueWith f (s.sharedCheck f (tallyFlag f.cmd) (s.convIssueCheck f)) (State.convWrites f) (State.convDrains f)
/-- EW issues (R124). -/
def State.issueEw (s : State) (f : Fetched) : State :=
  s.issueWith f (s.sharedCheck f (tallyFlag f.cmd) (s.ewCheck f)) (State.ewWrites f) (State.ewDrains f)
/-- ATTN issues (R160). -/
def State.issueAttn (s : State) (f : Fetched) : State := s.issueWith f (s.attnCheck f) (State.attnWrites f)
/-- MOVE issues (R93). -/
def State.issueMove (s : State) (f : Fetched) : State := s.issueWith f (moveCheck f) (State.moveWrites f)
/-- TALLY issues (R138). -/
def State.issueTally (s : State) (f : Fetched) : State :=
  s.issueWith f (s.sharedCheck f true (s.tallyCheck f)) (State.tallyWrites f)

/-- SCAN issues (R179, R187): it waits for a restore to its record that is in flight, and issues fresh, with a carry-lost
event, where the record is not present and none is. -/
def State.issueScan (s : State) (f : Fetched) : State :=
  let k := s.scanCheck f
  match f.firstFault k with
  | some code => s.issueFault f code
  | Option.none =>
    if s.recPresent f then s.issueWith f k (State.scanWrites f)
    else match s.restoreTo f.grove f.owner (opOffset (auxOf f.cmd)) with
      | some x => (match f.owner with | .ctx c => s.blockFor c (2 ^ x.xid) | .stream _ => s)
      | Option.none =>
        let s := if !(s.missingSlots f k.regions).isEmpty then s else s.report 0x0302 (0x10 + f.grove) [opOffset (auxOf f.cmd), f.grove] f.owner.parts.1 f.owner.parts.2
        s.issueWith f k (State.scanWrites f)

/-! ### XFER and WAIT (R87, R93, R105, R227) -/

/-- XID of an XFER (Table 4.5). -/
def xidOf (c : Nat) : Nat := fld (extOf c) 0 4

/-- XFER's issue checks (R93): its descriptor of 32 bytes lies in Grove SRAM at SRC_A. -/
def xferCheck (f : Fetched) : IssueCheck :=
  let c := f.cmd
  { fieldsOk := commonFields c 0 true false false false && noFormats c && dimOf c == 0 && fld (extOf c) 4 28 == 0 && !opSkid (srcA c)
    formatsOk := true
    regions := [{ word := srcA c, bytes := 32, use := .exempt }]
    programOk := true
    cycles := 6 }

/-- A command's execution with nothing to write. -/
def Fetched.exec (f : Fetched) (cycles : Nat) : Exec :=
  { op := opcodeOf f.cmd, cmd := f.cmd, owner := f.owner, index := f.index, cap := capOf f.cmd, cycles := cycles }

/-- XFER issues (R87, R227): the descriptor is read and handed to the DMA. Where it must wait, a context blocks and keeps the
command, and a standing Grove executes it until it can be handed over. -/
def State.issueXfer (s : State) (f : Fetched) : State :=
  match f.firstFault (xferCheck f) with
  | some code => s.issueFault f code
  | Option.none =>
    let raw := s.operandBytes f (srcA f.cmd) 0 32
    let xid := xidOf f.cmd
    match s.badOperand f [{ word := srcA f.cmd, bytes := 32, use := .a }] with
    | some a => s.beginExec f { f.exec 6 with uncorrectable := some a }
    | Option.none =>
      if s.xferMustWait f.owner f.grove xid raw then
        match f.owner with
        | .ctx c => s.blockFor c (2 ^ 32)
        | .stream _ => s.beginExec f { f.exec 6 with issues := some (raw, xid) }
      else (s.beginExec f (f.exec 6)).dmaIssue f.owner f.grove xid raw

/-- WAIT's issue checks (R93). -/
def waitCheck (f : Fetched) : IssueCheck :=
  let c := f.cmd
  { fieldsOk := commonFields c 0 false false false false && noFormats c && dimOf c == 0 && fld (extOf c) 16 16 == 0
    formatsOk := true
    regions := []
    programOk := true
    cycles := 4 }

/-- WAIT issues (R105): with a named transfer in flight a context blocks and resumes at the next command, and a standing Grove
idles. -/
def State.issueWait (s : State) (f : Fetched) : State :=
  match f.firstFault (waitCheck f) with
  | some code => s.issueFault f code
  | Option.none =>
    let mask := fld (extOf f.cmd) 0 16
    if (bitsOf 16 mask).any (s.xidBusy f.owner) then
      match f.owner with
      | .ctx c =>
        let s := s.modCtx c (fun k => { k with head := (k.head + 1) % 2 ^ k.ringOrder })
        let s := if s.blockLive (0x10 + f.grove) then s.incR64 (Reg.GRV_ISSUED_LO f.grove) 1 else s
        s.blockFor c mask
      | .stream _ => s
    else s.beginExec f (f.exec 4)

/-- NOP (R93). -/
def execNop (g : Fin 16) (s : State) : Host.Outcome State Fault Refusal :=
  .next (s.issueIf g.val (fun f => hasOp 0 f || decide (9 < opcodeOf f.cmd)) State.issueNop)
/-- MATMUL (R120). -/
def execMatmul (g : Fin 16) (s : State) : Host.Outcome State Fault Refusal := .next (s.issueIf g.val (hasOp 1) State.issueMatmul)
/-- CONV (R145): the convolution mode, and a reserved one. -/
def execConv (g : Fin 16) (s : State) : Host.Outcome State Fault Refusal :=
  .next (s.issueIf g.val (fun f => hasOp 2 f && s.convMode f != 1 && s.convMode f != 2 && s.convMode f != 3) State.issueConv)
/-- POOL_MAX (R151). -/
def execPoolMax (g : Fin 16) (s : State) : Host.Outcome State Fault Refusal :=
  .next (s.issueIf g.val (fun f => hasOp 2 f && s.convMode f == 1) State.issueConv)
/-- POOL_AVG (R151). -/
def execPoolAvg (g : Fin 16) (s : State) : Host.Outcome State Fault Refusal :=
  .next (s.issueIf g.val (fun f => hasOp 2 f && s.convMode f == 2) State.issueConv)
/-- ARGMAX (R152). -/
def execArgmax (g : Fin 16) (s : State) : Host.Outcome State Fault Refusal :=
  .next (s.issueIf g.val (fun f => hasOp 2 f && s.convMode f == 3) State.issueConv)
/-- EW (R124). -/
def execEw (g : Fin 16) (s : State) : Host.Outcome State Fault Refusal := .next (s.issueIf g.val (hasOp 3) State.issueEw)
/-- SCAN (R179). -/
def execScan (g : Fin 16) (s : State) : Host.Outcome State Fault Refusal := .next (s.issueIf g.val (hasOp 4) State.issueScan)
/-- ATTN (R160). -/
def execAttn (g : Fin 16) (s : State) : Host.Outcome State Fault Refusal := .next (s.issueIf g.val (hasOp 5) State.issueAttn)
/-- MOVE (R93). -/
def execMoveBytes (g : Fin 16) (s : State) : Host.Outcome State Fault Refusal := .next (s.issueIf g.val (hasOp 6) State.issueMove)
/-- XFER (R227). -/
def execXfer (g : Fin 16) (s : State) : Host.Outcome State Fault Refusal := .next (s.issueIf g.val (hasOp 7) State.issueXfer)
/-- WAIT (R105). -/
def execWaitXfers (g : Fin 16) (s : State) : Host.Outcome State Fault Refusal := .next (s.issueIf g.val (hasOp 8) State.issueWait)
/-- TALLY (R138). -/
def execTally (g : Fin 16) (s : State) : Host.Outcome State Fault Refusal := .next (s.issueIf g.val (hasOp 9) State.issueTally)

/-! ### Completion and stop (R102 to R104) -/

/-- The writes of a finished command, the tiles of an allocation marked dirty (R219). -/
def State.applyWrites (s : State) (g : Nat) (e : Exec) : State :=
  let s := s.wrGrove g e.writes
  match e.owner with
  | .ctx c => e.writes.foldl (fun s w => s.markDirty c (w.1 - (s.ctx c).allocBase) w.2.length) s
  | .stream _ => s

/-- Whether `cycles` can be the count at which a command completes: within its formula cycles, or, for an XFER that waited,
within its cap (R102, R103). -/
def Exec.endsAt (e : Exec) (cycles : Nat) : Bool :=
  decide (1 ≤ cycles) && decide (cycles ≤ (if e.issues.isSome then e.cap else e.cycles))

/-- COMMAND_COMPLETE (R83, R102): the command's last write is made. One that read an uncorrectable line stops with fault 0x09
instead (Table 12.2), and an XFER that still waits does not complete. -/
def State.commandComplete (s : State) (g cycles : Nat) : State :=
  match (s.grove g).run with
  | Option.none => s
  | some e =>
    if !e.endsAt cycles then s
    else match e.uncorrectable with
      | some a => (s.uncorrectable a 0).stopCommand g e 0x09 cycles
      | Option.none => match e.issues with
        | some (raw, xid) =>
          if s.xferMustWait e.owner g xid raw then s
          else (s.accountTile g e cycles).dmaIssue e.owner g xid raw
        | Option.none => (s.applyWrites g e).accountTile g e cycles

/-- A Lookout fault of a context (R379): under TEARDOWN its transfers end and its Skid entries are invalidated; under
PARTITION a reset of D3 is requested too. -/
def State.lookoutContext (s : State) (c code : Nat) : State :=
  let ts := (s.dma.xfers.filter (fun t => t.2.owner == .ctx c)).map (·.1)
  let s := ts.foldl (fun s t => s.endXfer t false) s
  let s := { s with groves := tmap (fun _ (x : Grove) =>
      { x with skid := x.skid.filter (fun e => e.2.owner != Owner.ctx c), replaced := x.replaced.filter (fun r => r.1 != Owner.ctx c) }) s.groves }
  if s.rb Reg.LKT_CFG 0 then s.requestReset 3 { requester := 2, lktCode := code } else s

/-- CAP_STOP (R103, R104, R107): a command that has not completed when the count reaches its cap is stopped and faults; the
Lookout records it. -/
def State.capStop (s : State) (g : Nat) : State :=
  match (s.grove g).run with
  | Option.none => s
  | some e =>
    let s := s.stopCommand g e 0x08 e.cap
    let s := s.lookout 1 e.owner.domain (some g) e.owner.parts.1 e.owner.parts.2
    match e.owner with
    | .ctx c => s.lookoutContext c 1
    | .stream _ => s

/-- COMMAND_COMPLETE (R102). -/
def execCommandComplete (g : Fin 16) (cycles : Nat) (s : State) : Host.Outcome State Fault Refusal := .next (s.commandComplete g.val cycles)
/-- CAP_STOP (R103). -/
def execCapStop (g : Fin 16) (s : State) : Host.Outcome State Fault Refusal := .next (s.capStop g.val)

end Sys2Proof.Machine
end

