-- ==== Sys2Proof/Machine/Sched.lean ====
section
/-! DEFINITION. Open scheduling: doorbells, dispatch at a tile boundary, residency and swaps, windows (R65 to R77, R80). -/
namespace Sys2Proof.Machine
open Sys2Proof

/-! ### Contexts -/

/-- The CAUSE shown for a context: a server whose group has entries waits on a sequence step (R198). -/
def State.shownCause (s : State) (c : Nat) : Nat :=
  let k := s.ctx c
  let blocked := decide (k.state = .blocked) || decide (k.state = .swappedBlocked)
  if blocked && k.cause == 0
      && (List.range 16).any (fun g => s.grpEn g && s.grpServer g == c && s.seqt.entries.any (fun e => e.2.group == g)) then 3
  else k.cause

/-- Word `i` of a context-table entry (Table 3.4). -/
def State.ctxWord (s : State) (c : Nat) : Nat → Nat
  | 0 =>
    let k := s.ctx c
    k.state.code + k.prio * 2 ^ 4 + k.iso * 2 ^ 8 + b2n k.resident * 2 ^ 12 + s.shownCause c * 2 ^ 16 + k.grove * 2 ^ 24
  | 1 => (s.ctx c).mask + (s.ctx c).sramKib * 2 ^ 16
  | 2 => (s.ctx c).ringBase % 2 ^ 32 + (s.ctx c).ringOrder
  | 3 => (s.ctx c).ringBase / 2 ^ 32
  | 4 => (s.ctx c).head + (s.ctx c).tail * 2 ^ 16
  | 5 => (s.ctx c).quantumUs
  | 6 => (s.ctx c).lastRun
  | 7 => (s.ctx c).chargeUs
  | _ => 0

/-- A write of SCH_CTX_SEL snapshots that entry (R80). -/
def State.schCtxSel (s : State) (v : Nat) : State :=
  let s := s.storeReg false Reg.SCH_CTX_SEL v
  let c := s.rf Reg.SCH_CTX_SEL 0 7
  forRange 8 s (fun s i => s.put (Reg.SCH_CTX_DATA i) (s.ctxWord c i))

/-- The raw DDR5 rate of the trained configuration in MB/s (Table 2.5). -/
def State.ddrRaw (s : State) : Nat := if s.ddr.trainDone then ddrRawRate s.ddr.trainSpeed s.ddr.trainMask else 0

/-- Whether SCH_SWAP_MBPS_g may take a value (R76): the sum over the Groves stays within 25 % of the raw DDR5 rate. -/
def State.swapRateOk (s : State) (g v : Nat) : Bool :=
  let sum := ((List.range 16).map (fun h => if h = g then v else s.rn (Reg.SCH_SWAP_MBPS h))).sum
  decide (500 ≤ v) && decide (v ≤ 4000) && decide (4 * sum ≤ s.ddrRaw)

/-- The kernel writes SCH_SWAP_MBPS_g: a write against R76 is ignored and recorded; one out of range is a reserved encoding
(R9). -/
def State.setSwapRate (s : State) (g v : Nat) : State :=
  if v < 500 ∨ 4000 < v then s
  else if s.swapRateOk g v then s.put (Reg.SCH_SWAP_MBPS g) v
  else s.reportOwn 2 Reg.MODE_EVT 1

/-- SCH_CTX_SEL (R80). -/
def execSchCtxSel (init : Initiator) (value : Word) (s : State) : Host.Outcome State Fault Refusal :=
  .next (s.viaWrite init Reg.SCH_CTX_SEL false (·.schCtxSel value.toNat))
/-- SCH_SWAP_MBPS (R76). -/
def execSchSwapMbps (init : Initiator) (g : Fin 16) (value : Word) (s : State) : Host.Outcome State Fault Refusal :=
  .next (s.viaWrite init (Reg.SCH_SWAP_MBPS g.val) true (·.setSwapRate g.val value.toNat))

/-! ### Allocations (R73, R91) -/

/-- The contexts resident on Grove `g`, lowest ID first. -/
def State.residents (s : State) (g : Nat) : List Nat :=
  (s.ctxs.filter (fun e => e.2.resident && e.2.grove == g)).map (·.1)
/-- Free KiB of Grove `g`'s SRAM. -/
def State.freeKib (s : State) (g : Nat) : Nat := 2048 - ((s.residents g).map (fun c => (s.ctx c).sramKib)).sum

/-- Bytes copied within a Grove's SRAM; the lines that were uncorrectable stay so where they come to lie. -/
def State.moveSram (s : State) (g src dst n : Nat) : State :=
  if src = dst then s else
  let bad := (s.badIn (groveBase g + src) n).map (fun l => l + dst / 64 - src / 64)
  let s := s.wrBytes (groveBase g + dst) (s.rdBytes (groveBase g + src) n)
  { s with badLines := s.badLines ++ bad }

/-- One resident allocation moved down to `at_`; a command in execution there writes to its new place. -/
def State.slideCtx (s : State) (g : Nat) (at_ : Nat) (c : Nat) : State :=
  let old := (s.ctx c).allocBase
  let s := s.moveSram g old at_ ((s.ctx c).sramKib * 1024)
  let s := s.modCtx c (fun k => { k with allocBase := at_ })
  s.modGrove g (fun x => { x with run := x.run.map (fun e =>
    if e.owner = .ctx c then 
      let move := fun (w : Nat × List Byte) => (w.1 - old + at_, w.2)
      { e with writes := e.writes.map move, drains := e.drains.map (fun d => { out := d.out.map move, entry := d.entry.map move }) }
    else e) })

/-- Allocations of Grove `g` placed one after another from offset `p`. -/
def State.slideAll (s : State) (g p : Nat) : List Nat → State
  | [] => s
  | c :: cs => (s.slideCtx g p c).slideAll g (p + (s.ctx c).sramKib * 1024) cs

/-- The resident allocations of Grove `g` packed from offset 0, so that what is free is one range (log entry 22). -/
def State.compact (s : State) (g : Nat) : State :=
  let order := (s.residents g).mergeSort (fun a b => decide ((s.ctx a).allocBase ≤ (s.ctx b).allocBase))
  s.slideAll g 0 order

/-- The end of the packed allocations of Grove `g`. -/
def State.packedEnd (s : State) (g : Nat) : Nat := ((s.residents g).map (fun c => (s.ctx c).sramKib * 1024)).sum

/-! ### Residency (R73 to R76) -/

/-- Whether the scheduler may use Grove `g` for the open partition: open, D3 running, not stopped for a mode change (R50, R77)
or a whole-fabric test (R386). -/
def State.openGrove (s : State) (g : Nat) : Bool :=
  decide (s.role g = .open) && s.running 3 && !(decide (2 ≤ s.mode.step) && s.mode.changing.contains g) && !s.lkt.test

/-- The Grove of a level-2 context's window (R69). -/
def State.windowGrove (s : State) (c : Nat) : Option Nat :=
  (List.range 16).find? (fun g => (s.grove g).windows.any (fun w => w.ctx == c))

/-- The Groves on which a context may become resident. -/
def State.homes (s : State) (c : Nat) : List Nat :=
  let gs := (List.range 16).filter s.openGrove
  if (s.ctx c).iso = 2 then gs.filter (fun g => s.windowGrove c == some g) else gs.filter (fun g => bitOf (s.ctx c).mask g)

/-- How long ago a context ran, in ticks modulo 2³². -/
def State.ctxAge (s : State) (c : Nat) : Nat := (s.rn Reg.TICK_COUNT_LO + 2 ^ 32 - (s.ctx c).lastRun) % 2 ^ 32

/-- Whether victim `a` is taken before victim `b` (R73): BLOCKED before READY, then the oldest LAST_RUN, then the higher ID. -/
def State.victimBefore (s : State) (a b : Nat) : Bool :=
  let ba := decide ((s.ctx a).state = .blocked)
  let bb := decide ((s.ctx b).state = .blocked)
  if ba != bb then ba
  else if s.ctxAge a ≠ s.ctxAge b then decide (s.ctxAge b < s.ctxAge a)
  else decide (b < a)

/-- The contexts on Grove `g` that may be evicted for context `c`, in the order of R73. -/
def State.victims (s : State) (g c : Nat) : List Nat :=
  ((s.residents g).filter (fun v =>
    let k := s.ctx v
    k.iso != 2 && (decide (k.state = .blocked) || (decide (k.state = .ready) && decide ((s.ctx c).prio < k.prio))))).mergeSort s.victimBefore

/-- The victims taken until `need` KiB more are free; none when they do not suffice. -/
def State.takeVictims (s : State) : List Nat → Nat → Option (List Nat)
  | vs, need =>
    if need = 0 then some [] else
    match vs with
    | [] => Option.none
    | v :: vs => (s.takeVictims vs (need - (s.ctx v).sramKib)).map (v :: ·)

/-- Dirty bytes that evicting some contexts writes (R219). -/
def State.evictedBytes (s : State) (vs : List Nat) : Nat := (vs.map (fun v => (s.ctx v).dirty.length * 4096)).sum

/-- The Grove and victims for a swapped context (R73): the lowest-numbered Grove with free allocation, else the one that needs
the fewest evicted bytes, the lower number where they are equal. -/
def State.chooseHome (s : State) (c : Nat) : Option (Nat × List Nat) :=
  let hs := s.homes c
  match hs.find? (fun g => decide ((s.ctx c).sramKib ≤ s.freeKib g)) with
  | some g => some (g, [])
  | Option.none =>
    let cs := hs.filterMap (fun g => (s.takeVictims (s.victims g c) ((s.ctx c).sramKib - s.freeKib g)).map (fun vs => (g, vs)))
    match cs with
    | [] => Option.none
    | x :: xs => some (xs.foldl (fun a b => if s.evictedBytes b.2 < s.evictedBytes a.2 then b else a) x)

/-- Context `c`, runnable and not resident, is considered (R73, R75): its swap begins where its Grove is not at another. -/
def State.considerSwap (s : State) (c : Nat) : State :=
  let k := s.ctx c
  let coming := (List.range 16).any (fun g => match (s.grove g).swap with | some w => w.incoming == some c | Option.none => false)
  if k.state ≠ .swapped ∨ k.stopReq = true ∨ coming then s
  else match s.chooseHome c with
    | Option.none => s
    | some (g, vs) =>
      if (s.grove g).swap.isSome then s
      else s.modGrove g (fun x => { x with swap := some { incoming := some c, victims := vs } })

/-- Every SWAPPED context is considered, by priority and then by ID (R75). -/
def State.considerSwaps (s : State) : State :=
  forRange 8 s (fun s p => (s.ctxs.map (·.1)).foldl (fun s c => if (s.ctx c).prio = p then s.considerSwap c else s) s)

/-- The dirty tiles of a resident allocation written into its image (R219). -/
def State.saveImage (s : State) (c : Nat) : State :=
  let k := s.ctx c
  let img := k.dirty.foldl (fun m i => overlay m (i * 4096) (s.rdBytes (groveBase k.grove + k.allocBase + i * 4096) 4096))
    (padTo 0 (k.sramKib * 1024) k.image)
  (s.modCtx c (fun k => { k with image := img, dirty := [] })).countBytes (k.dirty.length * 4096) (k.dirty.length * 4160)

/-- A resident allocation's eviction ends (R75): its state stands in its image, and the context is no longer resident. An
uncorrectable line of it makes the context FAULTED (R231). -/
def State.evictCtx (s : State) (c : Nat) : State :=
  let k := s.ctx c
  let bad := k.dirty.flatMap (fun i => s.badIn (groveBase k.grove + k.allocBase + i * 4096) 4096)
  let s := s.saveImage c
  let s := s.modCtx c (fun k => { k with resident := false, state := match k.state with
    | .ready => .swapped | .running => .swapped | .blocked => .swappedBlocked | x => x })
  let s := { s with groves := tmap (fun _ (x : Grove) => if x.cur = some c then { x with cur := Option.none } else x) s.groves }
  match bad with
  | [] => s
  | l :: _ => ((s.uncorrectable (l * 64) 0).showDmaFault (.ctx c) k.grove 0 0 9).faultCtx c 0xA

/-- A context brought in on Grove `g` (R73, R74): its image fills its allocation, every tile clean. -/
def State.bringIn (s : State) (g c : Nat) : State :=
  let s := s.compact g
  let base := s.packedEnd g
  let s := s.wrBytes (groveBase g + base) (padTo 0 ((s.ctx c).sramKib * 1024) (s.ctx c).image)
  let s := s.countBytes ((s.ctx c).sramKib * 1024) ((s.ctx c).sramKib / 4 * 4160)
  s.modCtx c (fun k => { k with resident := true, grove := g, allocBase := base, dirty := [],
                                state := match k.state with | .swapped => .ready | .swappedBlocked => .blocked | x => x })

/-! ### Stop (R65, Table 19.2) -/

/-- The queue pairs bound to context `c` are disabled (R437). -/
def State.unbindCtx (s : State) (c : Nat) : State :=
  forRange 128 s (fun s q =>
    let v := s.rn (Reg.QP_CFG q)
    if bitOf v 0 && bitOf v 1 && fld v 8 7 == c then s.setReg (Reg.QP_CFG q) (setFld v 0 1 0) else s)

/-- The windows that name context `c` are revoked (R396). -/
def State.revokeCtx (s : State) (c : Nat) : State :=
  forRange 256 s (fun s w =>
    let e := s.rn (Reg.SEC_WIN w 0)
    if bitOf e 0 && !bitOf e 6 && fld e 8 7 == c then s.setReg (Reg.SEC_WIN w 0) 0 else s)

/-- A stop takes effect (R65, R195, R200, R396, R404, R437): STOPPED, its allocation and image released, its sealing key
destroyed, its windows and queue pairs gone. -/
def State.stopNow (s : State) (c : Nat) : State :=
  let s := s.modCtx c (fun k => { k with state := .stopped, cause := 0, resident := false, stopReq := false, image := [], dirty := [], waitMask := 0 })
  let s := { s with groves := tmap (fun _ (x : Grove) =>
      { x with cur := if x.cur = some c then Option.none else x.cur,
               skid := x.skid.filter (fun e => e.2.owner != Owner.ctx c), replaced := x.replaced.filter (fun r => r.1 != Owner.ctx c) }) s.groves }
  let s := { s with sec.sealKeys := tdel s.sec.sealKeys c, sec.packages := tdel s.sec.packages c }
  ((s.revokeCtx c).unbindCtx c).contextLost c

/-- Whether a swap or eviction of context `c` is in progress. -/
def State.inSwap (s : State) (c : Nat) : Bool :=
  (List.range 16).any (fun g => match (s.grove g).swap with
    | some w => w.incoming == some c || w.victims.contains c
    | Option.none => false)

/-- A stop is requested (R65): it takes effect at the context's next tile boundary, or at once where no tile of it is in
execution and no swap of it is in progress. -/
def State.stopCtx (s : State) (c : Nat) : State :=
  let busy := (List.range 16).any (fun g => match (s.grove g).run with | some e => e.owner == .ctx c | Option.none => false)
  if busy || s.inSwap c then s.modCtx c (fun k => { k with stopReq := true }) else s.stopNow c

/-! ### Doorbells (R67) -/

/-- A doorbell's new TAIL makes a waiting context runnable (R65, R67). -/
def State.ringDoorbell (s : State) (c tail : Nat) : State :=
  let k := s.ctx c
  if k.state = .free ∨ k.state = .stopped ∨ k.state = .faulted then s.reportOwn 2 Reg.MODE_EVT 2 (some c)
  else if tail = k.tail then s
  else if !s.thePlan.anyOpen then s.faultCtx c 0x8
  else if 2 ^ k.ringOrder ≤ tail then s.faultCtx c 0x9
  else
    let s := s.modCtx c (fun k => { k with tail := tail })
    let s := if (k.state = .blocked ∨ k.state = .swappedBlocked) ∧ k.cause = 0 then s.wakeCtx c else s
    s.considerSwaps

/-- A write of SCH_DOORBELL_c. -/
def State.doorbell (s : State) (c v : Nat) : State :=
  let s := s.storeReg false (Reg.SCH_DOORBELL c) v
  s.ringDoorbell c (fld v 0 16)

/-- DOORBELL_WRITE (R67). -/
def execDoorbellWrite (init : Initiator) (ctx : Fin 128) (value : Word) (s : State) : Host.Outcome State Fault Refusal :=
  .next (s.viaWrite init (Reg.SCH_DOORBELL ctx.val) false (·.doorbell ctx.val value.toNat))

/-! ### Dispatch (R68 to R70) -/

/-- The contexts that may run on Grove `g` now: READY or RUNNING, resident there, no victim of its swap; in a window its
context alone, outside windows no level-2 context (R68, R69). -/
def State.runnable (s : State) (g : Nat) : List Nat :=
  (s.residents g).filter (fun c =>
    let k := s.ctx c
    (decide (k.state = .ready) || decide (k.state = .running)) && !k.stopReq
      && (match (s.grove g).swap with | some w => !w.victims.contains c | Option.none => true)
      && (match (s.grove g).inWindow with | some w => w == c | Option.none => k.iso != 2))

/-- Fabric cycles of a context's quantum at the current operating point (R68). -/
def State.quantumCycles (s : State) (c : Nat) : Nat := (s.ctx c).quantumUs * opMhz s.theMode.opPoint

/-- The context that runs next on Grove `g` (R68): the most urgent; of equal ones the current until its quantum has run, then
the next in turn. -/
def State.pickCtx (s : State) (g : Nat) : Option Nat :=
  let cs := s.runnable g
  let prio := cs.foldl (fun a c => min a (s.ctx c).prio) 8
  let top := cs.filter (fun c => (s.ctx c).prio == prio)
  match (s.grove g).cur with
  | some c =>
    if top.contains c then
      if s.quantumCycles c ≤ (s.ctx c).ranCycles then
        match top.find? (fun d => decide (c < d)) with
        | some d => some d
        | Option.none => top.head?
      else some c
    else top.head?
  | Option.none => top.head?

/-- Grove `g` turns to a context at a tile boundary: the one that gives way is READY again, its quantum beginning anew if it
had run out. -/
def State.dispatch (s : State) (g : Nat) : State :=
  let next := s.pickCtx g
  let s := match (s.grove g).cur with
    | some c =>
      if next = some c then s
      else s.modCtx c (fun (k : Ctx) =>
        let state := if k.state = CtxState.running then CtxState.ready else k.state
        { k with state := state, ranCycles := if s.quantumCycles c ≤ k.ranCycles then 0 else k.ranCycles })
    | Option.none => s
  let s := s.modGrove g (fun x => { x with cur := next })
  match next with
  | some c => s.modCtx c (fun k => { k with state := .running })
  | Option.none => s

/-- What a tile boundary ends for the context that ran (Table 3.3): a stop takes effect, an empty ring blocks. -/
def State.settleCtx (s : State) (g : Nat) : State :=
  match (s.grove g).cur with
  | some c =>
    if (s.ctx c).stopReq then s.stopNow c
    else if (s.ctx c).state = .running ∧ (s.ctx c).head = (s.ctx c).tail then s.blockCtx c 0
    else s
  | Option.none => s

/-- The contexts resident on Grove `g` whose rings are empty wait (R65, CAUSE 0x0). -/
def State.blockEmpty (s : State) (g : Nat) : State :=
  (s.residents g).foldl (fun s c =>
    if (s.ctx c).state = .ready ∧ (s.ctx c).head = (s.ctx c).tail then s.blockCtx c 0 else s) s

/-- TILE_BOUNDARY on Grove `g` (R68, R71, R73): no command in execution there; the context that ran is settled, swaps are
considered, and the next context is dispatched. -/
def State.tileBoundary (s : State) (g : Nat) : State :=
  if s.role g ≠ .open ∨ s.running 3 = false ∨ (s.grove g).run.isSome ∨ (s.grove g).overdue = true then s
  else
    let s := ((s.settleCtx g).blockEmpty g).considerSwaps
    if s.openGrove g then s.dispatch g
    else match (s.grove g).cur with
      | some c => (s.modCtx c (fun (k : Ctx) => { k with state := if k.state = CtxState.running then CtxState.ready else k.state })).modGrove g
          (fun x => { x with cur := Option.none })
      | Option.none => s

/-- TILE_BOUNDARY (R68). -/
def execTileBoundary (g : Fin 16) (s : State) : Host.Outcome State Fault Refusal := .next (s.tileBoundary g.val)

/-- SWAP_COMPLETE on Grove `g` (R73 to R75): the victims' evictions end, the incoming context is resident and charged with the
elapsed time, and waiting swaps are considered. -/
def State.swapComplete (s : State) (g elapsedUs : Nat) : State :=
  match (s.grove g).swap with
  | Option.none => s
  | some w =>
    let s := w.victims.foldl State.evictCtx s
    let s := match w.incoming with
      | some c =>
        let s := s.bringIn g c
        s.modCtx c (fun k => { k with chargeUs := satAdd32 k.chargeUs elapsedUs,
                                      ranCycles := k.ranCycles + elapsedUs * opMhz s.theMode.opPoint })
      | Option.none => s
    let s := s.modGrove g (fun x => { x with swap := Option.none })
    let s := (w.victims ++ w.incoming.toList).foldl (fun s c => if (s.ctx c).stopReq then s.stopNow c else s) s
    s.considerSwaps

/-- SWAP_COMPLETE (R75). -/
def execSwapComplete (g : Fin 16) (elapsedUs : Nat) (s : State) : Host.Outcome State Fault Refusal := .next (s.swapComplete g.val elapsedUs)

/-! ### Windows (R69) -/

/-- Cycles of one tick at TICK_MAX in a mode. -/
def tickCycles (m : ModeRec) : Nat := opMhz m.opPoint * 1000000 / m.tickMax
/-- SHARE and ISO_LEVEL of a tenant slot record (Table 19.6). -/
def tenantShare (r : List Byte) : Nat := fld (u32 r 4) 0 10
def tenantIso (r : List Byte) : Nat := fld (u32 r 0) 8 2
def tenantCtx (r : List Byte) : Nat := fld (u32 r 0) 0 7

/-- The windows of a mode (R69): (Grove, window) by ascending context, and the contexts that get none. `gs` are the open
Groves not yet full, `at_` the cycle at which the next window of the first begins. -/
def placeWindows (tick : Nat) : List (Nat × Nat) → List Nat → Nat → List (Nat × Window) × List Nat
  | [], _, _ => ([], [])
  | (c, _) :: cs, [], at_ => let r := placeWindows tick cs [] at_; (r.1, c :: r.2)
  | (c, n) :: cs, g :: gs, at_ =>
    if at_ + n ≤ tick then
      let r := placeWindows tick cs (g :: gs) (at_ + n)
      ((g, { ctx := c, start := at_, length := n }) :: r.1, r.2)
    else match gs with
      | [] => let r := placeWindows tick cs (g :: gs) at_; (r.1, c :: r.2)
      | h :: hs =>
        if n ≤ tick then
          let r := placeWindows tick cs (h :: hs) n
          ((h, { ctx := c, start := 0, length := n }) :: r.1, r.2)
        else let r := placeWindows tick cs (h :: hs) 0; (r.1, c :: r.2)

/-- The level-2 contexts of a plan by ascending ID, with the lengths of their windows in a mode. -/
def Plan.windowLengths (p : Plan) (m : ModeRec) : List (Nat × Nat) :=
  (List.range 128).filterMap (fun c =>
    match p.tenants.find? (fun r => tenantCtx r == c && tenantIso r == 2) with
    | some r => some (c, tenantShare r * tickCycles m / 1000)
    | Option.none => Option.none)

/-- The windows of the current mode placed (R69); a context whose window fits nowhere is recorded. -/
def State.setWindows (s : State) : State :=
  let m := s.theMode
  let open_ := (List.range 16).filter (fun g => decide (m.role g = .open))
  let (ws, lost) := placeWindows (tickCycles m) (s.thePlan.windowLengths m) open_ 0
  let s := forRange 16 s (fun s g =>
    s.modGrove g (fun x => { x with windows := (ws.filter (fun w => w.1 == g)).map (·.2), inWindow := Option.none }))
  if open_.isEmpty then s else lost.foldl (fun s c => s.reportOwn 2 Reg.MODE_EVT 3 (some c)) s

/-- WINDOW_BOUNDARY (R69): a window of Grove `g` begins or ends. -/
def State.windowBoundary (s : State) (g c : Nat) (begins : Bool) : State :=
  if s.role g ≠ .open ∨ !(s.grove g).windows.any (fun w => w.ctx == c) then s
  else if begins then s.modGrove g (fun x => { x with inWindow := some c })
  else if (s.grove g).inWindow = some c then s.modGrove g (fun x => { x with inWindow := Option.none })
  else s

/-- WINDOW_BOUNDARY (R69). -/
def execWindowBoundary (g : Fin 16) (ctx : Fin 128) (begins : Bool) (s : State) : Host.Outcome State Fault Refusal :=
  .next (s.windowBoundary g.val ctx.val begins)

/-- Every context resident on Grove `g` is evicted without charge (R77): mode changes, tests. -/
def State.evictAll (s : State) (g : Nat) : State := (s.residents g).foldl State.evictCtx s

end Sys2Proof.Machine
end

