-- ==== Sys2Proof/Machine/Seq.lean ====
section
/-! DEFINITION. The active sequence table: admission and the other operations, submissions, the build of a step, its release,
completion and scheduled boundaries (chapter 10, R191 to R205). -/
namespace Sys2Proof.Machine
open Sys2Proof

/-! ### Rings (R193, R195) -/

/-- Whether `n` bytes from `base` lie wholly inside one valid memory window over DDR5 that serves context `o` (R20, R394). -/
def State.tenantWindow (s : State) (o base n : Nat) : Bool :=
  decide (ddrBase ≤ base) &&
  (List.range 256).any (fun w =>
    let w0 := s.rn (Reg.SEC_WIN w 0)
    let b := s.rn (Reg.SEC_WIN w 1) + 2 ^ 32 * s.rn (Reg.SEC_WIN w 2)
    bitOf w0 0 && !bitOf w0 4 && fld w0 8 7 == o && decide (b ≤ base) && decide (base + n ≤ b + s.rn (Reg.SEC_WIN w 3)))

/-- Bytes of a ring of 2^order words. -/
def ringBytes (order : Nat) : Nat := 4 * 2 ^ order

/-- Words of input an entry has waiting (R193). -/
def SeqEntry.pendingInput (x : SeqEntry) : Nat := (x.inTail + 2 ^ x.inOrder - x.inHead) % 2 ^ x.inOrder
/-- Free slots of an entry's output ring, `held` results being kept for a boundary: one slot always stays empty (R193). -/
def SeqEntry.outFree (x : SeqEntry) (held : Nat) : Nat := (x.outHead + 2 * 2 ^ x.outOrder - x.outTail - 1) % 2 ^ x.outOrder - held

/-- The state an entry's fields give it (Table 10.2). -/
def SeqEntry.byFields (x : SeqEntry) : SeqState :=
  if x.maxPos ≤ x.pos then .done else if x.nextValid ∨ x.pendingInput ≠ 0 then .ready else .idle

/-- STATE as Table 10.2 codes it. -/
def SeqState.code : SeqState → Nat
  | .idle => 1 | .ready => 2 | .held => 3 | .done => 4 | .faulted => 5 | .retiring => 6

/-- Entry `e` becomes FAULTED (Table 10.2, Table 10.9). -/
def State.faultEntry (s : State) (e : Nat) : State :=
  let s := (s.modEntry e (fun x => { x with state := .faulted })).evt Reg.SEQ_EVT 3
  s.reportOwn 2 Reg.SEQ_EVT 0 (some (s.seqEntry e).owner)

/-! ### SEQ_OP (R195) -/

/-- The staged words that must be zero (R193, R195). -/
def stagedClean (w : Nat → Nat) : Bool :=
  fld (w 0) 0 4 == 0 && fld (w 0) 12 4 == 0 && fld (w 0) 23 9 == 0 && fld (w 1) 10 6 == 0 && fld (w 1) 26 6 == 0
    && fld (w 4) 0 16 == 0 && fld (w 5) 16 16 == 0 && fld (w 6) 5 7 == 0 && fld (w 8) 5 7 == 0 && fld (w 10) 24 8 == 0
    && w 11 == 0 && w 12 == 0 && w 13 == 0 && w 14 == 0 && w 15 == 0

/-- The staged fields are in range (Table 10.1). -/
def stagedRange (w : Nat → Nat) : Bool :=
  let i := fld (w 6) 0 5
  let o := fld (w 8) 0 5
  decide (1 ≤ fld (w 1) 16 10) && decide (fld (w 1) 16 10 ≤ 512) && decide (4 ≤ i) && decide (i ≤ 16) && decide (4 ≤ o)
    && decide (o ≤ 16) && decide (fld (w 4) 16 16 < 2 ^ i) && decide (fld (w 5) 0 16 < 2 ^ o)

/-- The entry that staged words spell (Table 10.1); READY when IN_TAIL ≠ IN_HEAD, else IDLE (R195). -/
def stagedEntry (w : Nat → Nat) : SeqEntry :=
  { state := if fld (w 4) 16 16 = 0 then .idle else .ready
    prio := fld (w 0) 4 2, gen := bitOf (w 0) 6, stopEn := bitOf (w 0) 7, group := fld (w 0) 8 4, owner := fld (w 0) 16 7,
    list := fld (w 1) 0 10, chunkMax := fld (w 1) 16 10, pos := w 2, maxPos := w 3, inTail := fld (w 4) 16 16,
    outHead := fld (w 5) 0 16, inBase := fld (w 6) 12 20 * 4096 + w 7 * 2 ^ 32, inOrder := fld (w 6) 0 5,
    outBase := fld (w 8) 12 20 * 4096 + w 9 * 2 ^ 32, outOrder := fld (w 8) 0 5, stopToken := fld (w 10) 0 24 }

/-- The checks of ADMIT by ascending code (Table 10.3; log entry 23). -/
def State.admitError (s : State) (w : Nat → Nat) : Nat :=
  let x := stagedEntry w
  let cfg := s.rn (Reg.SEQ_GRP_CFG x.group)
  let l := s.plist x.list
  let server := fld cfg 8 7
  if 512 ≤ s.seqt.entries.length then 0x03
  else if !bitOf cfg 0 || (!bitOf cfg 3 && x.owner != server) || (s.ctx x.owner).iso != fld cfg 1 2 then 0x04
  else if !s.hasList x.list || l.owner != server || l.published || s.attached x.list then 0x05
  else if l.entries.any (fun f => decide (1 < (s.frame f).refs) && !(s.frame f).pub) then 0x06
  else if l.entries.length ≠ ceilDiv x.pos 16 * fld cfg 16 8 ∨ x.maxPos ≤ x.pos then 0x07
  else if !stagedClean w || !stagedRange w then 0x08
  else if !s.tenantWindow x.owner x.inBase (ringBytes x.inOrder) || !s.tenantWindow x.owner x.outBase (ringBytes x.outOrder) then 0x09
  else 0

/-- ADMIT: the lowest FREE entry takes the staged words (R195). -/
def State.seqAdmit (s : State) : OpResult :=
  let w := fun i => s.rn (Reg.SEQ_STAGE i)
  match s.admitError w, (List.range 512).find? (fun e => !s.hasEntry e) with
  | 0, some e => opOk { s with seqt.entries := tput s.seqt.entries e (stagedEntry w) } e
  | 0, Option.none => opFail s 0x03
  | err, _ => opFail s err

/-- RETIRE (R195, R201). -/
def State.seqRetire (s : State) (e : Nat) : OpResult := if s.hasEntry e then opOk (s.retireEntry e) 0 else opFail s 0x02

/-- HOLD (R195): at once, or at the end of the step that the entry is in (R201). -/
def State.seqHold (s : State) (e : Nat) : OpResult :=
  let x := s.seqEntry e
  if !s.hasEntry e || decide (x.state = .faulted) || decide (x.state = .retiring) then opFail s 0x02
  else if x.inStep then opOk (s.modEntry e (fun x => { x with holdReq := true })) 0
  else opOk (s.modEntry e (fun x => { x with state := .held })) 0

/-- RELEASE (R195): IDLE, READY or DONE by the entry's fields. -/
def State.seqRelease (s : State) (e : Nat) : OpResult :=
  if s.hasEntry e && decide ((s.seqEntry e).state = .held) then opOk (s.modEntry e (fun x => { x with state := x.byFields })) 0
  else opFail s 0x02

/-- PRIO (R195): at once, or at the end of the step that the entry is in (R201). -/
def State.seqPrio (s : State) (e p : Nat) : OpResult :=
  if !s.hasEntry e then opFail s 0x02
  else if (s.seqEntry e).inStep then opOk (s.modEntry e (fun x => { x with prioReq := some p })) 0
  else opOk (s.modEntry e (fun x => { x with prio := p })) 0

/-- A sequence operation by its code (Table 10.7); `word` is what was written to SEQ_OP. -/
def State.seqOpRun (s : State) (word : Nat) : OpResult :=
  let e := fld word 16 9
  if fld word 4 12 ≠ 0 ∨ fld word 25 7 ≠ 0 then opFail s 0x01
  else match fld word 0 4 with
    | 1 => s.seqAdmit
    | 2 => s.seqRetire e
    | 3 => s.seqHold e
    | 4 => s.seqRelease e
    | 5 => s.seqPrio e (s.rn Reg.SEQ_OP_ARG0 % 4)
    | _ => opFail s 0x01

/-- A write of SEQ_OP: the operation runs whole and its completion is shown (R195). -/
def State.seqOp (s : State) (v : Nat) : State :=
  let s := s.storeReg false Reg.SEQ_OP v
  let r := s.seqOpRun v
  let s := r.state.put Reg.SEQ_OP_STATUS r.err
  if r.err = 0 then s.put Reg.SEQ_OP_RESULT r.result else s

/-- SEQ_OP written with the operation that a row of the command table names. -/
def State.seqRow (s : State) (init : Initiator) (op : Nat) (v : Word) : State :=
  s.viaWrite init Reg.SEQ_OP false (fun s => s.seqOp (setFld v.toNat 0 4 op))

/-- ADMIT (R195). -/
def execSeqAdmit (init : Initiator) (value : Word) (s : State) : Host.Outcome State Fault Refusal := .next (s.seqRow init 1 value)
/-- RETIRE (R195). -/
def execSeqRetire (init : Initiator) (value : Word) (s : State) : Host.Outcome State Fault Refusal := .next (s.seqRow init 2 value)
/-- HOLD (R195). -/
def execSeqHold (init : Initiator) (value : Word) (s : State) : Host.Outcome State Fault Refusal := .next (s.seqRow init 3 value)
/-- RELEASE (R195). -/
def execSeqRelease (init : Initiator) (value : Word) (s : State) : Host.Outcome State Fault Refusal := .next (s.seqRow init 4 value)
/-- PRIO (R195). -/
def execSeqPrio (init : Initiator) (value : Word) (s : State) : Host.Outcome State Fault Refusal := .next (s.seqRow init 5 value)

/-! ### Snapshots (R205) -/

/-- Word `i` of entry `e` (Table 10.1); a FREE entry reads as zero. -/
def State.seqWord (s : State) (e i : Nat) : Nat :=
  match tfind s.seqt.entries e with
  | Option.none => 0
  | some x =>
    match i with
    | 0 => x.state.code + x.prio * 16 + b2n x.gen * 64 + b2n x.stopEn * 128 + x.group * 256 + b2n x.inStep * 4096
        + x.stall * 8192 + x.owner * 65536
    | 1 => x.list + x.chunkMax * 65536
    | 2 => x.pos
    | 3 => x.maxPos
    | 4 => x.inHead + x.inTail * 65536
    | 5 => x.outHead + x.outTail * 65536
    | 6 => x.inBase % 2 ^ 32 + x.inOrder
    | 7 => x.inBase / 2 ^ 32
    | 8 => x.outBase % 2 ^ 32 + x.outOrder
    | 9 => x.outBase / 2 ^ 32
    | 10 => x.stopToken
    | 11 => x.lastStep
    | 12 => x.skipped
    | 13 => x.rowsServed
    | 14 => x.nextToken + b2n x.nextValid * 2 ^ 31
    | _ => 0

/-- A write of SEQ_ENT_SEL: the selected entry copied into SEQ_ENT_DATA. -/
def State.seqEntSel (s : State) (v : Nat) : State :=
  let s := s.storeReg false Reg.SEQ_ENT_SEL v
  forRange 16 s (fun s i => s.setReg (Reg.SEQ_ENT_DATA i) (s.seqWord (fld v 0 9) i))

/-- SEQ_ENT_SEL (R205). -/
def execSeqEntSel (init : Initiator) (value : Word) (s : State) : Host.Outcome State Fault Refusal :=
  .next (s.viaWrite init Reg.SEQ_ENT_SEL false (·.seqEntSel value.toNat))

/-- What SEQ_ESTAT_e reads (Table 10.7). -/
def State.seqEstat (s : State) (e : Nat) : Nat :=
  match tfind s.seqt.entries e with
  | Option.none => 0
  | some x => x.state.code + x.stall * 16 + x.outTail * 65536

/-- What SEQ_STATUS reads (Table 10.7). -/
def State.seqStatus (s : State) : Nat :=
  s.seqt.entries.length + 65536 * maskOf ((List.range 16).map s.grpEn)

/-! ### Submissions (R195) -/

/-- IN_TAIL of an entry moved: IDLE, READY and DONE follow what is now pending (Table 10.2). -/
def SeqEntry.submit (x : SeqEntry) (tail : Nat) : SeqEntry :=
  let y := { x with inTail := tail }
  match x.state with
  | .idle => if y.pendingInput ≠ 0 then { y with state := .ready } else y
  | .ready => if x.inStep ∨ y.pendingInput ≠ 0 ∨ y.nextValid then y else { y with state := .idle }
  | .done => if y.pendingInput ≠ 0 ∧ y.pos < y.maxPos then { y with state := .ready } else y
  | _ => y

/-- A write of IN_TAIL (R195). -/
def State.submitTail (s : State) (e tail : Nat) : State :=
  let x := s.seqEntry e
  if !s.hasEntry e || decide (x.state = .faulted) || decide (x.state = .retiring) then s.reportOwn 2 Reg.SEQ_EVT 1
  else if 2 ^ x.inOrder ≤ tail then s.faultEntry e
  else s.modEntry e (·.submit tail)

/-- SEQ_SUBMIT (R195). -/
def execSeqSubmit (init : Initiator) (e : Fin 512) (value : Word) (s : State) : Host.Outcome State Fault Refusal :=
  .next (s.viaWrite init (Reg.SEQ_SUBMIT e.val) false (fun s =>
    (s.storeReg false (Reg.SEQ_SUBMIT e.val) value.toNat).submitTail e.val (fld value.toNat 0 16)))

/-- A write of OUT_HEAD: the ring's index, modulo its size (R193, R195). -/
def State.outAck (s : State) (e head : Nat) : State :=
  if s.hasEntry e then s.modEntry e (fun x => { x with outHead := head % 2 ^ x.outOrder }) else s

/-- SEQ_OUTACK (R195). -/
def execSeqOutack (init : Initiator) (e : Fin 512) (value : Word) (s : State) : Host.Outcome State Fault Refusal :=
  .next (s.viaWrite init (Reg.SEQ_OUTACK e.val) false (fun s =>
    (s.storeReg false (Reg.SEQ_OUTACK e.val) value.toNat).outAck e.val (fld value.toNat 0 16)))

/-! ### Building a step (R196, R197) -/

/-- ROWS_MAX, STEP_TICKS, PAGE_STRIDE and VOCAB of a group (Tables 10.7 and 10.8). -/
def State.grpRowsMax (s : State) (g : Nat) : Nat := s.rf (Reg.SEQ_GRP_SIZE g) 0 10
def State.grpStepTicks (s : State) (g : Nat) : Nat := s.rf (Reg.SEQ_GRP_SIZE g) 16 16
def State.grpStride (s : State) (g : Nat) : Nat := s.rf (Reg.SEQ_GRP_CFG g) 16 8
def State.grpVocab (s : State) (g : Nat) : Nat := s.rf (Reg.SEQ_GRP_VOCAB g) 0 24
def State.grpIso (s : State) (g : Nat) : Nat := s.rf (Reg.SEQ_GRP_CFG g) 1 2
/-- The work list's address (R197). -/
def State.grpWorkList (s : State) (g : Nat) : Nat := s.r64 (Reg.SEQ_WL_LO g)

/-- Results that group `g` holds for entry `e` until a boundary (R204). -/
def State.heldOutputs (s : State) (g e : Nat) : Nat := ((s.seqGroup g).outbox.filter (fun o => o.1 == e)).length

/-- Whether entry `a` comes before entry `b` among the candidates (R196). -/
def candidateBefore (a b : Nat × SeqEntry) : Bool :=
  let key (c : Nat × SeqEntry) := (c.2.prio - c.2.skipped / 64, b2n (!c.2.nextValid), c.2.lastStep, c.1)
  let (a0, a1, a2, a3) := key a
  let (b0, b1, b2, b3) := key b
  decide (a0 < b0) || (a0 == b0 && (decide (a1 < b1) || (a1 == b1 && (decide (a2 < b2) || (a2 == b2 && decide (a3 ≤ b3))))))

/-- A candidate put in its place. -/
def insertCandidate (c : Nat × SeqEntry) : List (Nat × SeqEntry) → List (Nat × SeqEntry)
  | [] => [c]
  | d :: ds => if candidateBefore c d then c :: d :: ds else d :: insertCandidate c ds

/-- The READY entries of group `g` in the order of R196. -/
def State.candidates (s : State) (g : Nat) : List Nat :=
  ((s.seqt.entries.filter (fun e => e.2.group == g && decide (e.2.state = .ready) && !e.2.inStep)).foldr insertCandidate []).map (·.1)

/-- `need` frames appended to a list, at most 4,096 in one operation (R169, R196); false where an operation fails. -/
def State.appendFrames (s : State) (l : Nat) : Nat → Nat → State × Bool
  | 0, need => (s, need == 0)
  | fuel + 1, need =>
    if need = 0 then (s, true)
    else
      let r := s.listAppend l (min need 4096)
      if r.err = 0 then State.appendFrames r.state l fuel (need - min need 4096) else (s, false)

/-- The input words of a row group, read from the entry's ring: none where an access to the ring faults or a token is not
below VOCAB (R195, R196). -/
def State.ringTokens (s : State) (x : SeqEntry) (vocab : Nat) : Nat → State × Option (List Nat)
  | 0 => (s, some [])
  | n + 1 =>
    let (s, r) := State.ringTokens s x vocab n
    match r with
    | Option.none => (s, Option.none)
    | some ts =>
      match s.plainRead (x.inBase + 4 * ((x.inHead + n) % 2 ^ x.inOrder)) 4 0 with
      | (s, .ok bs) => (s, if leNat bs < vocab then some (ts ++ [leNat bs]) else Option.none)
      | (s, .error _) => (s, Option.none)

/-- A build in progress: the state, the rows given out, the row groups, and the tokens of the batch rows. -/
structure Build where
  state : State
  rows : Nat := 0
  groups : List RowGroup := []
  tokens : List Nat := []

/-- A candidate left out for a reason (R196): STALL and SKIPPED. -/
def Build.leaveOut (b : Build) (e stall : Nat) : Build :=
  { b with state := b.state.modEntry e (fun x => { x with stall := stall, skipped := min (x.skipped + 1) 0xFFFF }) }

/-- One candidate of the build of group `g` (R196). -/
def Build.candidate (g : Nat) (b : Build) (e : Nat) : Build :=
  let s := b.state
  let x := s.seqEntry e
  let r := min (if x.nextValid then 1 else min (min x.pendingInput x.chunkMax) (x.maxPos - x.pos)) (s.grpRowsMax g - b.rows)
  let yields := x.nextValid || r == x.pendingInput
  if r = 0 then b.leaveOut e 3
  else if yields && x.outFree (s.heldOutputs g e) == 0 then b.leaveOut e 1
  else
    let (s, fits) := s.appendFrames x.list 4 (ceilDiv (x.pos + r) 16 * s.grpStride g - (s.plist x.list).entries.length)
    if !fits then { b with state := s }.leaveOut e 2
    else
      let (s, toks) :=
        if x.nextValid then (s, some [x.nextToken])
        else if !s.tenantWindow x.owner x.inBase (ringBytes x.inOrder) then (s, Option.none)
        else s.ringTokens x (s.grpVocab g) r
      match toks with
      | Option.none => { b with state := (s.faultEntry e).modEntry e (fun x => { x with skipped := min (x.skipped + 1) 0xFFFF }) }
      | some ts =>
        { state := s.modEntry e (fun x => { x with inStep := true, stall := 0 })
          rows := b.rows + r
          groups := b.groups ++ [{ entry := e, row0 := b.rows, rows := r, consumed := if x.nextValid then 0 else r, yields := yields }]
          tokens := b.tokens ++ ts }

/-- Record `i` of a work list (Table 10.4); its RESULT is left to the server. -/
def State.writeRecord (s : State) (wl : Nat) (i : Nat) (r : RowGroup) : State :=
  let x := s.seqEntry r.entry
  let a := wl + 0x40 + 32 * i
  let s := s.wrBytes a (leBytes 4 r.entry ++ leBytes 4 (r.row0 + r.rows * 65536) ++ leBytes 4 x.list ++ leBytes 4 x.pos
    ++ leBytes 4 (x.pos + r.rows) ++ leBytes 4 0)
  s.zeroMem (a + 0x1C) 4

/-- The records of a work list from record `i` on. -/
def State.writeRecords (s : State) (wl : Nat) : Nat → List RowGroup → State
  | _, [] => s
  | i, r :: rs => State.writeRecords (s.writeRecord wl i r) wl (i + 1) rs

/-- The work list of a step written whole (R197). -/
def State.writeWorkList (s : State) (g step rows : Nat) (groups : List RowGroup) (tokens : List Nat) : State :=
  let wl := s.grpWorkList g
  let s := s.wrBytes wl (leBytes 4 step ++ leBytes 4 (rows + groups.length * 65536) ++ List.replicate 56 0)
  let s := s.writeRecords wl 0 groups
  s.wrBytes (wl + 0x40 + 32 * s.grpRowsMax g) (tokens.flatMap (leBytes 4))

/-- Whether a server can run (R200). -/
def State.serverRuns (s : State) (g : Nat) : Bool :=
  match (s.ctx (s.grpServer g)).state with
  | .free | .stopped | .faulted => false
  | _ => true

/-- STEP_BUILD (R196, R197): the next step of group `g` chosen, its work list written and the step issued. -/
def State.stepBuild (s : State) (g : Nat) : State :=
  if !s.running 1 || !s.grpEn g || (s.seqGroup g).flight.isSome || !s.serverRuns g then s
  else
    let b := (s.candidates g).foldl (Build.candidate g) { state := s }
    let s := b.state
    if b.groups.isEmpty then s
    else
      let step := (s.rn (Reg.SEQ_GRP_STEP g) + 1) % 2 ^ 32
      let s := s.writeWorkList g step b.rows b.groups b.tokens
      let s := s.modSeqGroup g (fun x => { x with flight := some b.groups, released := false, goTail := Option.none, started := true })
      (s.put (Reg.SEQ_GRP_STEP g) step).evt Reg.SEQ_EVT 0

/-- STEP_BUILD (R196). -/
def execStepBuild (grp : Fin 16) (s : State) : Host.Outcome State Fault Refusal := .next (s.stepBuild grp.val)

/-! ### Release (R198, R204) -/

/-- A write of SEQ_GRP_GO_g (R198). -/
def State.grpGo (s : State) (g v : Nat) : State :=
  let x := s.seqGroup g
  if x.flight.isNone || x.released then s.evt Reg.SEQ_EVT 5
  else
    let s := s.storeReg false (Reg.SEQ_GRP_GO g) v
    if s.grpIso g = 2 then s.modSeqGroup g (fun x => { x with goTail := some (fld v 0 16) })
    else (s.modSeqGroup g (fun x => { x with released := true })).ringDoorbell (s.grpServer g) (fld v 0 16)

/-- SEQ_GRP_GO (R198). -/
def execSeqGrpGo (init : Initiator) (grp : Fin 16) (value : Word) (s : State) : Host.Outcome State Fault Refusal :=
  .next (s.viaWrite init (Reg.SEQ_GRP_GO grp.val) false (·.grpGo grp.val value.toNat))

/-! ### Results (R199) -/

/-- A result written to an entry's output ring at OUT_TAIL; the entry faults where the ring cannot be written (R195, R199). -/
def State.putResult (s : State) (e token : Nat) : State :=
  let x := s.seqEntry e
  if !s.hasEntry e || decide (x.state = .retiring) || decide (x.state = .faulted) then s
  else if !s.tenantWindow x.owner x.outBase (ringBytes x.outOrder) then s.faultEntry e
  else match s.plainWrite (x.outBase + 4 * x.outTail) (leBytes 4 token) with
    | (s, Option.none) => s.modEntry e (fun x => { x with outTail := (x.outTail + 1) % 2 ^ x.outOrder })
    | (s, some _) => s.faultEntry e

/-- An entry's positions, ring and state after a step that gave it `res` (R199), `due` saying whether a result is due. -/
def SeqEntry.served (x : SeqEntry) (r : RowGroup) (step res : Nat) : SeqEntry :=
  let y := { x with pos := x.pos + r.rows, inHead := (x.inHead + r.consumed) % 2 ^ x.inOrder, lastStep := step, skipped := 0,
                    rowsServed := satAdd32 x.rowsServed r.rows,
                    nextToken := if r.yields && x.gen then res % 2 ^ 24 else x.nextToken,
                    nextValid := r.yields && x.gen }
  if (r.yields && x.stopEn && res == x.stopToken) || decide (y.maxPos ≤ y.pos) then
    let z := { y with nextValid := false }
    { z with state := if z.pendingInput ≠ 0 ∧ z.pos < z.maxPos then .ready else .done }
  else { y with state := y.byFields }

/-- One record of a completed step (R199, R201). -/
def State.applyRecord (s : State) (g step i : Nat) (r : RowGroup) : State :=
  let e := r.entry
  if !s.hasEntry e then s
  else if (s.seqEntry e).state = .retiring then s.freeEntry e
  else
    let faulted := decide ((s.seqEntry e).state = .faulted)
    let (s, got) := s.plainRead (s.grpWorkList g + 0x40 + 32 * i + 0x18) 4 0
    let res := match got with | .ok bs => leNat bs | .error _ => 0xFFFFFFFE
    let good := decide (res < s.grpVocab g) || (!r.yields && res == 0xFFFFFFFF)
    let s := s.modEntry e (fun x => let y := x.served r step res; if faulted || !good then { y with state := .faulted } else y)
    let s := if !good && !faulted then s.faultEntry e else s
    let s :=
      if r.yields && good && !faulted then
        if s.grpIso g = 2 then s.modSeqGroup g (fun x => { x with outbox := x.outbox ++ [(e, res)] }) else s.putResult e res
      else s
    s.endStepEntry e

/-- The records of a completed step in record order. -/
def State.applyRecords (s : State) (g step : Nat) : Nat → List RowGroup → State
  | _, [] => s
  | i, r :: rs => State.applyRecords (s.applyRecord g step i r) g step (i + 1) rs

/-- A completion dropped (R199, R28). -/
def State.dropCompletion (s : State) (t : Nat) : State :=
  let x := s.xfer t
  let s := if s.stale x then s.countDropped x.owner.domain else s
  (s.endXfer t false).evt Reg.SEQ_EVT 4

/-- Whether an earlier transfer of the same owner on the same Grove is still in flight: a step's completion comes after them. -/
def State.earlierXfer (s : State) (t : Nat) : Bool :=
  let x := s.xfer t
  s.dma.xfers.any (fun u => decide (u.1 < t) && u.2.owner == x.owner && u.2.grove == x.grove)

/-- STEP_COMPLETION (R199): transfer `t` carries the step-completion mark. -/
def State.stepCompletion (s : State) (t : Nat) : State :=
  let x := s.xfer t
  let d := descOf x.desc
  if !thas s.dma.xfers t || !d.isStep || s.earlierXfer t then s
  else
    let g := d.group
    match (s.seqGroup g).flight with
    | Option.none => s.dropCompletion t
    | some rows =>
      if s.stale x || d.step != s.rn (Reg.SEQ_GRP_STEP g) || x.owner != .ctx (s.grpServer g) || !s.grpEn g then s.dropCompletion t
      else
        let s := s.applyRecords g d.step 0 rows
        let s := s.modSeqGroup g (fun y => { y with flight := Option.none, released := false, goTail := Option.none })
        (s.endXfer t true).evt Reg.SEQ_EVT 1

/-- STEP_COMPLETION (R199). -/
def execStepCompletion (t : Nat) (s : State) : Host.Outcome State Fault Refusal := .next (s.stepCompletion t)

/-! ### Scheduled boundaries (R200, R204) -/

/-- The outputs that a level-2 group holds delivered (R204). -/
def State.deliverOutbox (s : State) (g : Nat) : State :=
  let out := (s.seqGroup g).outbox
  out.foldl (fun s o => s.putResult o.1 o.2) (s.modSeqGroup g (fun x => { x with outbox := [] }))

/-- A boundary missed (R204). -/
def State.overrunStep (s : State) (g : Nat) : State := (s.count (Reg.SEQ_GRP_OVERRUN g) 1).evt Reg.SEQ_EVT 6

/-- SCHEDULED_BOUNDARY (R200, R204) of level-2 group `g`: outputs held are delivered, a step released by SEQ_GRP_GO starts,
and one that is late counts as an overrun. -/
def State.scheduledBoundary (s : State) (g : Nat) : State :=
  let x := s.seqGroup g
  if !s.running 1 || !s.grpEn g || s.grpIso g != 2 || !x.started then s
  else
    let s := s.deliverOutbox g
    match x.flight with
    | some _ =>
      if x.released then (s.overrunStep g).abandonStep g
      else match x.goTail with
        | some tail => (s.modSeqGroup g (fun y => { y with released := true, goTail := Option.none })).ringDoorbell (s.grpServer g) tail
        | Option.none => s.overrunStep g
    | Option.none => if (s.candidates g).isEmpty then s else s.overrunStep g

/-- SCHEDULED_BOUNDARY (R204). -/
def execScheduledBoundary (grp : Fin 16) (s : State) : Host.Outcome State Fault Refusal := .next (s.scheduledBoundary grp.val)

end Sys2Proof.Machine
end

