-- ==== Sys2Proof/Machine/Images.lean ====
section
/-! DEFINITION. What a mode puts on the Groves: roles, standing images, carry records, picture registers, and the end of a mode
change that is abandoned (R16, R50 to R53, R186, R189, R460, R463). -/
namespace Sys2Proof.Machine
open Sys2Proof

/-! ### Registers of the mode (Table 2.9) -/

/-- MODE_CUR written from the mode's state (Table 2.12). -/
def State.showMode (s : State) : State :=
  let m := s.mode
  let target := if 2 ≤ m.step then m.target else (m.requested.orElse (fun _ => m.held)).getD m.cur
  s.put Reg.MODE_CUR (m.cur + b2n (decide (2 ≤ m.step)) * 2 ^ 8 + target * 2 ^ 16 + b2n m.thermalHold * 2 ^ 24)

/-- A MODE_CHANGE event (Table 20.3). -/
def State.modeEvent (s : State) (old new : Nat) (abandoned : Bool) : State := s.report 0x0104 0x05 [old, new, b2n abandoned]

/-! ### Roles (R13, R16, R21) -/

/-- What a Grove keeps when its role changes: nothing of its old role. -/
def Grove.asRole (x : Grove) (r : Role) : Grove := { role := r, reads := x.reads }

/-- Grove `g` takes role `r`: one that passes to off is powered down, and its contents are undefined from then on (R16, R249). -/
def State.setRole (s : State) (r : Role) (g : Nat) : State :=
  if s.role g = r then s
  else
    let s := if r = .off then (s.resetBlock (0x10 + g)).loseMem (groveBase g) groveSramBytes else s
    s.modGrove g (·.asRole r)

/-- Every Grove takes the role a mode record gives it. -/
def State.setRoles (s : State) (m : ModeRec) : State := forRange 16 s (fun s g => s.setRole (m.role g) g)

/-! ### Standing images (R186, R463) -/

/-- The regions of a plan that exist in mode `m`. -/
def Plan.regionsIn (p : Plan) (m : Nat) : List RegionRec := p.regions.filter (fun r => bitOf r.modeMask m)
/-- The Grove SRAM regions of Grove `g` in mode `m`. -/
def Plan.groveRegions (p : Plan) (m g : Nat) : List RegionRec := (p.regionsIn m).filter (fun r => r.tier == 3 && r.grove == g)
/-- The commands of the lists of Grove `g` in mode `m`, each with its stream. -/
def Plan.groveCommands (p : Plan) (m g : Nat) : List (Nat × Nat) :=
  (p.lists.filter (fun l => l.mode == m && l.grove == g)).flatMap (fun l => l.cmds.map (fun c => (l.stream, c)))

/-- A region's initial contents at address `a`: zero beyond its INIT_BYTES. -/
def State.writeRegion (s : State) (a : Nat) (r : RegionRec) : State := (s.zeroMem a r.bytes).wrBytes a (r.init.take r.bytes)

/-- Whether an offset in Grove SRAM lies in a PINNED region of a list. -/
def inPinned (rs : List RegionRec) (off : Nat) : Bool :=
  rs.any (fun r => r.pinned && decide (r.offset ≤ off) && decide (off < r.offset + r.bytes))

/-- The standing image of Grove `g` in mode `m` written: its regions, every carry record not present but the pinned ones
(R186). -/
def State.loadImage (s : State) (p : Plan) (m g : Nat) : State :=
  let rs := p.groveRegions m g
  let s := rs.foldl (fun s r => s.writeRegion (groveBase g + r.offset) r) s
  let s := (p.groveCommands m g).foldl (fun s c =>
    let off := opOffset (auxOf c.2)
    if opcodeOf c.2 = 4 ∧ inPinned rs off = false then s.setRecord (.stream c.1) g off false Option.none else s) s
  rs.foldl (fun s r => if r.pinned then s.setRecord (.stream r.stream) g r.offset true (some (s.dom 2).tag) else s) s

/-- The images of the standing Groves among `gs` written for mode `m`. -/
def State.loadImages (s : State) (p : Plan) (m : Nat) (gs : List Nat) : State :=
  gs.foldl (fun s g => if (p.mode m).role g = .standing then s.loadImage p m g else s) s

/-! ### Parking (R189) -/

/-- A record's bytes written to its home, piece by piece from byte `m` on. -/
def State.parkPieces (s : State) (x : Transfer) (n : Nat) : Nat → Nat → State
  | 0, _ => s
  | fuel + 1, m =>
    let d := descOf x.desc
    if n ≤ m then s
    else
      let k := min (n - m) (4096 - (d.remoteStart + m) % 4096)
      let (s, _) := s.remoteWrite x m (s.localRead x.owner x.grove (d.gsram + m) k)
      State.parkPieces s x n fuel (m + k)

/-- One record of a standing stream parked by the kernel: a present record goes to its home and is no longer present. -/
def State.parkRecord (s : State) (g stream : Nat) (raw : List Byte) : State :=
  let d := descOf raw
  let o := Owner.stream stream
  let w := leNat (s.localRead o g (d.gsram + 4) 4)
  if d.isCarry && d.isStore && bitOf w 16 && fld w 20 12 == (s.dom 2).tag
      && (s.badIn (groveBase g + d.gsram) d.bytes).isEmpty then
    let s := s.setRecord o g d.gsram false Option.none
    s.parkPieces { owner := o, grove := g, xid := 0, desc := raw, tag := (s.dom 2).tag } d.bytes (d.bytes / 128 + 1) 0
  else s

/-- Every record of Grove `g`'s lists in mode `m` parked (R189): the homes are those of the parks that the lists hold. -/
def State.parkGrove (s : State) (p : Plan) (m g : Nat) : State :=
  (p.groveCommands m g).foldl (fun s c =>
    if opcodeOf c.2 = 7 ∧ opSkid (srcA c.2) = false then
      s.parkRecord g c.1 (s.rdBytes (groveBase g + opOffset (srcA c.2)) 32)
    else s) s

/-! ### Picture registers (R460) -/

/-- The parameter block of the picture stream of mode `m`. -/
def Plan.pictureParams (p : Plan) (m : Nat) : Option (List Byte) := (p.streamOfKind m 1).map (·.params)

/-- Registers `k`, `k + 4`, … given the words of a byte list from offset `o`. -/
def State.putWords (s : State) (k : Nat) (bs : List Byte) (o n : Nat) : State :=
  forRange n s (fun s i => s.put (k + 4 * i) (u32 bs (o + 4 * i)))

/-- The kernel writes the geometry, rings and filter registers from the current mode's picture stream (R460, R282). -/
def State.writePicture (s : State) : State :=
  match s.thePlan.pictureParams s.mode.cur with
  | Option.none => s
  | some b =>
    let s := s.put Reg.RCMP_GEOM (u32 b 0 &&& 0x13F1FFFF)
    let s := s.put Reg.RCMP_MOTION_ROWS (fld (u32 b 0x0C) 0 12)
    let s := s.put Reg.RCMP_RINGS (u32 b 8 &&& 0x0FFF0FFF)
    let s := s.put Reg.BYP_COEF_SET (u32 b 0x40 &&& 0x33)
    let s := s.put Reg.VOUT_MAX_RATE (fld (u32 b 0x3C) 0 4)
    if u32 b 0x44 = 0 then s else s.putWords (Reg.BYP_COEF 0) s.thePlan.streamSec (u32 b 0x44) 384

/-- The E-EDID loaded from the one block that carries it (R460). -/
def State.writeEdid (s : State) : State :=
  match s.thePlan.streams.find? (fun x => x.kind == 1 && u32 x.params 0x48 != 0) with
  | some x => s.putWords (Reg.VIN_EDID 0) (slice s.thePlan.streamSec (u32 x.params 0x48) (u32 x.params 0x4C)) 0 128
  | Option.none => s

/-! ### Abandoned changes (R53) -/

/-- A mode change between steps 2 and 5 is abandoned (R53): the current mode goes on, its images standing again where the new
mode's had been written (`reload`). -/
def State.abandonChange (s : State) (reload : Bool) : State :=
  if s.mode.step < 2 then s
  else
    let old := s.mode
    let s := if reload then s.loadImages s.thePlan old.cur old.parked else s
    let s := { s with mode.step := 0, mode.changing := [], mode.parked := [], mode.target := old.cur }
    let s := (s.evt Reg.MODE_EVT 2).showMode
    s.modeEvent old.cur old.target true

end Sys2Proof.Machine
end

