-- ==== Sys2Proof/Machine/Boot.lean ====
section
/-! DEFINITION. Identity, the flash directory, image slots, the commit record and the layout of DDR5 (chapter 21, R398 to R400,
R420 to R429). -/
namespace Sys2Proof.Machine
open Sys2Proof

def ascii (x : String) : List Byte := x.toList.map (fun c => BitVec.ofNat 8 c.toNat)

/-! ### Identity (R398 to R400) -/

/-- The 256-bit seed as bytes. -/
def seedBytes : List Byte := leBytes 32 Config.pufSeed
/-- A scalar derived from the seed (R398). -/
def seedScalar (label : String) : Nat := beNat (hmac384 seedBytes (ascii label)) % (ecN - 1) + 1
def identityScalar : Nat := seedScalar "OZ7140-ID"
def wrapScalar : Nat := seedScalar "OZ7140-WRAP"
/-- The RPMB key (R398). -/
def rpmbKey : Nat := beNat ((hmac384 seedBytes (ascii "OZ7140-RPMB")).take 32)
/-- The public key of a scalar, 97 bytes (R389). -/
def publicKey (d : Nat) : List Byte := keyBytes (ecMul d ecG)
/-- DEVICE_ID (R398). -/
def deviceId : List Byte := (sha384 (publicKey identityScalar)).take 16

/-- The keys of the seed. -/
def deviceKeys : DeviceKeys := { identity := identityScalar, wrap := wrapScalar, id := deviceId }

/-- ID_STATE (R399). -/
def State.idState (s : State) : Nat := if s.sec.seed then 1 else s.rf Reg.SEC_STATUS 0 2

/-- What recovering the identity finds at a cold start: 0 for a valid identity, 7 for enrolment, else the CAUSE of Table 20.7
(R399). -/
def State.identityCause (s : State) : Nat :=
  let e := s.emmc
  if !e.readable then 6
  else if s.flash.helper.isEmpty then (if e.rpmbKey.isNone then 7 else 1)
  else if e.rpmbKey.isNone then 2
  else if !Config.helperRecovers s.flash.helper then 3
  else if e.rpmbKey ≠ some rpmbKey then 4
  else if e.idDigest ≠ sha384 (publicKey identityScalar) then 5
  else 0

/-- The enrolled plan-signing keys as a mask. -/
def State.planKeyMask (s : State) : Nat := maskOf (s.emmc.planKeys.map (fun k => !k.isEmpty))

/-- SEC_STATUS, SEC_DEVICE_ID and SEC_BOOT_COUNT as the kernel writes them (Tables 19.11 and 19.12). -/
def State.showIdentity (s : State) : State :=
  if s.sec.seed then
    let s := s.put Reg.SEC_STATUS (1 + b2n (!s.emmc.credential.isEmpty) * 16 + s.planKeyMask * 256)
    let s := s.putWords (Reg.SEC_DEVICE_ID 0) s.sec.keys.id 0 4
    s.put Reg.SEC_BOOT_COUNT s.emmc.bootCount
  else s.put Reg.SEC_STATUS 2

/-- A fresh attestation key (R400): it comes of the security engine's random generator. -/
def freshScalar (n : Nat) : Nat := beNat ((List.range 48).map (Config.randomByte n)) % (ecN - 1) + 1

/-- Step 3 of Table 21.1: identity state, BOOT_COUNT and the attestation key (R399, R400). -/
def State.recoverIdentity (s : State) : State :=
  let cause := s.identityCause
  let s :=
    if cause = 7 then
      ({ s with flash.helper := Config.helperData, emmc.rpmbKey := some rpmbKey,
                emmc.idDigest := sha384 (publicKey identityScalar) }).evt Reg.SEC_EVT 3
    else s
  if cause = 0 ∨ cause = 7 then
    let s := { s with sec.seed := true, sec.keys := deviceKeys, emmc.bootCount := (s.emmc.bootCount + 1) % 2 ^ 32,
                      sec.attestKey := some (freshScalar s.fresh) }
    (s.tickFresh).showIdentity
  else
    let s := ({ s with sec.seed := false, sec.keys := {}, sec.attestKey := Option.none }).showIdentity
    (s.evt Reg.SEC_EVT 2).report 0x0A03 0x01 [cause]

/-- The digest of control ROM. -/
def romDigest : List Byte := sha384 ((List.range 0x40000).map Config.romByte)
/-- The digest of the trusted patch or of the service firmware: zero where there is none (R420). -/
def imageDigest (b : List Byte) : List Byte := if b.isEmpty then List.replicate 48 0 else sha384 b

/-- A signature block laid out as in R37. -/
def signatureBlock (r s : Nat) : List Byte :=
  leBytes 4 0x4E474953 ++ leBytes 4 0 ++ leBytes 4 1 ++ leBytes 4 0 ++ beBytes 48 r ++ beBytes 48 s ++ List.replicate 144 0

/-- A signature block over a message, its random number being open (R400, R401; log entry 7). -/
def signed (d n : Nat) (m : List Byte) : List Byte :=
  let (r, s) := ecdsaSign d (Config.signatureNonce d (beNat (sha384 m)) n) m
  m ++ signatureBlock r s

/-- The attestation certificate (Table 19.7). -/
def State.makeCertificate (s : State) : State :=
  match s.sec.attestKey with
  | Option.none => s
  | some k =>
    let m := leBytes 4 0x54524341 ++ leBytes 4 0x00010000 ++ leBytes 4 s.emmc.bootCount ++ leBytes 4 0 ++ s.sec.keys.id
      ++ padTo 0 112 (publicKey k) ++ padTo 0 112 (publicKey s.sec.keys.wrap) ++ romDigest ++ imageDigest s.boot.patch
    ({ s with sec.certificate := signed s.sec.keys.identity s.fresh m }).tickFresh

/-! ### Directory (R424, R425) -/

/-- A directory copy (Table 21.3). -/
structure Dir where
  gen : Nat := 0
  active : Nat := 0
  flashMib : Nat := 64
  svcMib : Nat := 64
  osSlotMib : Nat := 1024
  osMib : Nat := 1024
  digests : List (List Byte) := [List.replicate 48 0, List.replicate 48 0, List.replicate 48 0]
  deriving DecidableEq, Repr

/-- A valid directory copy read (R425). -/
def readDir (b : List Byte) : Option Dir :=
  if b.length = 256 ∧ u32 b 0 = 0x52445A4F ∧ crc32 (b.take 0xFC) = u32 b 0xFC then
    some { gen := u32 b 4, active := fld (u32 b 8) 0 4, flashMib := u16 b 0x0C, svcMib := u16 b 0x0E, osSlotMib := u32 b 0x10,
           osMib := u16 b 0x14, digests := [slice b 0x20 48, slice b 0x50 48, slice b 0x80 48] }
  else Option.none

/-- A directory copy's bytes (Table 21.3). -/
def dirBytes (d : Dir) : List Byte :=
  let b := leBytes 4 0x52445A4F ++ leBytes 4 d.gen ++ leBytes 4 d.active ++ leBytes 2 d.flashMib ++ leBytes 2 d.svcMib
    ++ leBytes 4 d.osSlotMib ++ leBytes 4 d.osMib ++ List.replicate 8 0 ++ d.digests.flatMap (padTo 0 48) ++ List.replicate 76 0
  b ++ leBytes 4 (crc32 b)

/-- The directory copy in use and its number: the greater GEN, copy 0 where they are equal; none of a blank flash. -/
def Flash.used (f : Flash) : Option (Nat × Dir) :=
  match readDir f.dir0, readDir f.dir1 with
  | some a, some b => if a.gen < b.gen then some (1, b) else some (0, a)
  | some a, Option.none => some (0, a)
  | Option.none, some b => some (1, b)
  | Option.none, Option.none => Option.none
/-- The directory in use, or what the kernel uses with a blank flash (R425). -/
def Flash.dir (f : Flash) : Dir := (f.used.map (·.2)).getD { flashMib := f.jesdMib }
def Flash.blank (f : Flash) : Bool := f.used.isNone
/-- Bytes of one plan slot (R424). -/
def Flash.planSlot (f : Flash) : Nat := (f.dir.flashMib - 8) / 2 * 2 ^ 20

/-- The slot (0 A, 1 B) of component `c` (1 patch, 2 service firmware, 3 plan, 4 OS) in an ACTIVE word. -/
def activeSlot (active c : Nat) : Nat := fld active (c - 1) 1

/-- The bytes of a slot. -/
def State.slotBytes (s : State) (c slot : Nat) : List Byte :=
  match c, slot with
  | 1, 0 => s.flash.patchA
  | 1, _ => s.flash.patchB
  | 2, 0 => s.flash.svcA
  | 2, _ => s.flash.svcB
  | 3, 0 => s.flash.planA
  | 3, _ => s.flash.planB
  | _, 0 => s.emmc.osA
  | _, _ => s.emmc.osB

/-- A slot's bytes replaced. -/
def State.setSlot (s : State) (c slot : Nat) (b : List Byte) : State :=
  match c, slot with
  | 1, 0 => { s with flash.patchA := b }
  | 1, _ => { s with flash.patchB := b }
  | 2, 0 => { s with flash.svcA := b }
  | 2, _ => { s with flash.svcB := b }
  | 3, 0 => { s with flash.planA := b }
  | 3, _ => { s with flash.planB := b }
  | _, 0 => { s with emmc.osA := b }
  | _, _ => { s with emmc.osB := b }

/-- Bytes of a component's slot (Table 21.2, R426). -/
def State.slotSize (s : State) (c : Nat) : Nat :=
  match c with
  | 1 => 0x10000
  | 2 => 0x380000
  | 3 => s.flash.planSlot
  | _ => s.flash.dir.osSlotMib * 2 ^ 20

/-- The rollback counter of a component (Table 21.4). -/
def State.rollback (s : State) (c : Nat) : Nat :=
  match c with
  | 1 => s.emmc.patchRb
  | 2 => s.emmc.svcRb
  | 3 => s.emmc.planRb
  | _ => 0

/-! ### Images (R37, R420) -/

/-- A signature block read: magic, algorithm and zero bytes as R37 requires. -/
def blockClean (b : List Byte) : Bool :=
  u32 b 0 == 0x4E474953 && u32 b 8 == 1 && zeroAt b 0x0C 4 && zeroAt b 0x70 (256 - 0x70)
/-- The signature of an image's last 256 bytes verifies under a key. -/
def blockVerifies (key img : List Byte) : Bool :=
  let n := img.length - 256
  let b := img.drop n
  ecdsaVerify key (img.take n) (beNat (slice b 0x10 48)) (beNat (slice b 0x40 48))

/-- VERSION and BYTES of a flash image's header (R425; log entry 24). -/
def imageVersion (b : List Byte) : Nat := u32 b 8
def imageBytes (b : List Byte) : Nat := u32 b 12

/-- Whether a slot's image of component 1 or 2 is accepted (R420). -/
def State.imageAccepted (s : State) (c : Nat) (slot : List Byte) : Bool :=
  let img := slot.take (imageBytes slot)
  decide (512 ≤ imageBytes slot) && decide (imageBytes slot ≤ slot.length)
    && u32 img 0 == Config.imageMagic c && u32 img 4 == c
    && blockClean (img.drop (img.length - 256)) && blockVerifies Config.rootKey img
    && decide (s.rollback c ≤ imageVersion img)

/-- The accepted image of component `c` at this cold start: the named slot, else the other with an event, else none (R420). -/
def State.acceptImage (s : State) (c : Nat) : State × List Byte :=
  if s.flash.blank then (s, [])
  else
    let n := activeSlot s.boot.bootActive c
    let a := s.slotBytes c n
    let b := s.slotBytes c (1 - n)
    if s.imageAccepted c a then (s, a.take (imageBytes a))
    else
      let s := s.reportOwn 0xA Reg.SEC_EVT 0
      if s.imageAccepted c b then (s, b.take (imageBytes b)) else (s, [])

/-! ### Commit (R428, R429) -/

/-- Step 3 of Table 21.6: the directory copy not in use rewritten. -/
def State.commitDirectory (s : State) : State :=
  let f := s.flash
  let d := { f.dir with gen := f.dir.gen + 1, active := s.emmc.target, digests := s.emmc.newDigests.map (padTo 0 48) }
  match f.used with
  | some (1, _) => { s with flash.dir0 := dirBytes d }
  | _ => { s with flash.dir1 := dirBytes d }

/-- Step 4 of Table 21.6: COMMITTED, and each counter raised. -/
def State.commitCounters (s : State) : State :=
  let v := nth 0 s.emmc.newVersions
  { s with emmc.commit := .committed, emmc.patchRb := max s.emmc.patchRb (v 0), emmc.svcRb := max s.emmc.svcRb (v 1),
           emmc.planRb := max s.emmc.planRb (v 2) }

/-- Step 5 of Table 21.6: the other copy rewritten to match, and IDLE. -/
def State.commitFinish (s : State) : State :=
  let d := dirBytes s.flash.dir
  { s with flash.dir0 := d, flash.dir1 := d, emmc.commit := .idle }

/-- The components that a commit record switches: those whose slot in TARGET is not the active one. -/
def State.switched (s : State) : List Nat :=
  [1, 2, 3, 4].filter (fun c => activeSlot s.emmc.target c != activeSlot s.flash.dir.active c)

/-- The staged slots still match the record's digests. -/
def State.commitMatches (s : State) : Bool :=
  s.switched.all (fun c => c == 4 || sha384 (s.slotBytes c (activeSlot s.emmc.target c)) == nth [] s.emmc.newDigests (c - 1))

/-- Whether step 3 has been taken already: the directory in use stands as the record says. -/
def State.directoryDone (s : State) : Bool :=
  s.switched.isEmpty && !s.flash.blank && s.flash.dir.digests == s.emmc.newDigests.map (padTo 0 48)

/-- The commit record resolved (R429). -/
def State.resolveCommit (s : State) : State :=
  match s.emmc.commit with
  | .idle => s
  | .committed => s.commitFinish
  | .pending =>
    if s.directoryDone then (s.commitCounters).commitFinish
    else if s.commitMatches then ((s.commitDirectory).commitCounters).commitFinish
    else ({ s with emmc.commit := .idle }).reportOwn 0xA Reg.SEC_EVT 1

/-! ### Layout of DDR5 (R422, R423) -/

/-- The layout of R423, when it fits. -/
def State.makeLayout (s : State) : State :=
  let d := s.flash.dir
  let usable := s.ddrUsable
  if s.ddr.trainMask = 0 ∨ usable < (d.osMib + d.svcMib + 320) * 2 ^ 20 then
    (s.reportOwn 0xA Reg.SEC_EVT 2)
  else
    { s with boot.layout := [ddrBase, d.osMib * 2 ^ 20, ddrBase + usable - (320 + d.svcMib) * 2 ^ 20, d.svcMib * 2 ^ 20] }

/-- Whether the layout of R423 stands. -/
def State.hasLayout (s : State) : Bool := nth 0 s.boot.layout 1 != 0
/-- The OS and service regions, as SEC_OS_BASE to SEC_SVC_BYTES hold them (Table 19.11). -/
def State.showLayout (s : State) : State :=
  if s.blockLive 1 then
    forRange 4 s (fun s i => s.setR64 (Reg.SEC_OS_BASE_LO + 8 * i) (nth 0 s.boot.layout i))
  else s
/-- The plan area: from the top of the OS region up to the service region (R423). -/
def State.planArea (s : State) : Nat × Nat := (nth 0 s.boot.layout 0 + nth 0 s.boot.layout 1, nth 0 s.boot.layout 2)

/-- Core 7 started from a fresh copy of the service firmware (R421). -/
def State.loadService (s : State) : State :=
  if s.boot.service.isEmpty ∨ s.hasLayout = false then s
  else { (s.wrBytes (nth 0 s.boot.layout 2) s.boot.service) with boot.serviceRuns := true }

/-- The OS boot image loaded to the OS region (R422): up to 32 MiB of the OS slot that was active at the cold start. -/
def State.loadOs (s : State) : State :=
  if s.flash.blank ∨ s.hasLayout = false then s
  else { (s.wrBytes (nth 0 s.boot.layout 0) ((s.slotBytes 4 (activeSlot s.boot.bootActive 4)).take (32 * 2 ^ 20))) with boot.osRuns := true }

end Sys2Proof.Machine
end

