-- ==== Sys2Proof/Machine/Packages.lean ====
section
/-! DEFINITION. Weight packages: their header, opening one, and its plaintext in an object (R402, R403, Table 19.9). -/
namespace Sys2Proof.Machine
open Sys2Proof

/-- Fields of a package's header (Table 19.9). -/
def pkgBytes (b : List Byte) : Nat := u32 b 8
def pkgKind (b : List Byte) : Nat := fld (u32 b 12) 0 4
def pkgTarget (b : List Byte) : Nat := fld (u32 b 12) 4 4
def pkgRecipients (b : List Byte) : Nat := fld (u32 b 12) 8 8
def pkgCyc (b : List Byte) : Nat := u32 b 16
def pkgPayload (b : List Byte) : Nat := u32 b 20
/-- Where the ciphertext begins. -/
def pkgCtOffset (b : List Byte) : Nat := 0x100 + 64 * pkgRecipients b

/-- The header keeps the rules of Table 19.9. -/
def pkgHeaderOk (b : List Byte) : Bool :=
  u32 b 0 == 0x474B5057 && u32 b 4 == 0x00010000 && (pkgKind b == 1 || pkgKind b == 2) && decide (pkgTarget b ≤ 2)
    && decide (1 ≤ pkgRecipients b) && decide (pkgRecipients b ≤ 64) && fld (u32 b 12) 16 16 == 0
    && (pkgTarget b != 0 || pkgCyc b == 0) && zeroAt b 0x34 12 && zeroAt b 0xB0 80
    && pkgBytes b == pkgCtOffset b + pkgPayload b

/-- The recipient entry that names this device (R403 step 2). -/
def pkgEntry (d : DeviceKeys) (b : List Byte) : Option (List Byte) :=
  ((List.range (pkgRecipients b)).map (fun r => slice b (0x100 + 64 * r) 64)).find? (fun e => e.take 16 == d.id)

/-- The key that wraps the content key (R403 step 3). -/
def pkgKek (d : DeviceKeys) (b : List Byte) : Option (List Byte) :=
  (ecdhZ d.wrap (slice b 0x40 97)).map (fun z => (sha384 (beBytes 4 1 ++ z ++ d.id)).take 32)

/-- A package opened (R403): its plaintext, or the code of Table 19.3 with which the load ends. -/
def openPackage (d : DeviceKeys) (b digest : List Byte) : Except Nat (List Byte) :=
  if sha384 b ≠ digest then .error 0x08
  else match pkgEntry d b with
    | Option.none => .error 0x09
    | some e =>
      match (pkgKek d b).bind (fun k => gcmDecrypt k (List.replicate 12 0) d.id (slice e 0x10 32) (slice e 0x30 16)) with
      | Option.none => .error 0x0A
      | some key =>
        let head := overlay (b.take (pkgCtOffset b)) 0x24 (List.replicate 16 0)
        match gcmDecrypt key (slice b 0x18 12) head (slice b (pkgCtOffset b) (pkgPayload b)) (slice b 0x24 16) with
        | Option.none => .error 0x0A
        | some p => .ok p

/-- The tiles of a payload, as an object with WIDTH `width` and COMPRESS `compress` stores them: a zero tile is left out. -/
def payloadTiles (k width : Nat) (compress : Bool) (p : List Byte) : Tbl StoredTile :=
  let cs := chunks tileBytes (p.length / tileBytes + 1) p
  (List.range cs.length).filterMap (fun i =>
    let c := padTo 0 tileBytes (nth [] cs i)
    if c.all (· == 0) then Option.none
    else some (i, encodeTile { position := k % 4096 + i * 4096, pool := false, compress := compress, width := width,
                               key := Option.none, tweak := 0 } c))

end Sys2Proof.Machine
end

