-- ==== Sys2Proof/Machine/PlanCheck.lean ====
section
/-! DEFINITION. The checks of admission (R35 to R44, R165, R176, R212, R220, R221, R289, R292, R322, R343, R365, R397, R402,
R459 to R464): each code of Table 2.6 in the order of R43. -/
namespace Sys2Proof.Machine
open Sys2Proof

/-! ### Tools -/

/-- A refusal located at a list. -/
def ListRec.refusal (l : ListRec) (code : Nat) : PlanRefusal :=
  { code := code, mode := some l.mode, grove := some l.grove, slot := some l.slot }
/-- A refusal located at a mode. -/
def refusalAt (code mode : Nat) : PlanRefusal := { code := code, mode := some mode }
/-- The first element that fails a check refuses the plan. -/
def requireAll {α : Type} (xs : List α) (ok : α → Bool) (r : α → PlanRefusal) : Except PlanRefusal Unit :=
  match xs.find? (fun x => !ok x) with
  | some x => .error (r x)
  | Option.none => .ok ()
/-- No element occurs twice. -/
def distinct : List Nat → Bool
  | [] => true
  | x :: xs => !xs.contains x && distinct xs
/-- Bits outside `mask` are zero. -/
def cleanBits (x mask : Nat) : Bool := x &&& mask == x
/-- A word obeys the rules of a register's fields: no reserved bit is set and no field holds a reserved encoding (R9). -/
def regWordOk (k v : Nat) : Bool :=
  cleanBits v ((regFields k).foldl (fun m f => setFld m f.lo f.width (2 ^ f.width - 1)) 0)
    && (regFields k).all (fun f => f.legal.ok (fld v f.lo f.width))

/-! ### Codes 0x01 to 0x08 -/

/-- IMAGE_BYTES, SECTION_COUNT, SECTION_TABLE_OFFSET and, on the image of that size, the placement rules (R35, R36, R424): code
0x04. -/
def sizeOk (slot : List Byte) (slotBytes : Nat) : Bool :=
  let n := u32 slot 0x10
  n % 256 == 0 && decide (4096 ≤ n) && decide (n ≤ 32 * 2 ^ 20) && decide (n ≤ slotBytes)
    && decide (1 ≤ u32 slot 0x18) && decide (u32 slot 0x18 ≤ 32) && u32 slot 0x1C == 0x100
    && placementOk (padTo 0xFF n slot)

/-- The checks of codes 0x01 to 0x04 on the slot's bytes; the image that they leave to be read. -/
def checkHeader (slot : List Byte) (slotBytes : Nat) : Except PlanRefusal (List Byte) := do
  requireCode (u32 slot 0 == 0x4E414C50) 0x01
  requireCode (u32 slot 4 / 65536 == 1) 0x02
  requireCode (u32 slot 8 == 0x7140 && decide (fld (u32 slot 0xC) 0 16 ≤ 0x4101)) 0x03
  requireCode (sizeOk slot slotBytes) 0x04
  .ok (padTo 0xFF (u32 slot 0x10) slot)

/-- The signature checks, codes 0x05 and 0x06 in the order of R43; `keys` are the enrolled plan-signing keys that can be read. -/
def checkSignature (img : List Byte) (keys : List (List Byte)) : Except PlanRefusal Unit := do
  let b := img.drop (img.length - 256)
  requireCode (blockClean b) 0x05
  let key := if u32 b 4 ≤ 3 then nth [] keys (u32 b 4) else []
  requireCode (!key.isEmpty) 0x06
  requireCode (blockVerifies key img) 0x05

/-- Required sections are present (Table 2.2): code 0x08. -/
def sectionsPresent (img : List Byte) : Bool := [1, 2, 3, 5, 7, 9].all (fun t => (findSection img t).isSome)

/-! ### Code 0x09 -/

/-- The header's reserved bytes and bits, and DDR_REQ's rule (R35). -/
def headerFieldsOk (img : List Byte) : Bool :=
  zeroAt img 0x30 16 && zeroAt img 0x60 160 && cleanBits (u32 img 0x28) 0xFFFF0001 && cleanBits (u32 img 0x2C) 0xFF0F
    && (fld (u32 img 0x2C) 0 4 == 4 || fld (u32 img 0x2C) 0 4 == 8)
    && decide (16 ≤ fld (u32 img 0x2C) 8 8) && decide (fld (u32 img 0x2C) 8 8 ≤ 64)

/-- Section types, versions and counts (R36); contents named beyond a section's BYTES. -/
def sectionTypesOk (img : List Byte) : Bool :=
  let xs := sectionsOf img
  xs.all (fun x => decide (0x8000 ≤ x.type) || (decide (1 ≤ x.type) && decide (x.type ≤ 9) && x.version == 1))
    && distinct ((xs.map (·.type)).filter (fun t => decide (t < 0x8000)))
    && xs.all (fun x => !([5, 7, 8].contains x.type) || x.count == 1)
    && decide (0x80 + 16 * fld (u32 (sectionBytes img 5) 0x68) 0 8 ≤ (sectionBytes img 5).length)
    && decide (0x20 + 2 * fld (u32 (sectionBytes img 7) 0x14) 0 8 ≤ (sectionBytes img 7).length)
    && ((findSection img 8).isNone
        || decide (0x10 + 16 * fld (u32 (sectionBytes img 8) 0) 0 3 ≤ (sectionBytes img 8).length))

/-- A mode record's reserved bits and bytes (Table 2.3). -/
def modeRecordOk (r : List Byte) : Bool :=
  cleanBits (u32 r 0) 7 && cleanBits (u32 r 8) 7 && cleanBits (u32 r 0x14) 7 && zeroAt r 0x2C 20

/-- Whether a BUFFER index names a region of a tier. -/
def Plan.regionIs (p : Plan) (i : Nat) (ok : RegionRec → Bool) : Bool := (p.regions[i]?).any ok

/-- A picture stream's parameter block (Table 2.15, R259, R264). -/
def pictureBlockOk (p : Plan) (b : List Byte) : Bool :=
  let w := u32 b
  let rows := fld (w 0) 0 12
  let slices := fld (w 0) 12 5
  let scale := fld (w 0) 24 2
  let frc := bitOf (w 0) 28
  let band (i : Nat) := decide (i < 256) && p.regionIs i (fun r => r.tier == 0 && r.band)
  cleanBits (w 0) 0x13F1FFFF && cleanBits (w 8) 0x0FFF0FFF && cleanBits (w 0xC) 0x0FFF0FFF && cleanBits (w 0x10) 0xF1
    && cleanBits (w 0x14) 0x03FF03FF && cleanBits (w 0x18) 0x3FF && cleanBits (w 0x20) 0xFFFF
    && cleanBits (w 0x38) 0x173FF && cleanBits (w 0x3C) 0xF && cleanBits (w 0x40) 0x33 && zeroAt b 0x50 48
    && decide (1 ≤ rows) && decide (1 ≤ slices) && decide (slices ≤ 16) && rows % slices == 0 && decide (1 ≤ scale)
    && decide (ceilDiv (fld (w 4) 16 16) rows ≤ 128) && decide (16 ≤ rows * scale)
    && (frc || w 0xC == 0)
    && (fld (w 0x10) 4 4 == 0xB || fld (w 0x10) 4 4 == 0xC)
    && band (fld (w 0x14) 0 10)
    && (band (fld (w 0x14) 16 10) || (frc && p.regionIs (fld (w 0x14) 16 10) (fun r => r.tier == 1)))
    && (if frc then p.regionIs (fld (w 0x18) 0 10) (fun r => r.tier == 1) else w 0x18 == 0)
    && decide (128 ≤ fld (w 0x38) 0 10) && decide (fld (w 0x38) 0 10 ≤ 255) && decide (fld (w 0x38) 12 3 ≤ 4)
    && [1, 2, 8, 9, 10].contains (w 0x3C)
    && (if fld (w 0x40) 0 2 = 3 ∨ fld (w 0x40) 4 2 = 3 then
          w 0x44 != 0 && decide (w 0x44 + 1536 ≤ p.streamSec.length) else w 0x44 == 0)
    && (if w 0x48 = 0 then w 0x4C == 0
        else w 0x4C % 128 == 0 && decide (128 ≤ w 0x4C) && decide (w 0x4C ≤ 512)
          && decide (w 0x48 + w 0x4C ≤ p.streamSec.length))

/-- Bytes of the history ring that MIC_CFG and MIC_HIST values ask for (R288). -/
def historyBytes (cfg hist : Nat) : Nat :=
  nth 16000 [16000, 24000, 32000, 48000] (fld cfg 4 2) * fld hist 0 13 / 1000 * (2 * popCount 4 cfg)

/-- The listening stream's parameter block (R461, Table 2.16). -/
def listeningBlockOk (p : Plan) (id : Nat) (b : List Byte) : Bool :=
  let w := u32 b
  regWordOk Reg.MIC_CFG (w 0) && regWordOk Reg.MIC_BIAS (w 4) && regWordOk Reg.MIC_GAIN (w 8) && regWordOk Reg.MIC_HIST (w 0xC)
    && regWordOk Reg.DAWN_CFG (w 0x10) && regWordOk Reg.DAWN_WINDOW (w 0x14) && regWordOk Reg.DAWN_UTT (w 0x18)
    && regWordOk Reg.DAWN_HW_HOLD (w 0x1C) && regWordOk Reg.DAWN_ASSIST (w 0x20)
    && (!bitOf (w 0x20) 7 || p.tenants.any (fun t => tenantCtx t == fld (w 0x20) 0 7))
    && cleanBits (w 0x24) 0x03FF03FF
    && p.regionIs (fld (w 0x24) 0 10) (fun r => r.tier == 2 && r.bytes == historyBytes (w 0) (w 0xC))
    && p.regionIs (fld (w 0x24) 16 10) (fun r => r.tier == 2 && r.bytes == 512)
    && cleanBits (w 0x28) 0xFFFF && zeroAt b 0x2C 20
    && (List.range 8).all (fun m =>
      let d := fld (w 0x28) (2 * m) 2
      d != 3 && (d == 0 || (p.hasMode m && bitOf (p.mode m).streamMask id)))

/-- Bytes of a look area's planes: PLANAR as in R147 (Table 15.4, R314). -/
def lookPlaneBytes (dims fmt : Nat) : Nat :=
  roundUp (roundUp (fld dims 0 10 * (if bitOf fmt 4 then 2 else 1)) 16 * fld dims 16 10) 128
def lookPlanes (fmt : Nat) : Nat := if bitOf fmt 0 then 4 else 3

/-- The looking stream's parameter block (R462, Table 2.17, Table 15.8). -/
def lookingBlockOk (p : Plan) (b : List Byte) : Bool :=
  let w := u32 b
  let frames := fld (w 0) 25 3
  let size (x : Nat) := decide (16 ≤ x) && decide (x ≤ 512)
  cleanBits (w 0) 0x0FFF0FFF && decide (1 ≤ fld (w 0) 8 4) && decide (fld (w 0) 8 4 ≤ 8) && decide (1 ≤ fld (w 0) 16 8)
    && decide (2 ≤ frames) && decide (frames ≤ 4) && decide (w 4 ≤ 2)
    && cleanBits (w 8) 0x03FF03FF
    && p.regionIs (fld (w 8) 0 10) (fun r => r.tier == 2 && r.bytes == 256 + frames * 19200)
    && p.regionIs (fld (w 8) 16 10) (fun r => r.tier == 1
        && decide (lookPlanes (w 0x10) * lookPlaneBytes (w 0xC) (w 0x10) + 128 ≤ r.bytes))
    && cleanBits (w 0xC) 0x03FF03FF && size (fld (w 0xC) 0 10) && size (fld (w 0xC) 16 10)
    && cleanBits (w 0x10) 0x311 && decide (fld (w 0x10) 8 2 ≤ 2) && zeroAt b 0x14 12

/-- The STREAM section (R459, R460). -/
def streamSectionOk (img : List Byte) (p : Plan) : Bool :=
  let sec := sectionBytes img 2
  let recs := (List.range (sectionCount img 2)).map (fun i => slice sec (32 * i) 32)
  recs.all (fun r =>
      let kind := fld (u32 r 0) 8 4
      cleanBits (u32 r 0) 0xF1F && decide (1 ≤ kind) && decide (kind ≤ 4)
        && u32 r 8 == nth 0 [0, 0x80, 0x40, 0x20, 0] kind && u32 r 4 % 16 == 0 && (kind != 4 || u32 r 4 == 0)
        && decide (u32 r 4 + u32 r 8 ≤ sec.length) && zeroAt r 0xC 20)
    && distinct (p.streams.map (·.id))
    && decide ((p.streams.filter (·.kind == 2)).length ≤ 1) && decide ((p.streams.filter (·.kind == 3)).length ≤ 1)
    && p.streams.all (fun x => match x.kind with
        | 1 => pictureBlockOk p x.params
        | 2 => listeningBlockOk p x.id x.params
        | 3 => lookingBlockOk p x.params
        | _ => true)
    && decide ((p.streams.filter (fun x => x.kind == 1 && u32 x.params 0x48 != 0)).length ≤ 1)

/-- The LIST section (R39, Table 2.4). -/
def listSectionOk (img : List Byte) (p : Plan) : Bool :=
  let sec := sectionBytes img 3
  let recs := (List.range (sectionCount img 3)).map (fun i => slice sec (16 * i) 16)
  recs.all (fun r =>
      cleanBits (u32 r 0) 0x003FF71F && u32 r 4 % 32 == 0 && decide (u32 r 4 + 32 * u32 r 8 ≤ sec.length)
        && decide (16 * u16 r 12 + 16 * u16 r 14 ≤ sec.length))
    && distinct (recs.map (fun r => u32 r 0))
    && p.lists.all (fun l => l.rsv.all (fun r => decide (r.tier ≤ 6) && decide (1 ≤ r.rate) && decide (1 ≤ r.transfers)))

/-- The WEIGHT section (R292, R322, R402, R464); absent, it holds no package. -/
def weightSectionOk (img : List Byte) (p : Plan) : Bool :=
  let sec := sectionBytes img 4
  let recs := (List.range (sectionCount img 4)).map (fun i => slice sec (16 * i) 16)
  let target (t : Nat) := p.packages.filter (fun x => pkgTarget x.pkg == t)
  let bytes (t : Nat) := ((target t).map (fun x => pkgPayload x.pkg)).sum
  let cyc (t : Nat) := ((target t).map (fun x => pkgCyc x.pkg)).sum
  ((findSection img 4).isNone || (decide (1 ≤ recs.length) && decide (recs.length ≤ 255)))
    && recs.all (fun r => cleanBits (u32 r 0) 0x11F && u32 r 4 % 16 == 0 && decide (u32 r 4 + u32 r 8 ≤ sec.length)
        && u32 r 12 == 0)
    && p.packages.all (fun x => pkgHeaderOk x.pkg && pkgBytes x.pkg == x.pkg.length
        && (pkgTarget x.pkg == 0 || (x.place == 0
          && (p.stream x.stream).all (fun y => y.kind == (if pkgTarget x.pkg = 1 then 2 else 3)))))
    && decide ((target 1).length ≤ 1) && decide ((target 2).length ≤ 1)
    && decide (cyc 1 ≤ 408000) && decide (bytes 1 ≤ 65536)
    && ((target 2).isEmpty || (decide (cyc 1 + ceilDiv (cyc 2) 50 ≤ 408000) && decide (bytes 1 + bytes 2 ≤ 65536)))

/-- The QUOTA section (R165, R220, R221). -/
def quotaSectionOk (p : Plan) : Bool :=
  let q := p.quota
  let w := u32 q
  let n := w 0x10
  [1, 2, 4, 8].contains (w 0) && decide (1 ≤ w 4) && decide (w 4 ≤ 16777214)
    && w 8 % 4 == 0 && decide (4 ≤ w 8) && decide (w 8 ≤ 1048576) && decide (w 0xC ≤ w 4) && decide (n ≤ 8) && zeroAt q 0x14 12
    && (List.range 8).all (fun i =>
      let x := w (0x20 + 8 * i)
      let pages := w (0x24 + 8 * i)
      if i < n then cleanBits x 0x1F && decide (1 ≤ pages) && decide (pages ≤ 65536) && (p.stream x).all (fun y => y.kind == 1)
      else x == 0 && pages == 0)
    && decide (w 0x60 ≤ 8128) && cleanBits (w 0x64) 0xFFFFFF && decide (w 0x68 ≤ 128) && zeroAt q 0x70 16
    && distinct ((List.range p.quotaCount).map p.quotaCtx)
    && (List.range p.quotaCount).all (fun i =>
      let a := 0x80 + 16 * i
      cleanBits (w a) 0x7F && cleanBits (w (a + 8)) 0xFFFFFF && cleanBits (w (a + 12)) 0xFFFFFF
        && p.tenants.any (fun t => tenantCtx t == p.quotaCtx i)
        && decide (u16 q (a + 4) ≤ u16 q (a + 6)) && decide (w (a + 8) ≤ w (a + 12)))

/-- The TENANT section (R397, Table 19.6). -/
def tenantRecordOk (r : List Byte) : Bool :=
  let sram := u32 r 8
  cleanBits (u32 r 0) 0x3737F && cleanBits (u32 r 4) 0x3FF && cleanBits sram 0xFFFF && zeroAt r 12 4
    && (tenantIso r == 1 || tenantIso r == 2)
    && (if tenantIso r = 1 then tenantShare r == 0 else decide (1 ≤ tenantShare r) && decide (tenantShare r ≤ 1000))
    && decide (64 ≤ sram) && decide (sram ≤ 2048) && sram % 64 == 0

/-- The POWER section (R365, Table 17.11). -/
def powerSectionOk (p : Plan) : Bool :=
  let w := u32 p.power
  let hot := fld (w 8) 0 8
  let crit := fld (w 8) 8 8
  let hyst := fld (w 8) 16 4
  cleanBits (w 0) 0xF && bitOf (w 0) 0 && cleanBits (w 4) 0x307 && fld (w 4) 8 2 != 3 && cleanBits (w 8) 0xFFFFF
    && decide (70 ≤ hot) && decide (hot ≤ 100) && decide (hot + 5 ≤ crit) && decide (crit ≤ 105) && decide (2 ≤ hyst)
    && decide (10 ≤ u16 p.power 0xC) && decide (u16 p.power 0xC ≤ 4000)
    && decide (100 ≤ u16 p.power 0xE) && decide (u16 p.power 0xE ≤ 60000)
    && cleanBits (w 0x10) 0x7F && decide (w 0x14 ≤ 64) && zeroAt p.power 0x18 8

/-- The ROLE section's reserved bits and bytes (R343). -/
def roleSectionOk (p : Plan) : Bool :=
  !p.hasRole || (cleanBits (u32 p.role 0) 0xFFFF0007 && cleanBits (u32 p.role 4) 0x77777777 && zeroAt p.role 8 8
    && (List.range p.devices).all (fun d => cleanBits (u32 p.role (0x10 + 16 * d)) 3))

/-- The BUFFER section (R463, Table 2.18). -/
def bufferSectionOk (img : List Byte) (p : Plan) : Bool :=
  let sec := sectionBytes img 9
  let n := sectionCount img 9
  decide (1 ≤ n) && decide (n ≤ 1024) && (List.range n).all (fun i =>
    let r := slice sec (32 * i) 32
    let h := u32 r 0
    let tier := fld h 0 2
    let g := fld h 4 4
    cleanBits h 0x1F03F3 && cleanBits (u32 r 4) 0xFF && zeroAt r 0x18 8
      && (!bitOf h 8 || (tier == 0 && decide (i < 256))) && (!bitOf h 9 || tier == 3) && (tier == 3 || g == 0)
      && (tier != 3 || (List.range p.modes.length).all (fun m => !bitOf (u32 r 4) m || decide ((p.mode m).role g = .standing)))
      && u32 r 8 % 128 == 0 && (tier != 1 || u32 r 8 == 0) && u32 r 0xC % (if tier = 1 then 4096 else 128) == 0
      && u32 r 0x10 % 16 == 0 && decide (u32 r 0x14 ≤ u32 r 0xC) && (u32 r 0x10 != 0 || u32 r 0x14 == 0)
      && decide (u32 r 0x10 + u32 r 0x14 ≤ sec.length))

/-- The regions and packages that become standing objects, in the order of R212: owner stream, placement, and the region or the
package. -/
def Plan.standingObjects (p : Plan) : List (Nat × Nat × (RegionRec ⊕ PackageRec)) :=
  (p.regions.filter (fun r => r.tier == 0 && !r.band)).map (fun r => (r.stream, 2, .inl r))
    ++ (p.regions.filter (fun r => r.tier == 1)).map (fun r => (r.stream, 0, .inl r))
    ++ p.packages.map (fun k => (k.stream, if k.place = 1 then 2 else 0, .inr k))

/-- Every check of code 0x09. -/
def sectionsOk (img : List Byte) (p : Plan) : Bool :=
  headerFieldsOk img && sectionTypesOk img
    && (List.range (sectionCount img 1)).all (fun i => modeRecordOk (slice (sectionBytes img 1) (64 * i) 64))
    && bufferSectionOk img p && streamSectionOk img p && listSectionOk img p && weightSectionOk img p && quotaSectionOk p
    && p.tenants.all tenantRecordOk && powerSectionOk p && roleSectionOk p && decide (p.standingObjects.length ≤ 256)

/-! ### Codes 0x0A to 0x10 -/

/-- Modes: codes 0x0A to 0x0E (R36, R38, Table 2.6). -/
def checkModes (img : List Byte) (p : Plan) : Except PlanRefusal Unit := do
  let n := u32 img 0x20
  let ms := List.range p.modes.length
  requireCode (decide (1 ≤ n) && decide (n ≤ 8) && decide (u32 img 0x24 < n) && p.modes.length == n) 0x0A
  requireAll ms (fun m => (p.mode m).id == m) (refusalAt 0x0A)
  requireAll ms (fun m => decide ((p.mode m).role 0 = .standing)) (fun m => { code := 0x0B, mode := some m, grove := some 0 })
  requireAll (ms.flatMap (fun m => (List.range 16).map (fun g => (m, g)))) (fun x => fld (p.mode x.1).roles (2 * x.2) 2 != 3)
    (fun x => { code := 0x0C, mode := some x.1, grove := some x.2 })
  requireCode (decide (1000 ≤ p.freeRate) && decide (p.freeRate ≤ 4000)) 0x0D
  requireAll ms (fun m => decide (1000 ≤ (p.mode m).tickMax) && decide ((p.mode m).tickMax ≤ 4000)
    && decide (1 ≤ (p.mode m).period) && decide ((p.mode m).period ≤ 64)) (refusalAt 0x0D)
  requireAll ms (fun m => decide ((p.mode m).opPoint ≤ 4) && p.hasMode (p.mode m).cooler
    && decide ((p.mode m).opPoint ≤ (p.mode (p.mode m).cooler).opPoint)) (refusalAt 0x0E)

/-- The streams that regions, packages, feature lists and role masks name. -/
def Plan.namedStreams (p : Plan) : List Nat :=
  p.regions.map (·.stream) ++ p.packages.map (·.stream)
    ++ (List.range (u32 p.quota 0x10)).map (fun i => u32 p.quota (0x20 + 8 * i))
    ++ (if p.hasRole then (List.range p.devices).flatMap (fun d =>
        bitsOf 32 (u32 p.role (0x18 + 16 * d)) ++ bitsOf 32 (u32 p.role (0x1C + 16 * d))) else [])

/-- Streams and lists: codes 0x0F and 0x10 (R40, R41, R459). -/
def checkStreams (p : Plan) : Except PlanRefusal Unit := do
  requireAll (List.range p.modes.length) (fun m =>
    (bitsOf 32 (p.mode m).streamMask).all (fun i => (p.stream i).isSome)
      && decide ((p.streams.filter (fun x => x.kind == 1 && bitOf (p.mode m).streamMask x.id)).length ≤ 1)) (refusalAt 0x0F)
  requireCode (p.namedStreams.all (fun i => (p.stream i).isSome)) 0x0F
  requireAll p.lists (fun l => p.hasMode l.mode && decide (l.slot < (p.mode l.mode).period)
    && (p.stream l.stream).isSome && bitOf (p.mode l.mode).streamMask l.stream
    && decide ((p.mode l.mode).role l.grove = .standing)) (·.refusal 0x0F)
  requireAll p.lists (fun l => l.cmds.all (fun c => decide (1 ≤ capOf c) && decide (capOf c ≤ 1000))) (·.refusal 0x10)

/-! ### Codes 0x14 to 0x19 -/

/-- Bytes of a memory of regions. -/
def tierSize (tier : Nat) : Nat := nth 0 [0x2000000, 0, 0x100000, 0x200000] tier

/-- Whether two regions lie in one memory and overlap. -/
def regionsOverlap (a b : RegionRec) : Bool :=
  a.tier != 1 && a.tier == b.tier && a.grove == b.grove && decide (a.offset < b.offset + b.bytes)
    && decide (b.offset < a.offset + a.bytes)

/-- Whether no region of a list overlaps another. -/
def noRegionOverlap : List RegionRec → Bool
  | [] => true
  | x :: xs => xs.all (fun y => !regionsOverlap x y) && noRegionOverlap xs

/-- Whether a region lies in its memory, outside the open Canopy pool at the top of the Canopy (R221) and outside what the kernel
holds back (R289, R463; log entry 25): code 0x14. -/
def regionFits (p : Plan) (r : RegionRec) : Bool :=
  r.tier == 1 || (decide (r.offset + r.bytes ≤ tierSize r.tier - (if r.tier = 0 then p.cnpOpen * 4128 else 0))
    && (r.tier != 2 || !(List.range r.bytes).any (fun i => Config.dawnHeld (r.offset + i))))

/-- Code 0x14, mode by mode. -/
def checkMemory (p : Plan) : Except PlanRefusal Unit :=
  requireAll (List.range p.modes.length) (fun m => (p.regionsIn m).all (regionFits p) && noRegionOverlap (p.regionsIn m))
    (refusalAt 0x14)

/-- Bytes that `n` bytes take as stored tiles (R221). -/
def storedSize (n : Nat) : Nat := ceilDiv n 4096 * 4128

/-- The DDR5 sum of R221. -/
def Plan.ddrSum (p : Plan) : Nat :=
  ((p.regions.filter (·.tier == 1)).map (fun r => storedSize r.bytes)).sum
    + ((p.packages.filter (·.place == 0)).map (fun k => storedSize (pkgPayload k.pkg))).sum
    + u32 p.quota 4 * u32 p.quota 0 * 4128 + u32 p.quota 8 * 1024 + p.ddrOpen * 4128
/-- The Canopy sum of R221 for a mode. -/
def Plan.canopySum (p : Plan) (m : Nat) : Nat :=
  (((p.regionsIn m).filter (·.tier == 0)).map (fun r => if r.band then r.bytes else storedSize r.bytes)).sum
    + ((p.packages.filter (·.place == 1)).map (fun k => storedSize (pkgPayload k.pkg))).sum + p.cnpOpen * 4128

/-- Code 0x15 (R165, R221); `area` is the size of the plan area. -/
def checkQuotas (p : Plan) (area : Nat) : Except PlanRefusal Unit := do
  requireAll (List.range p.modes.length) (fun m => decide (p.canopySum m ≤ 0x2000000)) (refusalAt 0x15)
  let recs := (List.range p.quotaCount).map (fun i => p.quotaOf (p.quotaCtx i))
  requireCode (decide ((recs.map (·.cnpGuar)).sum ≤ p.cnpOpen) && decide ((recs.map (·.ddrGuar)).sum ≤ p.ddrOpen)
    && decide (((List.range (u32 p.quota 0x10)).map (fun i => u32 p.quota (0x24 + 8 * i))).sum ≤ u32 p.quota 4)
    && decide (p.ddrSum ≤ area)) 0x15

/-- Code 0x16 (R397). -/
def checkTenants (p : Plan) : Except PlanRefusal Unit := do
  requireCode (distinct (p.tenants.map tenantCtx)) 0x16
  let share := ((p.tenants.filter (fun r => tenantIso r == 2)).map tenantShare).sum
  requireAll (List.range p.modes.length) (fun m =>
    let n := popCount 16 ((p.mode m).roleMask .open)
    n == 0 || decide (share ≤ 1000 * n)) (refusalAt 0x16)

/-- Code 0x17 (R365). -/
def checkPower (p : Plan) : Except PlanRefusal Unit :=
  let w := u32 p.power
  requireCode ((List.range (fld (w 0x14) 0 8)).all (fun i => decide (u16 p.power (0x20 + 2 * i) < p.regions.length))
    && (!bitOf (w 0) 1 || p.hasMode (fld (w 4) 0 3)) && (!bitOf (w 0) 2 || fld (w 4) 8 2 != 0)) 0x17

/-- The strips of the devices with COLS above 0 follow one another from column 0 in CHIP_ID order (R343). -/
def stripsFollow (p : Plan) : List Nat → Nat → Bool
  | [], _ => true
  | c :: cs, col =>
    let (first, n) := p.columns c
    if n = 0 then stripsFollow p cs col else first == col && stripsFollow p cs (col + n)

/-- Code 0x18 (R343). -/
def checkRole (p : Plan) (chip : Nat) : Except PlanRefusal Unit := do
  if p.hasRole then
    let ids := (List.range p.devices).map (fun d => fld (u32 p.role (0x10 + 16 * d)) 0 2)
    let wait := u16 p.role 2
    requireCode (decide (2 ≤ p.devices) && decide (p.devices ≤ 4) && decide (300 ≤ wait) && decide (wait ≤ 10000)
      && distinct ids && ids.all (fun c => decide (c < p.devices)) && ids.contains chip && stripsFollow p [0, 1, 2, 3] 0) 0x18
    requireAll (List.range p.modes.length) (fun m =>
      !p.hasExchange m || (p.hasMode (p.soloMode m) && !p.hasExchange (p.soloMode m))) (refusalAt 0x18)
    requireAll p.lists (fun l => l.rsv.all (fun r =>
      decide (r.tier < 3) || bitOf (p.portStreams chip ((r.tier - 3) % 2)) l.stream)) (·.refusal 0x18)
  else requireAll p.lists (fun l => l.rsv.all (fun r => decide (r.tier < 3))) (·.refusal 0x18)

/-- Whether an opcode takes the format fields of word 1 (R90, R93). -/
def takesFormats (c : Nat) : Bool := decide (1 ≤ opcodeOf c) && decide (opcodeOf c ≤ 5)

/-- Code 0x19: a format code outside FORMAT_MASK 0x7FFF. -/
def checkFormats (p : Plan) : Except PlanRefusal Unit :=
  requireAll p.lists (fun l => l.cmds.all (fun c => !takesFormats c || (fmtA c != 15 && fmtB c != 15 && fmtD c != 15)))
    (·.refusal 0x19)

/-! ### Codes 0x1C, 0x1D and 0x1A -/

/-- A byte of the standing image of Grove `g` in mode `m` (R463). -/
def Plan.imageByte (p : Plan) (m g off : Nat) : Byte :=
  match (p.groveRegions m g).find? (fun r => decide (r.offset ≤ off) && decide (off < r.offset + r.bytes)) with
  | some r => nth 0 r.init (off - r.offset)
  | Option.none => 0

/-- What an XFER of a list touches besides Grove SRAM: whether it writes, the memory, and the bytes (R41). Endpoint kinds: 2 a
standing object, 4 a band buffer, 5 Dawn SRAM. -/
def Plan.xferAccess (p : Plan) (l : ListRec) (c : Nat) : Option (Bool × Nat × Nat × Nat × Nat) :=
  if opcodeOf c = 7 ∧ opSkid (srcA c) = false then
    let d := descOf ((List.range 32).map (fun i => p.imageByte l.mode l.grove (opOffset (srcA c) + i)))
    let (k, a, _) := d.remote
    match k with
    | 2 => if 3840 ≤ fld a 0 12 then some (d.isStore, 2, fld a 0 12, d.remoteStart, d.bytes) else Option.none
    | 4 => some (d.isStore, 4, fld a 0 8, d.remoteStart, d.bytes)
    | 5 => some (d.isStore, 5, 0, d.remoteStart, d.bytes)
    | _ => Option.none
  else Option.none

/-- Whether list `l` reads bytes that list `o` of the same mode and tick slot writes (R41). -/
def Plan.waitsOn (p : Plan) (l o : ListRec) : Bool :=
  l.mode == o.mode && l.slot == o.slot && (l.stream != o.stream || l.grove != o.grove)
    && (l.cmds.filterMap (p.xferAccess l)).any (fun r => !r.1
      && (o.cmds.filterMap (p.xferAccess o)).any (fun w => w.1 && r.2.1 == w.2.1 && r.2.2.1 == w.2.2.1
        && decide (r.2.2.2.1 < w.2.2.2.1 + w.2.2.2.2) && decide (w.2.2.2.1 < r.2.2.2.1 + r.2.2.2.2)))

/-- Code 0x1D (R41). -/
def checkWaits (p : Plan) : Except PlanRefusal Unit :=
  requireAll p.lists (fun l => !p.lists.any (p.waitsOn l)) (·.refusal 0x1D)

/-- Whether a standing package opens under the digest of its bytes in the image (R403, R464). -/
def packageOpens (d : DeviceKeys) (k : PackageRec) : Bool :=
  match openPackage d k.pkg (sha384 k.pkg) with | .ok _ => true | .error _ => false

/-- What the device gives admission: the plan slot and its size, the enrolled keys, the device's own, the rollback counter, the trained channels and
their speed code, installed bytes, the plan area's bytes and CHIP_ID. -/
structure AdmitEnv where
  blank : Bool
  slot : List Byte
  slotBytes : Nat
  keys : List (List Byte)
  device : DeviceKeys
  rollback : Nat
  mask : Nat
  raw : Nat
  installed : Nat
  area : Nat
  chip : Nat
  deriving DecidableEq, Repr

/-- The signed bytes of an image, whose digest identifies it (R37). -/
def signedBytes (img : List Byte) : List Byte := img.take (img.length - 256)

/-- Admission's checks but 0x1B (R43): the plan, or the first refusal. -/
def checkImage (e : AdmitEnv) : Except PlanRefusal Plan := do
  requireCode (!e.blank) 0x01
  let img ← checkHeader e.slot e.slotBytes
  checkSignature img e.keys
  requireCode (decide (e.rollback ≤ u32 img 0x14)) 0x07
  requireCode (sectionsPresent img) 0x08
  let p := parsePlan img (sha384 (signedBytes img))
  requireCode (sectionsOk img p) 0x09
  checkModes img p
  checkStreams p
  requireCode (e.mask != 0) 0x1C
  budget p e.raw
  checkMemory p
  checkQuotas p e.area
  checkTenants p
  checkPower p
  checkRole p e.chip
  checkFormats p
  requireCode (decide (p.ddrChannels ≤ popCount 8 e.mask) && decide (p.ddrMinGib * 2 ^ 30 ≤ e.installed)) 0x1C
  checkWaits p
  requireCode (p.packages.all (packageOpens e.device)) 0x1A
  .ok p

end Sys2Proof.Machine
end

