-- ==== Sys2Proof/Machine/PowerOps.lean ====
section
/-! DEFINITION. The power policy of a plan, votes, and the pending or running transition as PWR_STATUS shows it (chapter 17, R352,
R353, R365). -/
namespace Sys2Proof.Machine
open Sys2Proof

/-! ### The POWER section (Table 17.11) -/

/-- Whether a plan allows device state `n`. -/
def Plan.stateAllowed (p : Plan) (n : Nat) : Bool := bitOf (u32 p.power 0) n
def Plan.modeS1 (p : Plan) : Nat := fld (u32 p.power 4) 0 3
/-- A wake target as plans and registers code it (1 S1, 2 S0), as a device state. -/
def wakeState (code : Nat) : Nat := if code = 1 then 1 else 0
/-- The device state that a detection in S2 wakes to. -/
def Plan.s2Wake (p : Plan) : Nat := wakeState (fld (u32 p.power 4) 8 2)
/-- Thermal thresholds in 1/4 °C, as PWR_TEMP counts. -/
def Plan.tHot (p : Plan) : Int := 4 * (fld (u32 p.power 8) 0 8 : Nat)
def Plan.tCrit (p : Plan) : Int := 4 * (fld (u32 p.power 8) 8 8 : Nat)
def Plan.hyst (p : Plan) : Int := 4 * (fld (u32 p.power 8) 16 4 : Nat)
/-- The BUFFER regions whose banks are retained in S2 (R359). -/
def Plan.retained (p : Plan) : List RegionRec :=
  (List.range (fld (u32 p.power 0x14) 0 8)).filterMap (fun i => p.regions[u16 p.power (0x20 + 2 * i)]?)

/-! ### Device and domain states (R352) -/

/-- STATE of PWR_STATUS. -/
def State.devState (s : State) : Nat := s.rf Reg.PWR_STATUS 0 2

/-- The level of a domain in a device state (Table 17.2), coded as PWR_DOMAIN. -/
def State.levelIn (s : State) (st d : Nat) : Nat :=
  match st with
  | 0 => if (d = 6 ∨ d = 7) ∧ s.vil.ring = .absent then 0 else 3
  | 1 => if 6 ≤ d then 0 else 3
  | 2 => if d = 0 then 3 else if d = 3 ∨ 6 ≤ d then 0 else 1
  | _ => if d = 0 then 1 else 0

/-- A domain's state as PWR_DOMAIN codes it. -/
def DomainPower.code : DomainPower → Nat
  | .off => 0 | .ret => 1 | .idle => 2 | .on => 3
def powerOf (n : Nat) : DomainPower := if n = 0 then .off else if n = 1 then .ret else .on
/-- Domain `d` at a level. -/
def State.setPower (s : State) (d n : Nat) : State := s.modDom d (fun x => { x with power := powerOf n })
/-- PWR_DOMAIN (Table 17.13): D0 is in RET while the device is in S3. -/
def State.powerDomain (s : State) : Nat :=
  (if s.devState = 3 then 1 else 3) + ((List.range 8).map (fun i => (s.dom (i + 1)).power.code * 4 ^ (i + 1))).sum

/-! ### Votes (R353) -/

/-- Whether client `c` holds a vote above the level of a device state. -/
def State.voteBlocks (s : State) (st c : Nat) : Bool :=
  (List.range 8).any (fun i => decide (s.levelIn st (i + 1) < s.rf (Reg.PWR_VOTE c) (2 * (i + 1)) 2))
/-- PWR_BLOCKERS for an entry to a device state. -/
def State.blockers (s : State) (st : Nat) : Nat := maskOf ((List.range 5).map (s.voteBlocks st))

/-- PENDING, ENTRY_WAIT, TARGET and PWR_BLOCKERS; a pending entry begins once no vote exceeds its level (R353) and no whole-fabric
test runs (R386). -/
def State.showPower (s : State) : State :=
  let st := s.devState
  match s.pwr.target with
  | Option.none =>
    let s := { s with pwr.begun := false }
    (s.setRf Reg.PWR_STATUS 2 4 (st * 4)).setReg Reg.PWR_BLOCKERS 0
  | some t =>
    let m := if s.pwr.begun ∨ t < st then 0 else s.blockers t
    let s := { s with pwr.begun := s.pwr.begun || decide (t < st) || (m == 0 && !s.lkt.test) }
    (s.setRf Reg.PWR_STATUS 2 4 (1 + b2n (decide (m ≠ 0)) * 2 + t * 4)).setReg Reg.PWR_BLOCKERS m

/-- A transition to device state `t` becomes the pending or running one. -/
def State.aimAt (s : State) (t : Nat) : State :=
  ({ s with pwr.target := some t, pwr.begun := false }).showPower

/-- No transition is pending or running. -/
def State.aimNowhere (s : State) : State := ({ s with pwr.target := Option.none, pwr.begun := false }).showPower

/-- Whether the entry to a lower device state has begun. -/
def State.entering (s : State) (t : Nat) : Bool :=
  s.pwr.begun && decide (s.pwr.target = some t) && decide (s.devState < t)

end Sys2Proof.Machine
end

