-- ==== Sys2Proof/Machine/Domains.lean ====
section
/-! DEFINITION. Reset domains: what entering and leaving a reset does to each, and the resets of D0 (R27 to R30, R374 to R382,
R393, R414, R419, R452). -/
namespace Sys2Proof.Machine
open Sys2Proof

/-! ### Tests (R386) -/

/-- A whole-fabric test is abandoned (R386). -/
def State.abandonTest (s : State) : State :=
  if !s.lkt.test then s
  else ((({ s with lkt.test := false }).put Reg.LKT_TEST_STATUS 6).evt Reg.LKT_EVT 9).showPower

/-- The rotating passes of Grove `g` restart from their first tile (R384). -/
def State.restartPasses (s : State) (g : Nat) : State :=
  s.modGrove g (fun x => { x with testTiles := 0, logicDone := 0, delayDone := 0 })

/-! ### Entering a reset -/

/-- The tag after `t` (R28): never 0x000. -/
def nextTag (t : Nat) : Nat := if t % 4096 = 0xFFF then 1 else t % 4096 + 1

/-- REQUESTER of a DOMAIN_RESET event (Table 20.7). -/
def ResetRequest.code (q : ResetRequest) : Nat := q.requester + q.lktCode * 2 ^ 8 + q.implier * 2 ^ 16

/-- Grove `g`'s logic at its reset state: its command, its lists, its Skid and its registers (R8, R375). -/
def State.clearGrove (s : State) (g : Nat) : State :=
  let s := s.modGrove g (fun x => { role := x.role, windows := x.windows, idle := x.idle, reads := x.reads })
  s.resetBlock (0x10 + g)

/-- A cascade in progress restarts its stage at the new boundary (R296). -/
def State.markDawn (s : State) : State :=
  if s.rf Reg.DAWN_STATUS 0 2 = 0 then s else s.putF Reg.DAWN_STATUS 8 1 1

/-- The tick side of a reset of D2: standing lists wait for the restart boundary (R53), and the picture path drops its bands. -/
def State.awaitRestart (s : State) : State :=
  let s := { s with mode.restart := true, mode.restartReady := false }
  let s := { s with tick.startedStreams := 0 }
  let p := s.pic
  { s with pic := { p with feat0 := [], feat1 := [], tickBand := Option.none, cover := true } }

/-- What a reset of D2 leaves behind (R53, R265, R381, R382): misses counted, a mode change abandoned, standing lists stopped
until the restart boundary. -/
def State.clearD2 (s : State) : State :=
  let s := if s.running 1 then s.missing.foldl State.missResult s else s
  let s := s.abandonChange false
  let s := forRange 16 s (fun s g => if s.role g = .standing then s.clearGrove g else s)
  let s := s.awaitRestart
  let s := s.markDawn
  s.abandonTest

/-- What a reset of D3 leaves behind (R53, R200, R375): an eviction in progress completes, a swap-in leaves its context
swapped, steps are abandoned. -/
def State.clearD3 (s : State) : State :=
  let s := s.abandonChange true
  let s := forRange 16 s (fun s g => match (s.grove g).swap with
    | some w => w.victims.foldl State.evictCtx (s.modGrove g (fun x => { x with swap := Option.none }))
    | Option.none => s)
  let s := forRange 16 s State.abandonStep
  let s := forRange 16 s (fun s g => if s.role g = .open then s.clearGrove g else s)
  s.abandonTest

/-- The blocks of D1 (Table 1.6). -/
def d1Blocks : List Nat := [0x01, 0x04, 0x05, 0x06, 0x07, 0x08, 0x09, 0x2A, 0x2B, 0x2C, 0x2D]

/-- A staging session closes and leaves its slot empty (R427). -/
def State.closeStaging (s : State) : State :=
  match s.boot.staging with
  | some g => ({ s with boot.staging := Option.none }).setSlot g.component (1 - activeSlot s.flash.dir.active g.component) []
  | Option.none => s

/-- Sample set `e` disables with an error (R331); its registers are written whether or not D8 is in reset. -/
def State.endSet (s : State) (e err : Nat) : State :=
  let s := (s.setRf (Reg.IPL_SET_CTRL e) 0 1 0).setReg (Reg.IPL_SET_STATUS e) (err * 2 ^ 8)
  { s with sets := tdel s.sets e }

/-- Every enabled sample set disables with an error (R331). -/
def State.endSets (s : State) (err : Nat) : State := s.sets.foldl (fun s e => s.endSet e.1 err) s

/-- What a reset of D1 leaves behind (R24, R34, R175, R200, R217, R376, R393, R396, R404, R437, R442): the ROM plan, no context,
list, object, entry, window, key or session; DDR5 in self-refresh; the tick restarted. -/
def State.clearD1 (s : State) : State :=
  let s := if s.sets.isEmpty then s else (s.endSets 1).evt Reg.IPL_EVT 2
  let p := s.plan
  let s := { s with sec.heldWin := s.regs.filter (fun e => e.1 / 0x1000 == 0x12) }
  let s := d1Blocks.foldl State.resetBlock s
  let s := s.capChange (capPut 0x10 0)
  let s := s.closeStaging
  { s with
    plan := { p with running := romPlan, next := Option.none, readmitted := false,
                     lastMode := if p.running.rom then p.lastMode else s.mode.cur }
    mode := { thermalHold := s.mode.thermalHold, held := s.mode.held, restart := true }
    tick := { startNs := s.tick.endNs, endNs := s.tick.endNs + 1000000 }
    ctxs := [], pages := {}, tiers := {}, dma := {}, seqt := {}, cam.rings := []
    ddr := { savedSpeed := s.ddr.savedSpeed, savedMask := s.ddr.savedMask, scrubTier := s.ddr.scrubTier,
             scrubUnit := s.ddr.scrubUnit, scrubLine := s.ddr.scrubLine }
    sec := { s.sec with sealKeys := [], packages := [], lastTaken := 1 }
    lkt := {}
    mgt := { link := s.mgt.link }
    pci.outbound := Option.none
    boot := if bitOf s.boot.steps 8 then { s.boot with cold := false } else { s.boot with steps := s.boot.steps &&& 0x72 } }

/-- After D1's and its implied domains' logic is reset, the Groves stand as the ROM plan gives them (R31). -/
def State.romRoles (s : State) : State := s.setRoles (romPlan.mode 0)

/-- The transfers of port `p` end at once and count as discarded (R345). -/
def State.endPortXfers (s : State) (p : Nat) : State :=
  (s.dma.xfers.filter (fun t => (descOf t.2.desc).port == some p)).foldl (fun s t =>
    (s.count (Reg.VIL_DISCARDS p) 1).endXfer t.1 true) s

/-- Port `p` at its reset state (R337, R345). -/
def State.clearPort (s : State) (p : Nat) : State :=
  let s := (s.modPort p (fun _ => {})).resetBlock (0x28 + p)
  s.endPortXfers p

/-- What a reset of D8 leaves behind (R59, R62, R276): lock lost, ALIVE low, the whole picture path, camera and sample sets at
their reset state. -/
def State.clearD8 (s : State) : State :=
  let s := s.loseLock Option.none
  let c := s.cam
  let cfg := (s.rn Reg.CAM_CFG, s.rn Reg.CAM_SIZE)
  let due := c.markDue || (match c.cur with | some f => f.presence | Option.none => false)
  let enabled := s.sets
  let s := [0x20, 0x21, 0x22, 0x23, 0x24, 0x25].foldl State.resetBlock s
  let s := enabled.foldl (fun s e => s.endSet e.1 6) s
  { s with pic := { sinkHpd := s.pic.sinkHpd, sinkTiming := s.pic.sinkTiming, sinkRates := s.pic.sinkRates }
           cam := { markDue := due, noSignal := c.noSignal, presOn := c.presOn, present := c.present, presHits := c.presHits,
                    presAbsent := c.presAbsent, scoreDue := c.scoreDue, rings := c.rings, d0Cfg := cfg }
           sets := []
           pins.alive := false }

/-- Mailbox `b` after a reset of its requester's domain (R393): it reads as idle. -/
def State.clearMailbox (s : State) (b : Nat) : State := s.put (Reg.MBX_STATUS b) 0

/-- The logic of domain `d` at its reset state (R375 step 4). -/
def State.clearDomain (s : State) (d : Nat) : State :=
  match d with
  | 1 => s.clearD1
  | 2 => s.clearD2
  | 3 => s.clearD3
  | 4 => { (s.clearMailbox 1) with boot.osRuns := false }
  | 5 => { ((s.clearMailbox 0).closeStaging) with boot.serviceRuns := false, lkt.serviceArmed := false }
  | 6 => s.clearPort 0
  | 7 => s.clearPort 1
  | 8 => s.clearD8
  | _ => s

/-- Domain `d` marked as in reset, its tag stepped and its requests taken; D2 and D3 stand in reset beside D1 (R27, R28). -/
def State.markReset (s : State) (d : Nat) : State :=
  if d = 0 then s
  else
    let s := s.modDom d (fun x => { x with tag := nextTag x.tag, inReset := true, requests := [] })
    if d = 1 then [2, 3].foldl (fun s e => s.modDom e (fun x => { x with inReset := true })) s else s

/-- Domain `d` leaves reset, its requests merged (R29): never while D0 is in reset or TEST_EN was sampled high (R458), and D2 and D3
not while D1 is in reset (R27). -/
def State.leaveReset (s : State) (d : Nat) : State :=
  if s.inReset 0 || s.pins.testEn || ((d == 2 || d == 3) && s.inReset 1) then s
  else s.modDom d (fun x => { x with inReset := false, requests := [] })

/-- Domain `d` enters reset (R28 to R30, R375): its tag steps once, and its event is recorded; a domain already in reset merges
the request. -/
def State.enterReset (s : State) (d : Nat) (q : ResetRequest) : State :=
  if s.inReset d then s.modDom d (fun x => { x with requests := [] })
  else
    let s := s.markReset d
    let s := s.clearDomain d
    s.report 0x0910 0x00 [d, (s.dom d).tag, q.code]

/-- A reset of domain `d` with those it implies (R27): D1 implies D2 and D3, and then the ROM plan stands. -/
def State.resetDomain (s : State) (d : Nat) (q : ResetRequest) : State :=
  if d = 1 ∧ s.inReset 1 = false then
    let i : ResetRequest := { requester := 5, implier := 1 }
    (((s.enterReset 2 i).enterReset 3 i).enterReset 1 q).romRoles
  else s.enterReset d q

/-- DOMAIN_RESET (R375): the requests for domain `d` are taken. -/
def State.takeReset (s : State) (d : Nat) : State :=
  match (s.dom d).requests with
  | [] => s
  | q :: _ => if d = 0 then s else s.resetDomain d q

/-- DOMAIN_RESET (R375). -/
def execDomainReset (d : Fin 9) (s : State) : Host.Outcome State Fault Refusal := .next (s.takeReset d.val)

/-- A write of SYS_DOMAIN_REQ (Table 1.9): bits 1 to 8 request resets. -/
def State.domainReq (s : State) (v : Nat) : State :=
  ([1, 2, 3, 4, 5, 6, 7, 8].filter (bitOf v)).foldl (fun s d => s.requestReset d { requester := 1 }) s

/-- SYS_DOMAIN_REQ (R29). -/
def execSysDomainReq (init : Initiator) (value : Word) (s : State) : Host.Outcome State Fault Refusal :=
  .next (s.viaWrite init Reg.SYS_DOMAIN_REQ true (·.domainReq value.toNat))

/-! ### Leaving a reset -/

/-- The local fields of the capability table (Table 1.7). -/
def capLocals : List (Nat × Nat) :=
  [(0x000, 0x54435A4F), (0x004, 0x00010000), (0x008, 0x7140), (0x00C, 0x4101), (0x018, 16), (0x01C, 64), (0x020, 64),
   (0x024, 0x200000), (0x028, 16), (0x02C, 0x10000), (0x030, 0x2000000), (0x034, 64), (0x038, 0x100000), (0x050, 128),
   (0x054, 32), (0x058, 512), (0x05C, 1000), (0x060, 4000), (0x064, 0x7FFF), (0x068, 1000), (0x06C, 5), (0x070, 8), (0x074, 8),
   (0x078, 16), (0x07C, 4096), (0x080, 1000), (0x084, 16), (0x088, 2), (0x08C, 128)]

/-- The kernel fills the local fields and sets LOCAL_VALID (R24). -/
def State.capLocal (s : State) : State :=
  s.capChange (fun t => capPut 0x10 (setFld (tget (0 : Word) t 0x10).toNat 0 1 1) (capLocals.foldl (fun t e => capPut e.1 e.2 t) t))

/-- Writing of the last area resumes (R414): the queue first, then a LOST record with the count dropped. -/
def State.resumeRecorder (s : State) : State :=
  let s := s.evr.queue.foldl State.storeLast s
  let s := ({ s with evr.queue := [] }).setRf Reg.EVR_STATUS 4 5 0
  if s.evr.lostPending = 0 then s
  else
    let n := s.evr.lostPending
    ({ s with evr.lostPending := 0 }).report 0x0002 0x03 [n]

/-- The last area cleared before any record is written to it (R414). -/
def State.clearLast (s : State) : State := { s with evr.last := [] }

/-- PCI_STATUS shows the link, whatever resets of D1 do (R431, R439). -/
def State.showLink (s : State) : State :=
  s.put Reg.PCI_STATUS (b2n s.pci.linkUp + s.pci.rate % 8 * 2 + s.pci.width % 4 * 2 ^ 4)

/-- The identifier of the device while its identity is available; zero while it is lost (R398, R399). -/
def State.devId (s : State) : List Byte := if s.sec.seed then s.sec.keys.id else List.replicate 16 0

/-- The IPv4 address in use (R441): the one stored, or the link-local one of DEVICE_ID. -/
def State.ipv4 (s : State) : Nat :=
  match (if s.sec.seed then s.emmc.ipv4 else Option.none) with
  | some (a, _) => a % 2 ^ 32
  | Option.none =>
    let d (i : Nat) : Nat := (nth 0 s.devId i).toNat
    beNat [169, 254, BitVec.ofNat 8 (1 + d 6 % 254), BitVec.ofNat 8 (d 7)]

/-- MGT_STATUS and MGT_IPV4 show the port (Table 22.9). -/
def State.showMgmt (s : State) : State :=
  let s := s.put Reg.MGT_STATUS (b2n s.mgt.link + b2n s.mgt.session.isSome * 2 + b2n s.pins.mgtEnroll * 4)
  s.put Reg.MGT_IPV4 s.ipv4

/-- D1 is released (R24, R414, R429): the kernel's ROM starts, resolves the commit record outside a cold start, and writes
what it keeps of the identity. D2 and D3 are released with it. While D8 is out of reset the timer of D0 goes on driving ALIVE up to
the tick generator's first boundary, which TICK_STATUS.ALIVE_SRC shows (R61, Table 3.9). -/
def State.releaseD1 (s : State) : State :=
  let s := s.leaveReset 1
  let s := s.putF Reg.TICK_STATUS 2 1 (b2n (s.running 8))
  let s := [2, 3].foldl (fun s d => if (s.dom d).power = .off then s else s.leaveReset d) s
  let s := if s.boot.cold then s.clearLast else s
  let s := ((((s.resumeRecorder).capLocal).showMode).showLink).showMgmt
  if s.boot.cold then s
  else ((s.resolveCommit).showIdentity).showLayout

/-- The contexts after a reset of D3 (Table 18.5): those that were resident become FAULTED and lose their allocation. -/
def State.releaseD3 (s : State) : State :=
  (s.ctxs.map (·.1)).foldl (fun s c =>
    let k := s.ctx c
    match k.state with
    | .ready | .running | .blocked =>
      let s := (s.modCtx c (fun k => { k with resident := false, dirty := [] })).faultCtx c 0xB
      if k.stopReq then s.stopNow c else s
    | _ => s) s

/-- What the kernel does when domain `d` is released (Table 18.4). -/
def State.afterRelease (s : State) (d : Nat) : State :=
  match d with
  | 3 => s.releaseD3
  | 4 => s.loadOs
  | 5 => s.loadService
  | _ => s

/-- Whether a domain stays held in reset (R27, R338, R341, R419, R422, R423, R425, R458): D0; each of D1 to D8 while D0 is in reset
or TEST_EN was sampled high; D1, D4, D5 and D8 before their step of a cold start; D2 and D3 while D1 is in reset; cores with
nothing to run; a port with no ring. -/
def State.heldInReset (s : State) (d : Nat) : Bool :=
  decide (d = 0) || s.inReset 0 || s.pins.testEn ||
  match d with
  | 1 => s.boot.cold && !bitOf s.boot.steps 2
  | 2 => s.inReset 1
  | 3 => s.inReset 1
  | 4 => !bitOf s.boot.steps 10 || s.flash.blank || !s.hasLayout || s.inReset 1 || s.ddrHeld
  | 5 => !bitOf s.boot.steps 8 || s.boot.service.isEmpty || !s.hasLayout || s.inReset 1 || s.ddrHeld
  | 8 => !bitOf s.boot.steps 4
  | _ => decide (s.vil.ring = .absent) || decide (s.vil.ring = .solo) || decide (s.vil.ring = .broken)

/-- Domain `d` is released (R29, R375): domain `d` leaves reset, its requests merged, and its after-release actions begin. -/
def State.releaseDomain (s : State) (d : Nat) : State :=
  if !s.inReset d || decide ((s.dom d).power = .off) || s.heldInReset d then s
  else if d = 1 then s.releaseD1
  else (s.leaveReset d).afterRelease d

/-! ### Resets of D0 (R27, R28, R450, R452) -/

/-- What a reset of D0 keeps: the queue of commands, non-volatile storage, the balls' levels, the test access port, the counters
of free values, and the RAM's loss of contents. -/
def State.resetD0 (s : State) : State :=
  let s := s.closeStaging
  { State.reset with
    pending := s.pending
    fresh := s.fresh
    epoch := s.epoch + 1
    lost := powerOnRam.map (fun r => { r with epoch := s.epoch })
    flash := s.flash
    emmc := s.emmc
    boot := { staged := s.boot.staged, stagedDigests := s.boot.stagedDigests }
    tap := s.tap
    pins := { s.pins with alive := false, enRet := true, enRun := true } }

/-- D0 and every domain held in reset by the power-on reset (R452). -/
def State.holdD0 (s : State) : State :=
  { s with pins := { s.pins with porAsserted := true }, domains := [(0, { inReset := true })] }

/-- POWER_ON_RESET (R452): D0 and every domain are held in reset. -/
def execPowerOnReset (s : State) : Host.Outcome State Fault Refusal := .next (s.resetD0).holdD0

/-- EXTERNAL_RESET (R452): a low pulse of 1 µs or longer resets D0; one shorter than 100 ns is ignored, and between the two it
may or may not reset. -/
def execExternalReset (pulseNs : Nat) (s : State) : Host.Outcome State Fault Refusal :=
  .next (if pulseNs < 100 then s
    else if 1000 ≤ pulseNs ∨ s.freeVal 10 % 2 = 0 then
      (if s.inReset 0 then ((s.resetD0).tickFresh).holdD0 else (s.resetD0).tickFresh)
    else s.tickFresh)

end Sys2Proof.Machine
end

