-- ==== Sys2Proof/Machine/DdrCtl.lean ====
section
/-! DEFINITION. The DDR5 controller: training, restoring after a reset of D1, and patrol scrub (chapter 12, R237 to R252). -/
namespace Sys2Proof.Machine
open Sys2Proof

/-! ### Training (R239, R240) -/

/-- The populated channels by the strap (R237, R238). -/
def State.populated (s : State) : Nat := if s.pins.population = 0 then 0x0F else 0xFF

/-- The search of R239: `speed` is the code tried, `oks` the channels that train at each attempt in turn. It answers the speed, the
channels kept, and whether channels were dropped. -/
def trainSearch (pop : Nat) : Nat → List Nat → Nat × Nat × Bool
  | speed, oks =>
    let ok := oks.headD 0 &&& pop
    if ok = pop then (speed, pop, false)
    else match speed with
      | v + 1 => trainSearch pop v oks.tail
      | 0 => if pop = 0xFF ∧ ok &&& 0x0F = 0x0F then (0, 0x0F, true) else (0, 0, false)

/-- A training that ends with `r` (R239, Table 12.3, Table 12.4). -/
def State.endTraining (s : State) (r : Nat × Nat × Bool) (restored : Bool) : State :=
  let (speed, mask, dropped) := r
  let s := { s with ddr.trainSpeed := speed, ddr.trainMask := mask, ddr.savedSpeed := speed, ddr.savedMask := mask,
                    ddr.trainDone := true }
  let s := s.put Reg.DDR_STATUS (b2n (mask != 0) + b2n (restored && mask != 0) * 2 + speed * 4 + mask * 256)
  let s := if mask = 0 then s.evt Reg.DDR_EVT 0 else s
  if dropped then (s.evt Reg.DDR_EVT 1).reportOwn 4 Reg.DDR_EVT 0 else s

/-- A full training (R239); a reserved strap value leaves DDR5 untrained (R447). -/
def State.fullTraining (s : State) (oks : List Nat) : State :=
  if 3 ≤ s.pins.density ∨ 3 ≤ s.pins.maxSpeed then s.endTraining (0, 0, false) false
  else s.endTraining (trainSearch s.populated s.pins.maxSpeed oks) false

/-- DDR_TRAINING (R239): at a cold start, once the kernel runs. -/
def State.ddrTraining (s : State) (oks : List Nat) : State :=
  if s.running 1 && s.boot.cold && bitOf s.boot.steps 2 && !s.ddr.trainDone then s.fullTraining oks else s

/-- DDR_TRAINING (R239). -/
def execDdrTraining (speeds : List Nat) (s : State) : Host.Outcome State Fault Refusal := .next (s.ddrTraining speeds)

/-- The DDR fields of the capability table written and DDR_VALID set (R24, R240). -/
def State.capDdr (s : State) : State :=
  let m := s.ddr.trainMask
  let installed := popCount 8 m * channelBytes s.pins.density
  s.capChange (fun t =>
    let t := capPut 0x3C m t
    let t := capPut 0x44 (installed / 2 ^ 32) (capPut 0x40 (installed % 2 ^ 32) t)
    let t := capPut 0x4C (s.ddrUsable / 2 ^ 32) (capPut 0x48 (s.ddrUsable % 2 ^ 32) t)
    capPut 0x10 (setFld (tget (0 : Word) t 0x10).toNat 1 1 1) t)

/-- DDR_VALID of CAP_STATE (R24). -/
def State.ddrValid (s : State) : Bool := bitOf (s.capWord 0x10) 1

/-- DDR_TRAINING_END (R240): the fields written and DDR_VALID set. -/
def execDdrTrainingEnd (s : State) : Host.Outcome State Fault Refusal :=
  .next (if s.running 1 && s.ddr.trainDone && !s.ddrValid then s.capDdr else s)

/-! ### Restoring (R241, R376) -/

/-- One access that a reset of D1 held completes: with a bus error when no channel trained (R376). -/
def State.completeHeld (s : State) (a : Initiator × AccessKind × Nat × Nat × Nat) : State :=
  let (init, kind, addr, size, value) := a
  if s.ddrUsable < addr + size - ddrBase then s.denyAccess init addr (kind == .write)
  else s.memAccess init kind addr size value 0

/-- DDR_RESTORE (R241): after a reset of D1 the trained values are restored, or a full training follows where recalibration
fails; DDR_VALID is set and the accesses held complete. -/
def State.ddrRestore (s : State) (ok : Bool) (oks : List Nat) : State :=
  if !s.running 1 || s.boot.cold || s.ddr.trainDone then s
  else
    let was := (s.ddr.savedSpeed, s.ddr.savedMask)
    let s := if ok then s.endTraining (was.1, was.2, false) true else s.fullTraining oks
    let now := (s.ddr.trainSpeed, s.ddr.trainMask)
    let s := if now ≠ was then s.reportOwn 4 Reg.DDR_EVT 1 else s
    let s := if now.2 ≠ was.2 then s.loseMem ddrBase 0x1000000000 else s
    let s := s.capDdr
    let held := s.pci.heldAccesses
    held.foldl State.completeHeld { s with pci.heldAccesses := [] }

/-- DDR_RESTORE (R241). -/
def execDdrRestore (ok : Bool) (speeds : List Nat) (s : State) : Host.Outcome State Fault Refusal := .next (s.ddrRestore ok speeds)

/-! ### Patrol scrub (R249) -/

/-- Where the patrol scrub stands: tier, unit and line (0 DDR5, 1 Canopy, 2 Grove SRAM). -/
structure ScrubAt where
  tier : Nat
  unit : Nat
  line : Nat
  deriving DecidableEq, Repr

/-- Lines of the scrub's tier and unit; none of a Grove in the off role. -/
def State.scrubLines (s : State) (tier unit : Nat) : Nat :=
  match tier with
  | 0 => s.ddrUsable / 64
  | 1 => 0x80000
  | _ => if s.role unit = .off then 0 else 0x8000

/-- The next unit to scrub after one is done: DDR5, the Canopy, then each Grove. -/
def nextUnit (tier unit : Nat) : Nat × Nat :=
  match tier with
  | 0 => (1, 0)
  | 1 => (2, 0)
  | _ => if unit + 1 < 16 then (2, unit + 1) else (0, 0)

/-- A pass over DDR5 ends: it is counted, and the corrections of a new pass start from 0 (R250). -/
def State.scrubPass (s : State) : State :=
  let s := (s.count Reg.DDR_SCRUB_PASSES 1).evt Reg.DDR_EVT 5
  { s with ddr.passCorr := [], ddr.stormSet := 0 }

/-- The first line to scrub from a place on: units with no line left are passed over. -/
def State.seekScrub (s : State) : Nat → State
  | 0 => s
  | fuel + 1 =>
    let d := s.ddr
    if d.scrubLine < s.scrubLines d.scrubTier d.scrubUnit then s
    else
      let (t, u) := nextUnit d.scrubTier d.scrubUnit
      let s := { s with ddr.scrubTier := t, ddr.scrubUnit := u, ddr.scrubLine := 0 }
      s.seekScrub fuel

/-- The address of the line the scrub stands at. -/
def State.scrubAddr (s : State) : Nat :=
  let d := s.ddr
  (match d.scrubTier with | 0 => ddrBase | 1 => canopyBase | _ => groveBase d.scrubUnit) + 64 * d.scrubLine

/-- SCRUB_LINE (R249): the next line read; a corrected error is written back, an uncorrectable one counted and recorded, the line
left as it is (Table 12.2). -/
def State.scrub (s : State) (symbols : Nat) : State :=
  if !s.running 1 || !s.ddr.trainDone || s.rf Reg.PWR_STATUS 0 2 = 2 then s
  else
    let s := s.seekScrub 20
    let a := s.scrubAddr
    let last := decide (s.ddr.scrubTier = 0 ∧ s.ddr.scrubLine + 1 = s.scrubLines 0 0)
    let s := s.meetErrors a symbols
    let s := s.reportBad a 64 1
    let s := { s with ddr.scrubLine := s.ddr.scrubLine + 1 }
    if last then s.scrubPass else s

/-- SCRUB_LINE (R249). -/
def execScrubLine (symbols : Nat) (s : State) : Host.Outcome State Fault Refusal := .next (s.scrub symbols)

end Sys2Proof.Machine
end

