-- ==== Sys2Proof/Machine/PicOps.lean ====
section
/-! DEFINITION. What the picture path's commands share: a picture stream's parameters, the added delay, geometry, feature bits,
the registers that show them, the input and output rings, and samples (chapter 13). -/
namespace Sys2Proof.Machine
open Sys2Proof

/-! ### A picture stream's parameter block (Table 2.15) -/

def picR (b : List Byte) : Nat := fld (u32 b 0) 0 12
def picS (b : List Byte) : Nat := max 1 (fld (u32 b 0) 12 5)
def picH (b : List Byte) : Nat := fld (u32 b 0) 20 4
def picScale (b : List Byte) : Nat := fld (u32 b 0) 24 2
/-- FRC is 2. -/
def picFrc2 (b : List Byte) : Bool := bitOf (u32 b 0) 28
def picFrc (b : List Byte) : Nat := if picFrc2 b then 2 else 1
def picDeclW (b : List Byte) : Nat := u16 b 4
def picDeclH (b : List Byte) : Nat := u16 b 6
def picInRows (b : List Byte) : Nat := fld (u32 b 8) 0 12
def picOutRows (b : List Byte) : Nat := fld (u32 b 8) 16 12
def picMotion (b : List Byte) : Nat := fld (u32 b 0xC) 0 12
def picRgb (b : List Byte) : Bool := bitOf (u32 b 0x10) 0
def picFmt (b : List Byte) : Nat := fld (u32 b 0x10) 4 4
def picInRing (b : List Byte) : Nat := fld (u32 b 0x14) 0 10
def picOutRing (b : List Byte) : Nat := fld (u32 b 0x14) 16 10
/-- OFF_p, a 16-bit code. -/
def picOff (b : List Byte) (p : Nat) : Nat := u16 b (0x1C + 2 * p)
/-- GAIN_p. -/
def picGain (b : List Byte) (p : Nat) : Fp := fp32Of (u32 b (0x24 + 4 * p))
def picOutW (b : List Byte) : Nat := u16 b 0x30
def picOutH (b : List Byte) : Nat := u16 b 0x32
def picTotalW (b : List Byte) : Nat := u16 b 0x34
def picTotalH (b : List Byte) : Nat := u16 b 0x36
/-- Output rows of one band. -/
def picRo (b : List Byte) : Nat := picR b * picScale b
/-- NB (R259). -/
def picNb (b : List Byte) : Nat := ceilDiv (picDeclH b) (picR b)
/-- m (R264). -/
def picLag (b : List Byte) : Nat := if picFrc2 b then ceilDiv (picMotion b) (picR b) else 0

/-- The parameter block of the current mode's picture stream. -/
def State.picParams (s : State) : Option (List Byte) := s.thePlan.pictureParams s.mode.cur
/-- The ID of the current mode's picture stream. -/
def State.picStream (s : State) : Option Nat := (s.thePlan.streamOfKind s.mode.cur 1).map (·.id)

/-- The input has the declared geometry (R258). -/
def State.geomMatch (s : State) : Bool :=
  match s.picParams, s.pic.timing with
  | some b, some t => t.activeW == picDeclW b && t.activeH == picDeclH b && !s.pic.dscBad
  | _, _ => false

/-- The output timing has at least the input's active-to-total line ratio (R273). -/
def ratioOk (b : List Byte) (t : VideoTiming) : Bool := decide (t.activeH * picTotalH b ≤ picOutH b * t.totalH)

/-- The mode's picture stream with its own output timing runs (R266, R272, R273). -/
def State.neuralParams (s : State) : Option (List Byte) :=
  match s.picParams, s.pic.timing with
  | some b, some t => if ratioOk b t then some b else Option.none
  | some b, Option.none => some b
  | _, _ => Option.none

/-- The picture is split across the devices of a closed ring (R270, R347). -/
def State.splitPicture (s : State) : Bool :=
  decide (s.vil.ring = .closed) && s.thePlan.hasExchange s.mode.cur && decide (0 < (s.thePlan.columns s.chipId).2)

/-! ### The added delay D (R273) -/

/-- n / d rounded to the nearest, halves up. -/
def nearest (n d : Nat) : Nat := if d = 0 then 0 else (2 * n + d) / (2 * d)

/-- D in ns for a picture stream and an input timing, `freeTick` being the free tick length while the tick is unlocked: each
term of R273 to the nearest ns, as the figures below Table 13.6 add them; `split` adds one tick (R347). -/
def addedDelay (b : List Byte) (t : VideoTiming) (tickMax : Nat) (freeTick : Option Nat) (split : Bool) : Nat :=
  let f := t.frameMhz
  let frc := picFrc b
  -- T as tn / td ns, L_in as 10¹² / (f × TOTAL_H), L_out as 10¹² / (f × FRC × OUT_TOTAL_H)
  let (tn, td) := match freeTick with | some x => (x, 1) | Option.none => (1000000000, tickMax)
  let lin (n : Nat) := nearest (n * 10 ^ 12) (f * t.totalH)
  let ld := f * frc * picTotalH b
  let ro := picRo b
  let lambda0 : Int :=
    let num : Int := ((picNb b - 1 : Nat) : Int) * ((tn * ld : Nat) - (ro * 10 ^ 12 * td : Nat))
    let d : Int := ((td * ld : Nat) : Int)
    if d = 0 then 0 else (2 * num + d) / (2 * d)
  let base := nearest (2 * tn) td + lin (picR b + picH b + (if picFrc2 b then picMotion b else 0)) + nearest (8 * 10 ^ 12) ld + 16000
  let lambda : Int :=
    if picFrc2 b then
      lambda0 + ((nearest (picLag b * tn) td : Nat) : Int) - ((lin (picMotion b) : Nat) : Int) - ((nearest (10 ^ 12) (2 * f) : Nat) : Int)
    else lambda0
  base + lambda.toNat + (if picFrc2 b then nearest (10 ^ 12) f else 0) + (if split then nearest tn td else 0)

/-- D for bypass only. -/
def bypassDelay (t : VideoTiming) : Nat := nearest (8 * 10 ^ 12) (t.frameMhz * t.totalH) + 16000

/-- D of the current mode and input timing; 0 before any timing is known. -/
def State.delayNs (s : State) : Nat :=
  match s.pic.timing with
  | Option.none => 0
  | some t =>
    match s.neuralParams with
    | some b =>
      addedDelay b t s.theMode.tickMax (if s.tick.locked then Option.none else some (freeTickNs s.freeRate s.theMode)) s.splitPicture
    | Option.none => bypassDelay t

/-! ### Output timing (R266, R272, R275) -/

/-- Active and total size of the output, and its frame rate in mHz. -/
def State.outputTiming (s : State) : Nat × Nat × Nat × Nat × Nat :=
  let f := match s.pic.timing with | some t => t.frameMhz | Option.none => 60000
  match s.neuralParams with
  | some b => (picOutW b, picOutH b, picTotalW b, picTotalH b, f * picFrc b)
  | Option.none =>
    let (w, h) := s.pic.sinkTiming.getD (3840, 2160)
    (w, h, w, h, f)

/-- BYP_STEP for one axis: input pixels per output pixel in units of 1/4,096, from 1,024 to 8,192. Of a quotient that is no
whole number either neighbour may be shown: the spec states no rounding. -/
def stepValue (input output : Nat) : Nat :=
  let q := if output = 0 then 4096 else input * 4096 / output
  let q := if output ≠ 0 ∧ input * 4096 % output ≠ 0 then q + Config.freeFn 23 [input, output] % 2 else q
  max 1024 (min 8192 q)

/-! ### Registers that show the picture path -/

/-- VIN_STATUS.GEOM_MATCH, RCMP_STATUS, RCMP_DELAY_NS, BYP_STEP and the picture stream's registers, at mode switches and changes
of input timing (R258, R273, R282). -/
def State.showGeometry (s : State) : State :=
  let s := s.writePicture
  let was := s.rb Reg.RCMP_STATUS 5
  let bad := s.picParams.isSome && s.pic.timing.isSome && !s.geomMatch
  let s := s.putF Reg.VIN_STATUS 13 1 (b2n s.geomMatch)
  let s := (s.putF Reg.RCMP_STATUS 4 1 (b2n s.picParams.isSome)).putF Reg.RCMP_STATUS 5 1 (b2n bad)
  let s := if bad && !was then s.evt Reg.RCMP_EVT 4 else s
  let s := s.put Reg.RCMP_DELAY_NS s.delayNs
  match s.pic.timing with
  | some t =>
    let (w, h, _) := s.outputTiming
    s.put Reg.BYP_STEP (stepValue t.activeW w + 2 ^ 16 * stepValue t.activeH h)
  | Option.none => s

/-- Both sets of feature-valid bits cleared (R265). -/
def State.clearFeatures (s : State) : State :=
  let had := !s.pic.feat0.isEmpty || !s.pic.feat1.isEmpty
  let s := { s with pic.feat0 := [], pic.feat1 := [] }
  if had then s.evt Reg.RCMP_EVT 5 else s

/-- HPD is asserted while D8 is out of reset with VIN_EDID loaded and FORCE_LOW clear (R254). -/
def State.showHpd (s : State) : State := s.putF Reg.VIN_STATUS 16 1 (b2n (!s.rb Reg.VIN_HPD 0))

/-- VIN_EDID loaded: from the plan, or the built-in E-EDID (R254). -/
def State.loadEdid (s : State) : State :=
  match s.thePlan.streams.find? (fun x => x.kind == 1 && u32 x.params 0x48 != 0) with
  | some _ => s.writeEdid
  | Option.none => forRange 128 s (fun s i => s.put (Reg.VIN_EDID i) (Config.builtinEdid i % 2 ^ 32))

/-! ### Band keys -/

/-- The key of band `b` of source frame `f`. -/
def bandKey (f b : Nat) : Nat := f % 4 * 256 + b
/-- Keys of the frames that a new frame `f` can still meet. -/
def dropOld (f : Nat) (ks : List Nat) : List Nat := ks.filter (fun k => decide (k / 256 ≠ (f + 1) % 4) && decide (k / 256 ≠ f % 4))

/-- Whether the stream's result for the tick that released the band of key `k` is complete (R266). -/
def State.bandDone (s : State) (k : Nat) : Bool :=
  s.pic.done.contains k ||
    (s.pic.tickBand == some k && (match s.picStream with | some i => !s.missing.contains i | Option.none => false))

/-- Every band of the last two source frames that has no complete result is covered (Table 13.4): of the frame in progress only
where some of its rows have arrived. -/
def State.coverPending (s : State) : State :=
  let f := s.pic.frame
  let ks := (List.range 128).map (bandKey (f + 3)) ++ (if s.pic.rows = 0 then [] else (List.range 128).map (bandKey f))
  let new := ks.filter (fun k => !s.bandDone k && !s.pic.covered.contains k)
  { s with pic.covered := s.pic.covered ++ new }

/-- Whether the band cutter takes the frame that starts: the input matches the mode's declared geometry and is not lost (R258,
R274). -/
def State.mayCut (s : State) : Bool := s.geomMatch && !s.pic.lost

/-- Whether the feature-valid bit of band `b` is set in the set that frame `f` writes (R265). -/
def State.featureValid (s : State) (f b : Nat) : Bool :=
  (if f % 2 = 0 then s.pic.feat0 else s.pic.feat1).contains b || (s.pic.frame == f && s.pic.tickBand == some (bandKey f b) && s.bandDone (bandKey f b))

/-! ### Rings (R257, R263, R264) -/

/-- The pitch of a ring row of `n` samples of two bytes. -/
def ringPitch (n : Nat) : Nat := roundUp (2 * n) 128

/-- The standing object of the DDR5 BUFFER region with an index (R212). -/
def Plan.regionObject (p : Plan) (i : Nat) : Nat :=
  3840 + (p.regions.filter (fun r => r.tier == 0 && !r.band)).length + ((p.regions.take i).filter (·.tier == 1)).length

/-- `n` bytes at offset `o` of a BUFFER region: of a Canopy region, or of the standing object of a DDR5 region, within one of its
tiles. -/
def State.regionBytes (s : State) (i o n : Nat) : List Byte :=
  match s.thePlan.regions[i]? with
  | some r =>
    if r.tier = 1 then
      match (s.readTile (.home (s.thePlan.regionObject i) (o / 4096)) 0).2 with
      | .ok p => (p.drop (o % 4096)).take n
      | .error _ => List.replicate n 0
    else s.rdBytes (canopyBase + r.offset + o) n
  | Option.none => List.replicate n 0

/-- Whether a sample at offset `o` of a BUFFER region lies in an uncorrectable line (R269). -/
def State.regionBad (s : State) (i o : Nat) : Bool :=
  match s.thePlan.regions[i]? with
  | some r =>
    if r.tier = 1 then (match (s.readTile (.home (s.thePlan.regionObject i) (o / 4096)) 0).2 with | .ok _ => false | .error _ => true)
    else !(s.badIn (canopyBase + r.offset + o) 2).isEmpty
  | Option.none => false

/-- The offset of sample `x` of plane `p`, row `y`, in a ring of `rows` rows of `w` samples. -/
def ringOffset (rows w p y x : Nat) : Nat := (p * rows + y % max 1 rows) * ringPitch w + 2 * x

/-! ### Samples (R257, R267) -/

/-- Whether an input's planes follow from its codes exactly: the component of plane `p` is neither interpolated nor converted by
a matrix. The taps of the chroma interpolation and the rounding of the matrix are not stated. -/
def planeExact (t : VideoTiming) (b : List Byte) (p : Nat) : Bool :=
  if t.enc = 0 then picRgb b
  else !picRgb b && (t.enc == 1 || p == 0)

/-- (c16 − OFF) × GAIN rounded once to the plane format (R257). -/
def planeValue (b : List Byte) (p code depth : Nat) : Nat :=
  let c16 : Int := ((code * 2 ^ (16 - depth) : Nat) : Int)
  let d : Int := c16 - (picOff b p : Int)
  match picGain b p with
  | .fin neg m e =>
    let sgn := neg != decide (d < 0)
    (convertOut (picFmt b) (.fin sgn (d.natAbs * m) e)).1
  | .inf n => (convertOut (picFmt b) (if d = 0 then .nan else .inf (n != decide (d < 0)))).1
  | .nan => nanBits (picFmt b)

/-- Component depth in bits of a timing. -/
def depthBits (t : VideoTiming) : Nat := nth 8 [8, 10, 12] t.depth

/-- One plane of a received row as plane values. -/
def State.inputPlane (s : State) (t : VideoTiming) (b : List Byte) (p : Nat) (codes : List Nat) : List Nat :=
  (List.range t.activeW).map (fun x =>
    if planeExact t b p then planeValue b p (nth 0 codes x % 2 ^ depthBits t) (depthBits t)
    else Config.freeFn 24 [s.fresh, s.pic.rows, p, x] % 65536)

/-- A plane value as a 16-bit output code: the inverse of R257, to the nearest, held to 0 to 65,535 (R267); the code of a NaN
or under a GAIN of zero is not stated. -/
def outputCode (b : List Byte) (p bits : Nat) : Nat :=
  let clamp (i : Int) : Nat := (clampInt 0 65535 i).toNat
  match decodeFmt (picFmt b) bits, picGain b p with
  | .fin nv mv ev, .fin ng mg eg =>
    if mg = 0 then Config.freeFn 25 [p, bits] % 65536
    else
      let (n, d) := scaleFrac mv mg (ev - eg)
      let off := picOff b p
      if nv = ng then clamp (rneDiv (n + off * d) d : Nat)
      else if off * d ≤ n then 0 else clamp (rneDiv (off * d - n) d : Nat)
  | .inf nv, .fin ng mg _ => if mg = 0 then Config.freeFn 25 [p, bits] % 65536 else if nv = ng then 65535 else 0
  | _, _ => Config.freeFn 25 [p, bits] % 65536

/-- The bypass scaler's sample at a place of the output frame in progress: its fixed coefficient sets and its rounding are not
stated (R271). -/
def State.bypassSample (s : State) (p y x : Nat) : Nat := Config.freeFn 22 [s.pic.outKey, p, y, x] % 65536

/-- R267's blend of a neural sample and a bypass sample at distance `d` from the seam. -/
def blend (d n b : Nat) : Nat := let w := 2 * d + 1; (w * n + (16 - w) * b + 8) / 16

/-- The mute colour of VOUT_MUTE as three 16-bit codes. -/
def muteCodes (v : Nat) : List Nat := [fld v 0 10 * 64, fld v 10 10 * 64, fld v 20 10 * 64]

end Sys2Proof.Machine
end

