-- ==== Sys2Proof/Machine/ListenOps.lean ====
section
/-! DEFINITION. The history ring's positions, HOST_WAKE and the wake cascade (chapter 14, R286 to R305, R461). -/
namespace Sys2Proof.Machine
open Sys2Proof

/-! ### The history ring (R288, R290) -/

/-- Sample rate in Hz (Table 14.1). -/
def State.micRate (s : State) : Nat := nth 16000 [16000, 24000, 32000, 48000] (s.rf Reg.MIC_CFG 4 2)
/-- Enabled inputs. -/
def State.micCount (s : State) : Nat := popCount 4 (s.rf Reg.MIC_CFG 0 4)
/-- FB. -/
def State.frameBytes (s : State) : Nat := 2 * s.micCount
/-- CAP. -/
def State.histCap (s : State) : Nat := s.micRate * s.rf Reg.MIC_HIST 0 13 / 1000
def State.wpos (s : State) : Nat := s.r64 Reg.MIC_WPOS_LO
def State.histStart (s : State) : Nat := s.r64 Reg.MIC_START_LO
/-- OLDEST. -/
def State.oldest (s : State) : Nat := max s.histStart (s.wpos - s.histCap)
/-- Frames of a number of milliseconds. -/
def State.msFrames (s : State) (ms : Nat) : Nat := s.micRate * ms / 1000
/-- SAFE (R290). -/
def State.safe (s : State) : Nat := s.oldest + s.msFrames 20

/-- NMIC, BIAS_ON and MUTED of MIC_STATUS (Table 14.9). -/
def State.showMic (s : State) : State :=
  let s := s.putF Reg.MIC_STATUS 4 3 s.micCount
  let s := s.putF Reg.MIC_STATUS 2 1 (b2n (s.rb Reg.MIC_BIAS 0 && !bitOf s.mic.biasOff 0))
  let s := s.putF Reg.MIC_STATUS 3 1 (b2n (s.rb Reg.MIC_BIAS 8 && !bitOf s.mic.biasOff 1))
  s.putF Reg.MIC_STATUS 1 1 (b2n s.mic.muted)

/-! ### HOST_WAKE (R301) -/

/-- HOST_WAKE asserted with a reason: a new reason replaces the old one and restarts the hold. Vector 129 signals ASSERTED as it
rises (R432; log entry 35). -/
def State.assertWake (s : State) (reason : Nat) : State :=
  let rises := !s.rb Reg.DAWN_HOST_WAKE 0
  let s := s.put Reg.DAWN_HOST_WAKE (1 + reason * 2 ^ 8)
  if rises && s.rb Reg.DAWN_HOST_WAKE 0 then s.msixSignal 129 else s

/-! ### Stages (R294, R302, R305) -/

def State.stage (s : State) : Nat := s.rf Reg.DAWN_STATUS 0 2
def State.utt (s : State) : Nat := s.rf Reg.DAWN_STATUS 16 16
def State.wakePos (s : State) : Nat := s.r64 Reg.DAWN_WAKE_POS_LO

/-- The wake logic's vote keeps D2 ON while it is held (R305). -/
def State.holdVote (s : State) (on : Bool) : State :=
  ((s.putF Reg.DAWN_STATUS 10 1 (b2n on)).put (Reg.PWR_VOTE 4) (if on then 3 * 2 ^ 4 else 0)).showPower

/-- STAGE given a value; the vote goes with it. -/
def State.setStage (s : State) (n : Nat) : State := (s.putF Reg.DAWN_STATUS 0 2 n).holdVote (decide (n ≠ 0))

/-- The cascade returns to stage 0, and HOST_WAKE is asserted with `reason` unless that is 0. -/
def State.endCascade (s : State) (reason : Nat) : State :=
  let s := (s.setStage 0).putF Reg.DAWN_STATUS 8 2 0
  let s := { s with mic.hits := 0, mic.lastDone := 0 }
  if reason = 0 then s else s.assertWake reason

/-- A CASCADE event (Table 20.3): the DAWN_EVT bit and UTT. -/
def State.cascadeEvent (s : State) (bit : Nat) : State :=
  (s.evt Reg.DAWN_EVT bit).report 0x0601 0x27 [bit, s.utt]

/-- The utterance is lost (R297). -/
def State.loseUtterance (s : State) : State :=
  let s := (s.count Reg.DAWN_GAPS 1).cascadeEvent 6
  s.endCascade 0

/-- LOOKBACK and LOOKAHEAD in frames. -/
def State.lookback (s : State) : Nat := s.msFrames (s.rf Reg.DAWN_WINDOW 0 16)
def State.lookahead (s : State) : Nat := s.msFrames (s.rf Reg.DAWN_WINDOW 16 16)

/-- The start position of the current stage (R297); a position before frame 0 lies below SAFE. -/
def State.startBelowSafe (s : State) : Bool :=
  match s.stage with
  | 1 => decide (s.wakePos < s.safe + s.lookback)
  | 2 => decide (s.r64 Reg.DAWN_U_LO < s.safe)
  | _ => false

/-- A stage starts or restarts: below SAFE its utterance is lost (R297). -/
def State.checkStart (s : State) : State := if s.startBelowSafe then s.loseUtterance else s

/-- The depth of mode `m` (R294). -/
def State.depthOf (s : State) (m : Nat) : Nat :=
  if (s.thePlan.streamOfKind m 2).isSome then fld s.mic.depths (2 * m) 2 else 0

/-- DEPTH shown for the current mode; a cascade deeper than it ends with the reason of the last stage that completed (R294). -/
def State.applyDepth (s : State) : State :=
  let d := s.depthOf s.mode.cur
  let s := s.putF Reg.DAWN_STATUS 4 2 d
  if d < s.stage then s.endCascade s.mic.lastDone else s

/-- The cascade goes on from a detection at the current depth (R294): stage 1, or its end with reason 1. -/
def State.afterDetection (s : State) : State :=
  let s := { s with mic.lastDone := 1 }
  if s.depthOf s.mode.cur = 0 then s.endCascade 1 else (s.setStage 1).checkStart

/-! ### The cascade block (R295, Table 14.3) -/

/-- The cascade block's address, when it is valid. -/
def State.cascadeBlock (s : State) : Option Nat :=
  if s.rb Reg.DAWN_CASCADE 0 then some (dawnBase + s.rf Reg.DAWN_CASCADE 9 11 * 512) else Option.none

/-- The wake-logic fields written (R295). -/
def State.publish (s : State) : State :=
  match s.cascadeBlock with
  | Option.none => s
  | some a =>
    let s := s.wrLE a 8 s.wpos
    let s := s.wrLE (a + 8) 8 s.safe
    let s := s.wrLE (a + 0x10) 4 (s.stage + b2n (s.rb Reg.DAWN_STATUS 8) * 2 ^ 8 + s.utt * 2 ^ 16)
    let s := s.wrLE (a + 0x14) 4 (s.msFrames 10 + s.micCount * 2 ^ 16)
    let s := s.wrLE (a + 0x18) 8 s.wakePos
    let s := s.wrLE (a + 0x20) 8 (s.r64 Reg.DAWN_U_LO)
    s.wrLE (a + 0x28) 8 (s.r64 Reg.DAWN_FEED_LO)

/-- The assistant context is woken (R300 step 4). -/
def State.wakeAssist (s : State) : State :=
  if !s.rb Reg.DAWN_ASSIST 7 then s
  else
    let c := s.rf Reg.DAWN_ASSIST 0 7
    let k := s.ctx c
    if k.state = .blocked ∧ k.cause = 2 then s.wakeCtx c
    else if k.state = .swappedBlocked ∧ k.cause = 2 then (s.wakeCtx c).considerSwaps
    else s

/-- A delivery (R300) of `count` tokens from the cascade block at `a`, then the follow-up or the end (R299). -/
def State.deliverText (s : State) (a count end_ : Nat) : State :=
  let toks := (List.range count).map (fun i => s.rdLE (a + 0x80 + 4 * i) 4 % 2 ^ 24)
  let s := s.put (Reg.DAWN_TXT 0) (count + end_ * 2 ^ 8 + s.utt * 2 ^ 16)
  let s := forRange count s (fun s i => s.put (Reg.DAWN_TXT (i + 1)) (nth 0 toks i))
  let lapped := s.rb Reg.DAWN_EVT 3
  let s := (s.count Reg.DAWN_DELIVERIES 1).evt Reg.DAWN_EVT 3
  let s := if lapped then s.evt Reg.DAWN_EVT 4 else s
  let s := s.wakeAssist
  let s := { s with mic.lastDone := 3 }
  if s.rf Reg.DAWN_UTT 16 16 = 0 then s.endCascade 3
  else (s.assertWake 3).putF Reg.DAWN_STATUS 9 1 1

/-- A rejected detection ends the cascade (R298). -/
def State.rejectVerdict (s : State) (outside : Bool) : State :=
  let s := (s.count Reg.DAWN_REJECTS 1).evt Reg.DAWN_EVT 2
  let s := if outside then s.cascadeEvent 2 else s
  s.endCascade 0

/-- A verdict of stage 1 is taken (R298). -/
def State.takeVerdict (s : State) (a : Nat) : State :=
  let v := s.rdLE (a + 0x40) 4
  if fld v 16 16 ≠ s.utt then s
  else
    let u := s.rdLE (a + 0x48) 8
    let p0 := s.wakePos
    let inside := decide (p0 ≤ u + s.lookback) && decide (u < p0 + s.lookahead)
    match fld v 0 2 with
    | 1 =>
      if inside then
        let s := (s.put Reg.DAWN_U_LO (u % 2 ^ 32)).put Reg.DAWN_U_HI (u / 2 ^ 32)
        let s := (s.put Reg.DAWN_FEED_LO (u % 2 ^ 32)).put Reg.DAWN_FEED_HI (u / 2 ^ 32)
        let s := ({ s with mic.lastDone := 2 }).evt Reg.DAWN_EVT 1
        if s.depthOf s.mode.cur < 2 then s.endCascade 2 else (s.setStage 2).checkStart
      else s.rejectVerdict true
    | 2 => s.rejectVerdict false
    | _ => s

/-- A result of stage 2 is taken (R299). -/
def State.takeResult (s : State) (a : Nat) : State :=
  let d := s.rdLE (a + 0x50) 4
  if fld d 16 16 ≠ s.utt then s
  else
    let feed := s.rdLE (a + 0x58) 8
    let mark := s.rdLE (a + 0x60) 8
    let count := fld d 8 6
    let s := (s.put Reg.DAWN_FEED_LO (feed % 2 ^ 32)).put Reg.DAWN_FEED_HI (feed / 2 ^ 32)
    if s.rb Reg.DAWN_STATUS 9 then
      if fld d 0 2 = 1 then
        let s := (s.putF Reg.DAWN_STATUS 16 16 (s.utt + 1)).putF Reg.DAWN_STATUS 9 1 0
        (s.put Reg.DAWN_U_LO (mark % 2 ^ 32)).put Reg.DAWN_U_HI (mark / 2 ^ 32)
      else s
    else if fld d 0 2 = 2 then s.deliverText a count 1
    else if s.r64 Reg.DAWN_U_LO + s.msFrames (s.rf Reg.DAWN_UTT 0 16) ≤ feed then s.deliverText a count 2
    else if count = 63 then s.deliverText a count 3
    else s

/-- The wake logic at a tick boundary (R295, R296): it takes the list fields where the listening stream's lists of the ending tick
ran, `complete` saying whether their result completed, and publishes its own. -/
def State.wakeBoundary (s : State) (ran complete : Bool) : State :=
  let s :=
    if s.stage = 0 ∨ ran = false then s
    else if complete then
      let s := s.putF Reg.DAWN_STATUS 8 1 0
      match s.cascadeBlock with
      | Option.none => s
      | some a => if s.stage = 1 then s.takeVerdict a else s.takeResult a
    else
      let s := ((s.putF Reg.DAWN_STATUS 8 1 1).count Reg.DAWN_RESTARTS 1).evt Reg.DAWN_EVT 5
      s.checkStart
  s.publish

/-! ### The plan's listening configuration (R286, R461) -/

/-- EN, RATE, HIST_MS and the history's base, whose change restarts the history. -/
def State.histConfig (s : State) : Nat × Nat × Nat :=
  (s.rn Reg.MIC_CFG % 64, s.rf Reg.MIC_HIST 0 13, s.rn Reg.MIC_HIST_BASE)

/-- The listening stream's registers written (R461), and the history restarted where its configuration differs (R286). -/
def State.writeListening (s : State) (p : Plan) : State :=
  match p.streams.find? (·.kind == 2) with
  | Option.none => { s with mic.depths := 0 }
  | some x =>
    let w := u32 x.params
    let off (i : Nat) := ((p.regions[i]?).map (·.offset)).getD 0
    let was := s.histConfig
    let s := { s with mic.depths := w 0x28, mic.biasOff := 0 }
    let s := ((s.put Reg.MIC_CFG (w 0)).put Reg.MIC_BIAS (w 4)).put Reg.MIC_GAIN (w 8)
    let s := (s.put Reg.MIC_HIST (w 0xC)).put Reg.MIC_HIST_BASE (off (fld (w 0x24) 0 10))
    let s := ((s.put Reg.DAWN_CFG (w 0x10)).put Reg.DAWN_WINDOW (w 0x14)).put Reg.DAWN_UTT (w 0x18)
    let s := (s.put Reg.DAWN_HW_HOLD (w 0x1C)).put Reg.DAWN_ASSIST (w 0x20)
    let s := s.put Reg.DAWN_CASCADE (1 + off (fld (w 0x24) 16 10) / 512 * 512)
    let s := s.showMic
    if s.histConfig = was then s
    else ((s.put Reg.MIC_START_LO (s.rn Reg.MIC_WPOS_LO)).put Reg.MIC_START_HI (s.rn Reg.MIC_WPOS_HI)).evt Reg.MIC_EVT 3

/-! ### The presence block (R321, R332) -/

/-- The Dawn SRAM offset of the presence block (R462). -/
def Plan.presenceOffset (p : Plan) : Option Nat :=
  match p.streams.find? (·.kind == 3) with
  | some x => (p.regions[fld (u32 x.params 8) 0 10]?).map (·.offset)
  | Option.none => Option.none

/-- The presence block's address while the presence unit is on (R321, R322). -/
def State.presenceBlock (s : State) : Option Nat :=
  if s.cam.presOn then s.thePlan.presenceOffset.map (dawnBase + ·) else Option.none

/-- CAM_STATUS mirrors the presence block (R332). -/
def State.showPresence (s : State) : State :=
  let s := s.putF Reg.CAM_STATUS 1 1 (b2n s.cam.noSignal)
  match s.presenceBlock with
  | some a =>
    let w := s.rdLE (a + 0x14) 4
    (s.putF Reg.CAM_STATUS 4 1 (fld w 8 1)).putF Reg.CAM_STATUS 8 8 (fld w 0 8)
  | Option.none => s

end Sys2Proof.Machine
end

