-- ==== Sys2Proof/Machine/Mode.lean ====
section
/-! DEFINITION. Mode selection and the steps of a mode change (chapter 2, R49 to R53; R60, R341, R361). -/
namespace Sys2Proof.Machine
open Sys2Proof

/-! ### Requests (R49, R51, R52, R355) -/

/-- A mode asked for, by software or by the device: it is taken at a coming tick boundary (R50, R51). -/
def State.wantMode (s : State) (t : Nat) : State :=
  let r := if s.mode.step < 2 ∧ t = s.mode.cur then Option.none else some t
  ({ s with mode.requested := r }).showMode

/-- The device is out of S0, or an entry to a lower state has begun. -/
def State.awayFromS0 (s : State) : Bool := s.devState != 0 || (s.pwr.begun && s.pwr.target.isSome)

/-- Whether a request only updates the pending target: a thermal hold (R52), or the device is not in S0 (Table 17.5). -/
def State.modeHeld (s : State) : Bool := s.mode.thermalHold || s.awayFromS0

/-- A request for mode `t` (R49). -/
def State.requestMode (s : State) (t : Nat) : State :=
  if !s.thePlan.hasMode t then (s.evt Reg.MODE_EVT 1).reportOwn 1 Reg.MODE_EVT 0
  else
    let t := s.soloed t
    if s.modeHeld then ({ s with mode.held := some t }).showMode else s.wantMode t

/-- A write of MODE_REQ. -/
def State.modeReq (s : State) (kernel : Bool) (v : Nat) : State := (s.storeReg kernel Reg.MODE_REQ v).requestMode (v % 8)

/-- MODE_REQ (R49). -/
def execModeReq (init : Initiator) (value : Word) (s : State) : Host.Outcome State Fault Refusal :=
  .next (s.viaWrite init Reg.MODE_REQ false (·.modeReq (decide (init = .kernel)) value.toNat))

/-! ### Step 2 (R50, R361) -/

/-- The voltage of a faster operating point is written before the switch (R361); a transaction in progress completes first. -/
def State.startRaise (s : State) (op : Nat) : State :=
  if op < s.pwr.voltage ∧ s.pwr.pmbus.isNone then { s with pwr.pmbus := some (.raise, op, 0) } else s

/-- MODE_CHANGE_TAKE: step 2 of Table 2.8, at the tick boundary that the next TICK_BOUNDARY performs; a whole-fabric test holds it
back (R386). -/
def State.takeChange (s : State) : State :=
  if !s.running 1 || s.tick.stopped || s.lkt.test then s
  else match s.mode.requested with
    | Option.none => s
    | some t =>
      let m := s.mode
      let gs := (List.range 16).filter (fun g => (decide (2 ≤ m.step) && m.changing.contains g) || !s.thePlan.groveSame m.cur t g)
      let s := ({ s with mode := { m with requested := Option.none, target := t, step := 2, changing := gs } }).showMode
      s.startRaise (s.thePlan.mode t).opPoint

/-- MODE_CHANGE_TAKE (R50). -/
def execModeChangeTake (s : State) : Host.Outcome State Fault Refusal := .next s.takeChange

/-! ### Steps 3 and 4 -/

/-- No tile is in execution on a Grove, and no swap is in progress there. -/
def State.groveQuiet (s : State) (g : Nat) : Bool := (s.grove g).run.isNone && (s.grove g).swap.isNone

/-- MODE_WEIGHTS_RESIDENT: open contexts have left the Groves that pass to standing or off (R77), records of the old lists are
parked (R189), and the new mode's standing images are in place (R50, R186). -/
def State.weightsResident (s : State) : State :=
  let m := s.mode
  if m.step ≠ 2 ∨ s.running 1 = false ∨ s.running 2 = false then s
  else
    let p := s.thePlan
    let leaving := m.changing.filter (fun g => decide (s.role g = .open) && decide ((p.mode m.target).role g ≠ .open))
    let standing := m.changing.filter (fun g => decide (s.role g = .standing) && !m.parked.contains g)
    if (m.changing.all s.groveQuiet) = false then s
    else
      let s := leaving.foldl State.evictAll s
      let s := standing.foldl (fun s g => s.parkGrove p m.cur g) s
      let s := s.loadImages p m.target m.changing
      { s with mode.step := 4, mode.parked := m.changing }

/-- MODE_WEIGHTS_RESIDENT (R50). -/
def execModeWeightsResident (s : State) : Host.Outcome State Fault Refusal := .next s.weightsResident

/-! ### Step 5: the switch -/

/-- A Canopy or Dawn SRAM region that the new mode holds and the old one did not starts with its initial contents (R463). -/
def State.newRegions (s : State) (p : Plan) (old new : Nat) : State :=
  (p.regions.filter (fun r => bitOf r.modeMask new && !bitOf r.modeMask old)).foldl (fun s r =>
    if r.tier = 0 ∧ r.band = true then s.writeRegion (canopyBase + r.offset) r
    else if r.tier = 2 then s.writeRegion (dawnBase + r.offset) r
    else s) s

/-- The tick at a switch (R57, R60): slot 0 comes next; lock ends where N × F is below 1,000, or where neither mode holds a
picture stream. -/
def State.switchTick (s : State) (picture : Bool) : State :=
  let s := { s with tick.slotZero := true, tick.predicted := Option.none }
  let judged := s.videoSource && s.pic.frameMhz != 0
  let ok := lockable s.theMode s.pic.frameMhz
  let s := s.putF Reg.TICK_STATUS 1 1 (b2n (judged && !ok))
  if s.tick.locked && !ok then (s.endLock).evt Reg.TICK_EVT 2
  else if s.tick.locked && !picture then s.unlockKept
  else s

/-- The clock takes the mode's operating point at the switch, and a lower voltage is written after it (R361). -/
def State.switchClock (s : State) : State :=
  let op := s.theMode.opPoint
  let s := s.putF Reg.PWR_STATUS 12 3 op
  if s.pwr.voltage < op ∧ s.pwr.pmbus.isNone then { s with pwr.pmbus := some (.lower, op, 0) } else s

/-- The current mode becomes `m`: its roles, windows, clock, picture registers and depth (R16, R50, R60, R69, R282, R294, R361);
every feature-valid bit is cleared (R265). -/
def State.enterMode (s : State) (m : Nat) : State :=
  let hadPicture := (s.thePlan.streamOfKind s.mode.cur 1).isSome
  let s := s.coverPending
  let s := { s with mode.cur := m, mode.step := 0, mode.changing := [], mode.parked := [], mode.target := m }
  let s := s.setRoles s.theMode
  let s := s.switchTick (hadPicture || (s.thePlan.streamOfKind m 1).isSome)
  let s := s.switchClock
  let s := ((s.setWindows).clearFeatures).showGeometry
  let s := { s with pic.origins := [], pic.tickBand := Option.none, pic.nextBand := 0,
                    pic.cutting := s.mayCut && decide (s.pic.rows = 0) }
  (s.applyDepth).considerSwaps

/-- Whether the coming tick boundary may be a switch that touches a picture stream: tick 0 of an input frame, or any boundary while
the tick is not locked (R50). -/
def State.frameBoundary (s : State) (picture : Bool) : Bool := !picture || !s.tick.locked || s.tick.frameTick

/-! ### S1 (R352, R355, R356) -/

/-- The change in progress is abandoned and its target, or one requested and not yet taken, stays pending for the return to S0
(Table 17.5). -/
def State.holdChange (s : State) : State :=
  let t := if 2 ≤ s.mode.step then some s.mode.target else s.mode.requested
  let s := s.abandonChange true
  ({ s with mode.requested := Option.none,
            mode.held := if s.mode.thermalHold then s.mode.held else t.orElse (fun _ => s.mode.held) }).showMode

/-- The mode that S0 resumes (R356): the pending target, or the one current when S0 was left; a thermal hold keeps its own target
pending. -/
def State.resumeTarget (s : State) : Nat :=
  s.soloed (if s.mode.thermalHold then s.pwr.resumeMode else s.mode.held.getD s.pwr.resumeMode)

/-- No mode is pending any more for the return to S0. -/
def State.dropHeld (s : State) : State := if s.mode.thermalHold then s else { s with mode.held := Option.none }

/-- The domains that S0 has ON and the device state just left has OFF are powered, still in reset (R351). -/
def State.powerUpper (s : State) : State := [6, 7, 8].foldl (fun s d => s.setPower d (s.levelIn 0 d)) s

/-- A transition to device state `t` is complete: STATE and STATE_DONE. -/
def State.arrive (s : State) (t : Nat) : State := ((s.setRf Reg.PWR_STATUS 0 2 t).evt Reg.PWR_EVT 0).aimNowhere

/-- The device leaves S1 for S0, and the mode follows by the steps of Table 2.8 (R356). -/
def State.leaveS1 (s : State) : State :=
  let m := s.resumeTarget
  let s := ((s.powerUpper).arrive 0).evt Reg.PWR_EVT 2
  (s.dropHeld).wantMode m

/-- Entry to S1 is complete, and the transition that came meanwhile starts (Table 17.5). -/
def State.finishS1 (s : State) : State :=
  let s := s.arrive 1
  match s.pwr.next with
  | Option.none => s
  | some n =>
    let s := { s with pwr.next := Option.none }
    if n = 0 then s.leaveS1 else s.aimAt n

/-- MODE_SWITCH: step 5 of Table 2.8, at the tick boundary that the next TICK_BOUNDARY performs. -/
def State.modeSwitch (s : State) : State :=
  let m := s.mode
  let p := s.thePlan
  let picture := (p.streamOfKind m.cur 1).isSome || (p.streamOfKind m.target 1).isSome
  if m.step ≠ 4 ∨ m.requested.isSome ∨ s.running 1 = false ∨ s.running 2 = false ∨ s.tick.stopped
      ∨ (p.mode m.target).opPoint < s.pwr.voltage ∨ s.frameBoundary picture = false then s
  else
    let s := s.newRegions p m.cur m.target
    let s := s.enterMode m.target
    let s := (s.evt Reg.MODE_EVT 0).showMode
    let s := s.put Reg.MODE_CHANGE_TICK ((s.rn Reg.TICK_COUNT_LO + 1) % 2 ^ 32)
    let s := s.modeEvent m.cur m.target false
    if s.entering 1 && s.mode.cur == s.soloed s.thePlan.modeS1 then s.finishS1 else s

/-- MODE_SWITCH (R50). -/
def execModeSwitch (s : State) : Host.Outcome State Fault Refusal := .next s.modeSwitch

end Sys2Proof.Machine
end

