-- ==== Sys2Proof/Machine/RingOps.lean ====
section
/-! DEFINITION. The ring as the device shows it: port status, device entries of the capability table, solo operation and a broken
ring (R335, R338 to R342, R348 to R350). -/
namespace Sys2Proof.Machine
open Sys2Proof

/-- RING as Table 16.8 codes it. -/
def RingState.code : RingState → Nat
  | .absent => 0 | .forming => 0 | .closed => 1 | .solo => 2 | .broken => 3

/-- LINK as Table 16.8 codes it: a port trains from its turn in port order on, for as long as the ring is being formed (R338). -/
def State.linkCode (s : State) (p : Nat) : Nat :=
  let x := s.port p
  let turn := decide (p = 0) || decide (1 ≤ (s.port 0).attempts)
  if !s.running (6 + p) then 0
  else if x.up then 3 else if x.held then 2
  else if x.trained || (decide (s.vil.ring = .forming) && turn) then 1 else 0

/-- VIL_STATUS of both ports (Table 16.8). -/
def State.showPorts (s : State) : State :=
  forRange 2 s (fun s p =>
    s.put (Reg.VIL_STATUS p) (s.linkCode p + s.vil.ring.code * 16 + b2n (decide (s.chipId = 0)) * 256 + s.chipId * 4096))

/-- Hops from a device to device `d` of a ring of `n` via port 0 and via port 1 (Table 16.6). -/
def hopsTo (n own d : Nat) : Nat × Nat := if n = 0 then (0, 0) else ((own + n - d) % n, (d + n - own) % n)

/-- This device's own entry, without its hops (Table 16.6). -/
def State.ownEntry (s : State) (p : Plan) : List Byte :=
  let c := s.chipId
  let (first, cols) := p.columns c
  leBytes 4 c ++ leBytes 4 0x7140 ++ leBytes 4 0x4101 ++ leBytes 4 16 ++ leBytes 4 0x7FFF ++ leBytes 4 (first + cols * 2 ^ 16)
    ++ leBytes 8 s.ddrUsable

/-- Entry `slot` of the capability table written from 32 bytes of an entry and its flags and hops. -/
def capEntry (slot : Nat) (e : List Byte) (flags hops : Nat) (t : Tbl Word) : Tbl Word :=
  let o := 0x100 + 64 * slot
  let t := (List.range 8).foldl (fun t i => capPut (o + 4 * i) (u32 e (4 * i) + (if i = 0 then flags else 0)) t) t
  capPut (o + 0x20) hops t

/-- RING_FINAL of CAP_STATE set (R24). -/
def capFinal (t : Tbl Word) : Tbl Word := capPut 0x10 (setFld (tget (0 : Word) t 0x10).toNat 2 1 1) t

/-- DEVICE_COUNT and entry 0 of a device on its own (R340, R349). -/
def State.capSolo (s : State) (p : Plan) : State :=
  let flags := b2n (decide (s.chipId = 0)) * 2 ^ 8 + 2 ^ 9
  s.capChange (fun t => capFinal (capPut 0x90 1 (capEntry 0 (s.ownEntry p) flags 0 t)))

/-- DEVICE_COUNT and DEVICE_ENTRY of a closed ring, `es` holding one entry of 32 bytes for each CHIP_ID (R339, R349). -/
def State.capRing (s : State) (es : List (List Byte)) : State :=
  let n := es.length
  s.capChange (fun t =>
    let t := (List.range n).foldl (fun t d =>
      let (h0, h1) := hopsTo n s.chipId d
      capEntry d (nth [] es d) (b2n (decide (d = 0)) * 2 ^ 8 + b2n (decide (d = s.chipId)) * 2 ^ 9) (h0 + h1 * 16) t) t
    capFinal (capPut 0x90 n t))

/-- A port's domain is reset and held, with no more requests for it. -/
def State.holdPort (s : State) (p : Nat) (q : ResetRequest) : State := s.enterReset (6 + p) q

/-- Solo operation is declared (R340): both ports are held in reset until the next cold start. -/
def State.goSolo (s : State) : State :=
  let p := s.plan.next.getD s.thePlan
  let s := { s with vil.ring := .solo }
  let s := (s.evt (Reg.VIL_EVT 0) 5).evt (Reg.VIL_EVT 1) 5
  let s := s.capSolo p
  let s := (s.holdPort 0 { requester := 1 }).holdPort 1 { requester := 1 }
  let m := s.soloed s.mode.cur
  if m = s.mode.cur ∨ s.awayFromS0 = true then s else s.wantMode m

/-- The ring is broken (R345, R348): transfers over either port end, and the SOLO_MODE of the current mode is requested (R341); before
CLOSE has reached the device the loss ends in solo operation. -/
def State.breakRing (s : State) : State :=
  match s.vil.ring with
  | .forming => s.goSolo
  | .closed =>
    let s := ({ s with vil.ring := .broken }).showPorts
    let s := (s.endPortXfers 0).endPortXfers 1
    let m := s.soloed s.mode.cur
    if m = s.mode.cur ∨ s.awayFromS0 = true then s else s.wantMode m
  | _ => s

end Sys2Proof.Machine
end

