-- ==== Sys2Proof/Machine/Admission.lean ====
section
/-! DEFINITION. Admission: the checks run on the device's plan slot, what admission creates, the refusal registers, readmission, and
the replacing of the ROM plan (chapter 2, R31 to R34, R43 to R47; R165, R176, R212, R395, R416, R460 to R464). -/
namespace Sys2Proof.Machine
open Sys2Proof

/-! ### The checks (R43) -/

/-- What the device gives admission. -/
def State.admitEnv (s : State) : AdmitEnv :=
  { blank := s.flash.blank
    slot := s.slotBytes 3 (activeSlot s.boot.bootActive 3)
    slotBytes := s.flash.planSlot
    keys := if s.sec.seed then s.emmc.planKeys else []
    device := s.sec.keys
    rollback := s.emmc.planRb
    mask := s.ddr.trainMask
    raw := s.ddrRaw
    installed := popCount 8 s.ddr.trainMask * channelBytes s.pins.density
    area := s.planArea.2 - s.planArea.1
    chip := s.chipId }

/-! ### Standing windows (R395, R416) -/

/-- A standing window: initiator code, register window, writes, base and size. -/
structure StandingWin where
  init : Nat
  isReg : Bool
  write : Bool
  base : Nat
  size : Nat
  deriving DecidableEq, Repr

/-- A register window over `size` bytes from key `k`. -/
def winOf (init : Nat) (write : Bool) (k size : Nat) : StandingWin := { init := init, isReg := true, write := write, base := regAddr k, size := size }

/-- The register windows of Table 19.5 and of R416: 0 the service core, 1 cores 0 to 6, 2 PCIe inbound. -/
def registerWindows : List StandingWin :=
  [winOf 0 true 0x011000 0x400, winOf 1 true 0x011400 0x400, winOf 1 true 0x050880 0x10, winOf 0 false 0x050880 0x10,
   winOf 0 true 0x050000 0x800, winOf 0 true 0x070000 0x800, winOf 0 true 0x080000 0x8000, winOf 0 true 0x060000 0x10000]
  ++ [winOf 0 true 0x090000 0x10000, winOf 0 true 0x2A0000 0x10000, winOf 0 true 0x100000 0x100000, winOf 0 true Reg.LKT_KICK_S 4,
      winOf 1 true Reg.PWR_STATE_REQ 4, winOf 1 true (Reg.PWR_VOTE 2) 4, winOf 0 true (Reg.PWR_VOTE 1) 4, winOf 2 true (Reg.PWR_VOTE 3) 4]
  ++ [winOf 1 false 0x2D0000 0x10000, winOf 0 false 0x2D0000 0x10000, winOf 2 false 0x2D0000 0x10000,
      winOf 1 false 0x200000 0x10000, winOf 0 false 0x200000 0x10000, winOf 2 false 0x200000 0x10000,
      winOf 1 true Reg.VOUT_MUTE 4, winOf 1 true Reg.BYP_CTRL 4, winOf 1 true Reg.MIC_MUTE 4, winOf 1 true Reg.DAWN_HOST_WAKE 4]
  ++ [winOf 1 true 0x240000 0x10000, winOf 1 true 0x250000 0x800, winOf 1 false (Reg.DAWN_TXT 0) 256, winOf 0 true 0x250800 0x800,
      winOf 2 true Reg.DAWN_HOST_WAKE 4, winOf 1 false 0x000000 0x64, winOf 0 false 0x000000 0x64, winOf 2 false 0x000000 0x64,
      winOf 1 true (Reg.PCI_SQ_PEND 0) 16, winOf 0 true (Reg.PCI_SQ_PEND 0) 16]
  ++ [winOf 0 true (Reg.EVR_SEL 0) 0x40, winOf 0 false 0x030000 0x100]

/-- The standing windows: the OS and service regions, the PCIe outbound window, and the register windows. -/
def State.standingWindows (s : State) : List StandingWin :=
  (if s.hasLayout then
    [{ init := 1, isReg := false, write := true, base := nth 0 s.boot.layout 0, size := nth 0 s.boot.layout 1 },
     { init := 0, isReg := false, write := true, base := nth 0 s.boot.layout 2, size := nth 0 s.boot.layout 3 }]
   else [])
  ++ [{ init := 0, isReg := false, write := true, base := outboundBase, size := 0x10000000 }] ++ registerWindows

/-- Word 0 of a standing entry (Table 19.4). -/
def StandingWin.word0 (w : StandingWin) : Nat := 1 + w.init * 2 + b2n w.isReg * 16 + b2n w.write * 32 + 64 + 0x7F * 256

/-- The standing entries written from entry 0 on. -/
def State.writeStandingWindows (s : State) : State :=
  let ws := s.standingWindows
  forRange ws.length s (fun s i =>
    let w := nth (winOf 0 false 0 0) ws i
    let s := (s.setReg (Reg.SEC_WIN i 0) w.word0).setReg (Reg.SEC_WIN i 1) (w.base % 2 ^ 32)
    (s.setReg (Reg.SEC_WIN i 2) (w.base / 2 ^ 32)).setReg (Reg.SEC_WIN i 3) w.size)

/-! ### Refusal (R46, R47) -/

/-- PLAN_REFUSAL (Table 2.11). -/
def PlanRefusal.word (r : PlanRefusal) : Nat :=
  r.code + (match r.mode with | some m => m * 2 ^ 8 + 2 ^ 11 | Option.none => 0)
    + (match r.grove with | some g => g * 2 ^ 12 + 2 ^ 16 | Option.none => 0)
    + (match r.slot with | some t => t * 2 ^ 17 + 2 ^ 23 | Option.none => 0)

/-- The refusal is shown and recorded, and the ROM plan goes on (R47): a cascade held across a reset of D1 ends (R304), and the
presence unit stays off. -/
def State.refusePlan (s : State) (r : PlanRefusal) : State :=
  let s := ((s.put Reg.PLAN_REFUSAL r.word).put Reg.PLAN_REFUSAL_LOAD r.load).put Reg.PLAN_REFUSAL_LIMIT r.limit
  let s := (s.putF Reg.PLAN_STATUS 0 2 2).report 0x0103 0x05 [r.word, r.load, r.limit]
  let s := { (s.putF Reg.DAWN_CASCADE 0 1 0) with cam.presOn := false }
  s.applyDepth

/-! ### What admission creates -/

/-- The feature lists of Table 8.4 as they are built (R176): each takes the lowest-numbered free frames. -/
def featureLists (quota : List Byte) : List (Nat × Nat) :=
  (List.range (u32 quota 0x10)).map (fun i => (u32 quota (0x20 + 8 * i) % 32, u32 quota (0x24 + 8 * i)))

/-- The page pool built with every frame free but the feature frames (R165, R175, R176). -/
def buildPool (quota : List Byte) : PagePool :=
  let empty : PagePool :=
    { pageTiles := fld (u32 quota 0) 0 4, frames := u32 quota 4, ptUnits := u32 quota 8 / 4, publicMax := u32 quota 12 }
  let build (acc : PagePool × Nat × Nat) (f : Nat × Nat) : PagePool × Nat × Nat :=
    let (p, id, next) := acc
    let owner := 0x80 + f.1
    let fs := (List.range f.2).map (next + ·)
    ({ p with lists := p.lists ++ [(id, { owner := owner, capacity := f.2, entries := fs, feature := true })],
              used := p.used ++ fs.map (fun n => (n, { refs := 1, owner := owner, feature := true })) }, id + 1, next + f.2)
  ((featureLists quota).foldl build (empty, 0, 0)).1

/-- One standing object (R212, R463, R464). -/
def standingObject (dk : DeviceKeys) (i : Nat) (e : Nat × Nat × (RegionRec ⊕ PackageRec)) : Nat × Obj :=
  let (stream, place, what) := e
  let (bytes, data) := match what with
    | .inl r => (r.bytes, r.init)
    | .inr k => (pkgPayload k.pkg, match openPackage dk k.pkg (sha384 k.pkg) with | .ok d => d | .error _ => [])
  (3840 + i, { owner := 0x80 + stream, place := place, compress := true, width := 0, standing := true,
               tiles := ceilDiv bytes tileBytes, home := payloadTiles (3840 + i) 0 true data })

/-- Every standing object of a plan. -/
def standingObjs (dk : DeviceKeys) (p : Plan) : Tbl Obj :=
  let es := p.standingObjects
  (List.range es.length).map (fun i => standingObject dk i (nth (0, 0, .inr { stream := 0, place := 0, pkg := [] }) es i))

/-- The plaintext of the package with a TARGET (R464). -/
def Plan.image (p : Plan) (dk : DeviceKeys) (target : Nat) : Option (List Byte) :=
  match p.packages.find? (fun k => pkgTarget k.pkg == target) with
  | some k => match openPackage dk k.pkg (sha384 k.pkg) with | .ok d => some d | .error _ => Option.none
  | Option.none => Option.none

/-- The looking stream's presence block configured (R462). -/
def State.writeLooking (s : State) (p : Plan) : State :=
  match p.streams.find? (·.kind == 3), p.presenceOffset with
  | some x, some o => { ((s.wrLE (dawnBase + o) 4 (u32 x.params 0)).wrLE (dawnBase + o + 4) 4 (u32 x.params 4)) with cam.presOn := true }
  | _, _ => { s with cam.presOn := false }

/-- Band buffers and, at a cold start, Dawn SRAM regions start with their initial contents (R463). -/
def State.writeRegions (s : State) (p : Plan) (cold : Bool) : State :=
  p.regions.foldl (fun s r =>
    if r.tier = 0 ∧ r.band = true then s.writeRegion (canopyBase + r.offset) r
    else if r.tier = 2 ∧ (cold = true ∨ (lostEpoch s.lost (dawnBase + r.offset)).isSome = true) then
      s.writeRegion (dawnBase + r.offset) r
    else s) s

/-- A package with TARGET 1 or 2 is copied into the Dawn cell's weight SRAM (R464). -/
def State.writeDawnCell (s : State) (p : Plan) : State :=
  { s with mic.dawnImage := (p.image s.sec.keys 1).getD s.mic.dawnImage, mic.presenceImage := (p.image s.sec.keys 2).getD [] }

/-- What admission creates and writes before the plan runs: the pool, the standing objects, regions, the Dawn cell's images, and
the registers that the plan gives. -/
def State.installPlan (s : State) (p : Plan) (cold : Bool) : State :=
  let s := { s with pages := buildPool p.quota, tiers.objs := standingObjs s.sec.keys p }
  let s := (s.writeRegions p cold).writeDawnCell p
  let s := (s.writeListening p).writeLooking p
  let s := s.put Reg.TICK_CTRL (p.tickSource + p.freeRate * 2 ^ 16)
  { s with plan.next := some p, plan.recordedDigest := if cold then some p.digest else s.plan.recordedDigest }

/-- The mode that a plan starts with: its initial mode, or after a reset of D1 the one that was current; while solo or broken, the
SOLO_MODE of one that holds an exchange stream (R34, R341). -/
def State.firstMode (s : State) (p : Plan) (cold : Bool) : Nat :=
  let m := if cold = false ∧ p.hasMode s.plan.lastMode = true then s.plan.lastMode else p.initialMode
  if (s.vil.ring = .solo ∨ s.vil.ring = .broken) ∧ p.hasExchange m = true then p.soloMode m else m

/-- The admitted events (Table 20.3). -/
def State.admittedEvents (s : State) (p : Plan) : State :=
  let s := s.report 0x0101 0x05 [p.version, u32 p.digest 0, u32 p.digest 4, u32 p.digest 8]
  let half (o : Nat) := (List.range 4).map (fun i => u32 p.buildId (o + 4 * i))
  (s.report 0x0102 0x05 (half 0)).report 0x0102 0x05 (half 16)

/-- A plan is admitted: PLAN_STATUS, the events, what admission creates, and the voltage of its first operating point (R361). -/
def State.admitPlan (s : State) (p : Plan) (cold : Bool) : State :=
  let s := (s.putF Reg.PLAN_STATUS 0 2 1).putF Reg.PLAN_STATUS 4 1 (b2n (!cold))
  let s := (s.admittedEvents p).installPlan p cold
  s.startRaise (p.mode (s.firstMode p cold)).opPoint

/-! ### PLAN_ADMISSION (R31, R32, R43) -/

/-- The plan read and judged at a cold start; the standing windows are created in either outcome (R47, R395). A plan with a ROLE
section makes the ports leave reset (R338). -/
def State.admission (s : State) : State :=
  let s := s.writeStandingWindows
  match checkImage s.admitEnv with
  | .error r => ((s.refusePlan r).setPower 6 0).setPower 7 0
  | .ok p =>
    let s := s.admitPlan p true
    if p.hasRole then
      let s := { s with vil.ring := .forming, vil.waiting := true }
      ([6, 7].foldl State.leaveReset s).showPorts
    else (s.setPower 6 0).setPower 7 0

/-- Whether admission may run: D1 runs, DDR_VALID is set, and it has not completed (R31, R32). -/
def State.admissionDue (s : State) : Bool := s.running 1 && s.ddrValid && s.rf Reg.PLAN_STATUS 0 2 == 0

/-- PLAN_ADMISSION (R43). -/
def execPlanAdmission (s : State) : Host.Outcome State Fault Refusal :=
  .next (if s.admissionDue && s.boot.cold then { s.admission with boot.steps := s.boot.steps ||| 0x200 } else s)

/-! ### PLAN_READMISSION (R34, R175, R217, R342) -/

/-- The plan read again after a reset of D1: equal to the recorded one it is admitted again, else it is refused with 0x1B. -/
def State.readmission (s : State) : State :=
  let s := s.writeStandingWindows
  let s := match s.vil.ring with
    | .forming => s.goSolo
    | .absent => s
    | _ => s.capChange capFinal
  match checkImage s.admitEnv with
  | .error r => s.refusePlan r
  | .ok p =>
    if s.plan.recordedDigest ≠ some p.digest then s.refusePlan { code := 0x1B }
    else
      let s := s.admitPlan p false
      let s := { s with plan.readmitted := true }
      let s := (s.evt Reg.PAGE_EVT 5).reportOwn 4 Reg.PAGE_EVT 0
      (s.evt Reg.TIER_EVT 4).evt Reg.SEQ_EVT 7

/-- PLAN_READMISSION (R34). -/
def execPlanReadmission (s : State) : Host.Outcome State Fault Refusal :=
  .next (if s.admissionDue && !s.boot.cold then s.readmission else s)

/-! ### PLAN_REPLACES_ROM (R32, R361) -/

/-- The context-table entries of a plan: STOPPED for each tenant slot (Table 3.3). -/
def tenantContexts (p : Plan) : Tbl Ctx :=
  p.tenants.foldl (fun t r => tput t (tenantCtx r) { state := .stopped, iso := tenantIso r }) []

/-- The running plan's registers (Table 2.9). -/
def State.showPlan (s : State) (p : Plan) : State :=
  let s := s.put Reg.PLAN_VERSION p.version
  let s := s.put Reg.PLAN_MODES (2 ^ p.modes.length - 1 + p.initialMode * 2 ^ 8)
  forRange 12 s (fun s i => s.put (Reg.PLAN_DIGEST i) (u32 p.digest (4 * i)))

/-- The admitted plan replaces the ROM plan, at the tick boundary that the next TICK_BOUNDARY performs. -/
def State.replaceRom (s : State) (p : Plan) : State :=
  let m := s.firstMode p (!s.plan.readmitted)
  let s := { s with plan.running := p, plan.next := Option.none, ctxs := tenantContexts p,
                    mode.restart := false, mode.restartReady := false }
  let s := s.loadImages p m (List.range 16)
  let s := ((s.enterMode m).showPlan p).loadEdid
  s.showMode

/-- PLAN_REPLACES_ROM (R32). -/
def execPlanReplacesRom (s : State) : Host.Outcome State Fault Refusal :=
  .next (match s.plan.next with
    | some p =>
      let m := s.firstMode p (!s.plan.readmitted)
      if s.running 1 && s.running 2 && !s.tick.stopped && decide (s.pwr.voltage ≤ (p.mode m).opPoint)
          && s.frameBoundary (p.streamOfKind m 1).isSome then s.replaceRom p
      else s
    | Option.none => s)

end Sys2Proof.Machine
end

