-- ==== Sys2Proof/Machine/Start.lean ====
section
/-! DEFINITION. The release of domains and the cold start (R29, R375, R419 to R423). -/
namespace Sys2Proof.Machine
open Sys2Proof

/-- What the kernel and the transmitter do once D8 is out of reset: registers of the mode, VIN_EDID and HPD (Table 18.4, R254). -/
def State.startVideo (s : State) : State :=
  let s := s.cam.rings.foldl (fun s e =>
    if e.1 = 2 then (s.setR64 Reg.CAM_STATS_BASE_LO e.2.1).put Reg.CAM_STATS_SLOTS e.2.2
    else (s.setR64 (Reg.CAM_OUT_BASE_LO e.1) e.2.1).put (Reg.CAM_OUT_PITCH e.1) e.2.2) s
  ((((s.loadEdid).showGeometry).showHpd).showPresence).putF Reg.BYP_STATUS 1 1 (b2n s.pwr.critical)

/-- Domain `d` leaves reset, with what follows its release (R29, R375, Table 18.4). -/
def State.release (s : State) (d : Nat) : State :=
  let was := s.inReset d
  let s := s.releaseDomain d
  if d = 8 ∧ was = true ∧ s.inReset 8 = false then s.startVideo
  else if (d = 6 ∨ d = 7) ∧ was = true ∧ s.inReset d = false then s.showPorts
  else s

/-- DOMAIN_RELEASE (R375). -/
def execDomainRelease (d : Fin 9) (s : State) : Host.Outcome State Fault Refusal := .next (s.release d.val)

/-- SYS_STRAPS (Table 23.3). -/
def Pins.straps (p : Pins) : Nat :=
  p.chipId % 4 + p.population % 2 * 2 ^ 4 + p.density % 4 * 2 ^ 8 + p.maxSpeed % 4 * 2 ^ 12 + b2n p.mgtEnroll * 2 ^ 16
    + b2n p.testEn * 2 ^ 20

/-- Whether step `n` of Table 21.1 has been taken. -/
def State.stepped (s : State) (n : Nat) : Bool := bitOf s.boot.steps n

/-- Whether step `n` may be taken: the steps it follows have been (Table 21.1). -/
def State.stepDue (s : State) (n : Nat) : Bool :=
  s.boot.cold && s.running 0 && !s.stepped n &&
  match n with
  | 1 => true
  | 2 => s.stepped 1
  | 3 => s.stepped 2 && s.running 1
  | 4 => s.stepped 1
  | 5 => s.stepped 1
  | 6 => s.stepped 4
  | 7 => s.stepped 3 && s.running 1
  | 8 => s.stepped 7 && s.running 1 && s.ddrValid
  | 10 => s.stepped 8 && s.running 1
  | _ => false

/-- The kernel selects the slots of this cold start (R429, R420, R425) and issues the attestation certificate (R400). -/
def State.selectSlots (s : State) : State :=
  let s := s.resolveCommit
  let s := if s.flash.blank then s.reportOwn 0xA Reg.SEC_EVT 3 else s
  let s := { s with boot.bootActive := s.flash.dir.active }
  let (s, patch) := s.acceptImage 1
  let s := { s with boot.patch := patch, boot.patchRuns := !patch.isEmpty }
  s.makeCertificate

/-- Layout, service firmware and core 7 (R421, R423). -/
def State.startService (s : State) : State :=
  let s := (s.makeLayout).showLayout
  let (s, img) := s.acceptImage 2
  ({ s with boot.service := img }).release 5

/-- One step of Table 21.1. -/
def State.coldStep (s : State) (n : Nat) : State :=
  let s := { s with boot.steps := setFld s.boot.steps n 1 1 }
  match n with
  | 1 => s.report 0x0001 0x03 [0x71404101, s.pins.straps]
  | 2 => s.release 1
  | 3 => (s.recoverIdentity).showMgmt
  | 4 => s.release 8
  | 5 => (s.showMic).putF Reg.MIC_STATUS 0 1 1
  | 6 => { s with pic.outRunning := true }
  | 7 => s.selectSlots
  | 8 => s.startService
  | 10 => s.release 4
  | _ => s

/-- COLD_START (R419): a step of the start-up that its predecessors make due. -/
def execColdStart (step : Nat) (s : State) : Host.Outcome State Fault Refusal := .next (if s.stepDue step then s.coldStep step else s)

end Sys2Proof.Machine
end

