-- ==== Sys2Proof/Machine/Lookout.lean ====
section
/-! DEFINITION. The Lookout's timers and watchdogs, the standing restart, and the tests in service (chapter 18, R368 to R373, R381,
R384 to R386). -/
namespace Sys2Proof.Machine
open Sys2Proof

/-! ### The tile timer (R368, R369) -/

/-- TILE_TIMER_EXPIRY: the command on Grove `g` is overdue; the Lookout forces it to stop, and the Grove reports idle (R369). The
count of cycles at which it stops is free. -/
def State.tileTimer (s : State) (g : Nat) : State :=
  match (s.grove g).run with
  | Option.none => s
  | some e =>
    let s := (s.stopCommand g e 0x08 (s.freeVal 30 % 2 ^ 32)).tickFresh
    let s := s.lookout 2 e.owner.domain (some g) e.owner.parts.1 e.owner.parts.2
    match e.owner with
    | .ctx c => s.lookoutContext c 2
    | .stream _ => s

/-- TILE_TIMER_EXPIRY (R368). -/
def execTileTimerExpiry (g : Fin 16) (s : State) : Host.Outcome State Fault Refusal := .next (s.tileTimer g.val)

/-- LKT_GROVE_STUCK: the Grove reports no idle after a forced stop, so a reset of its domain is requested whatever the policy. The
Grove issues nothing until then. -/
def State.groveStuck (s : State) (g : Nat) : State :=
  match (s.grove g).run with
  | Option.none => s
  | some e =>
    let s := s.stopWrites g e
    let s := s.modGrove g (fun x => { x with run := Option.none, overdue := true })
    let s := match e.owner with
      | .stream i => s.modGrove g (fun x => x.dropStream i)
      | .ctx _ => s
    let s := s.lookout 3 e.owner.domain (some g) e.owner.parts.1 e.owner.parts.2
    s.requestReset e.owner.domain { requester := 2, lktCode := 3 }

/-- LKT_GROVE_STUCK (R369). -/
def execLktGroveStuck (g : Fin 16) (s : State) : Host.Outcome State Fault Refusal := .next (s.groveStuck g.val)

/-! ### The transfer timer (R370) -/

/-- Transfer `t` is ended by the Lookout: pieces already stored stay, and no completion is delivered. -/
def State.timeoutXfer (s : State) (t : Nat) : State :=
  if !thas s.dma.xfers t then s
  else
    let x := s.xfer t
    let s := s.endXfer t false
    let s := s.lookout 4 x.owner.domain Option.none x.owner.parts.1 x.owner.parts.2
    match x.owner with
    | .ctx c => (s.faultCtx c 0xA).lookoutContext c 4
    | .stream i => s.modGrove x.grove (fun y => y.dropStream i)

/-- A swap of Grove `g` is ended by the Lookout: the incoming context and every victim whose write-back did not complete become
FAULTED; `written` are the victims whose write-back did. -/
def State.timeoutSwap (s : State) (g : Nat) (written : List Nat) : State :=
  match (s.grove g).swap with
  | Option.none => s
  | some w =>
    let s := s.modGrove g (fun x => { x with swap := Option.none })
    let done := w.victims.filter written.contains
    let lost := w.victims.filter (fun v => !written.contains v)
    let s := done.foldl State.evictCtx s
    let s := s.lookout 4 3 Option.none w.incoming
    let s := lost.foldl (fun s v => (s.modCtx v (fun k => { k with resident := false, dirty := [] })).faultCtx v 0xA) s
    let s := match w.incoming with | some c => s.faultCtx c 0xA | Option.none => s
    let s := (w.victims ++ w.incoming.toList).foldl (fun s c => if (s.ctx c).stopReq then s.stopNow c else s) s
    if s.rb Reg.LKT_CFG 0 then s.requestReset 3 { requester := 2, lktCode := 4 } else s

/-- LKT_DMA_TIMEOUT (R370): of transfer `n`, or of the swap in progress on Grove `n`. -/
def execLktDmaTimeout (swap : Bool) (n : Nat) (written : List Nat) (s : State) : Host.Outcome State Fault Refusal :=
  .next (if !s.running 1 then s else if swap then s.timeoutSwap n written else s.timeoutXfer n)

/-! ### Watchdogs (R372, R373) -/

/-- LKT_KERNEL_WD (R372): the power sequencer resets D1. -/
def execLktKernelWd (s : State) : Host.Outcome State Fault Refusal :=
  .next (if s.running 1 then (s.lookout 6 1).requestReset 1 { requester := 4, lktCode := 6 } else s)

/-- LKT_SERVICE_WD (R372): D5 is reset, where the watchdog is enabled and armed. -/
def execLktServiceWd (s : State) : Host.Outcome State Fault Refusal :=
  .next (if s.running 1 && s.running 5 && s.lkt.serviceArmed && s.rn Reg.LKT_SWD_MS != 0 then
      (s.lookout 7 5).requestReset 5 { requester := 2, lktCode := 7 }
    else s)

/-- LKT_VIDEO_STALL (R372): D8 is reset, where it runs and the DisplayPort link is trained. -/
def execLktVideoStall (s : State) : Host.Outcome State Fault Refusal :=
  .next (if s.running 1 && s.running 8 && s.rb Reg.VOUT_STATUS 0 then
      (s.lookout 8 8).requestReset 8 { requester := 2, lktCode := 8 }
    else s)

/-- Whether stream `i` has missed LKT_MISS_LIMIT consecutive ticks in which its lists started (R373). -/
def State.missLimit (s : State) (i : Nat) : Bool :=
  let n := s.rn Reg.LKT_MISS_LIMIT
  decide (2 ≤ n) && decide (n ≤ 1000) && decide (n ≤ tget 0 s.tick.missRun i)

/-- LKT_MISS_LIMIT (R373): a reset of D2 is requested, and the count begins anew. -/
def execLktMissLimit (stream : Fin 32) (s : State) : Host.Outcome State Fault Refusal :=
  .next (if s.running 1 && s.missLimit stream.val then
      let s := s.lookout 9 2 Option.none Option.none (some stream.val)
      let s := { s with tick.missRun := tdel s.tick.missRun stream.val }
      s.requestReset 2 { requester := 2, lktCode := 9 }
    else s)

/-- LKT_KICK_K (R372): the kernel watchdog restarts; the register reads 0. -/
def execLktKickK (init : Initiator) (_value : Word) (s : State) : Host.Outcome State Fault Refusal :=
  .next (s.viaWrite init Reg.LKT_KICK_K true (fun s => s))

/-- A write of LKT_KICK_S arms or restarts the service watchdog. -/
def State.kickService (s : State) : State := { s with lkt.serviceArmed := true }
/-- LKT_KICK_S (R372). -/
def execLktKickS (init : Initiator) (_value : Word) (s : State) : Host.Outcome State Fault Refusal :=
  .next (s.viaWrite init Reg.LKT_KICK_S false State.kickService)

/-- The least LKT_TILE_NS: 1,000 ns and 1,000 cycles at the lowest operating point of any mode of the running plan (R368). -/
def Plan.tileNsMin (p : Plan) : Nat := 1000 + p.modes.foldl (fun a m => max a (ceilDiv 1000000 (opMhz m.opPoint))) 0

/-- A kernel write of LKT_TILE_NS. -/
def State.setTileNs (s : State) (v : Nat) : State :=
  if v < s.thePlan.tileNsMin then s.reportOwn 9 Reg.LKT_EVT 0 else s.storeReg true Reg.LKT_TILE_NS v

/-- LKT_TILE_NS (R368). -/
def execLktTileNs (init : Initiator) (value : Word) (s : State) : Host.Outcome State Fault Refusal :=
  .next (s.viaWrite init Reg.LKT_TILE_NS true (·.setTileNs value.toNat))

/-! ### The standing restart (R381) -/

/-- STANDING_IMAGE_REWRITE: step 2 of Table 18.6. -/
def State.imageRewrite (s : State) : State :=
  if s.running 1 && s.running 2 && s.mode.restart && !s.mode.restartReady then
    { (s.loadImages s.thePlan s.mode.cur (List.range 16)) with mode.restartReady := true }
  else s

/-- STANDING_IMAGE_REWRITE (R381). -/
def execStandingImageRewrite (s : State) : Host.Outcome State Fault Refusal := .next s.imageRewrite

/-! ### Rotating tests (R384, R385) -/

/-- The standing Grove whose turn comes next: the rotation is ascending. -/
def State.nextTurn (s : State) : Option Nat :=
  ((List.range 16).map (fun i => (s.lkt.lastTurn + 1 + i) % 16)).find? (fun g => decide (s.role g = .standing))

/-- Whether a test tile may issue on Grove `g` now (R384): enabled, fewer than TILES in this tick, and, on a standing Grove, its turn
and its lists of the tick complete; on an open Grove, a tile boundary at which no context is READY. -/
def State.testTileOk (s : State) (g : Nat) (delay : Bool) : Bool :=
  let x := s.grove g
  s.rb Reg.LKT_TEST_CFG (if delay then 9 else 8) && decide (x.testTiles < s.rf Reg.LKT_TEST_CFG 0 5)
    && x.run.isNone && !x.overdue && !s.lkt.test &&
  match x.role with
  | .off => false
  | .standing => s.running 2 && x.todo.isEmpty && (match s.lkt.turn with | some h => h == g | Option.none => s.nextTurn == some g)
  | .open => s.running 3 && !s.pwr.critical && (s.residents g).all (fun c => decide ((s.ctx c).state ≠ .ready) && decide ((s.ctx c).state ≠ .running))

/-- The end of a logic pass: the signature is compared (R385). -/
def State.endLogicPass (s : State) (g : Nat) (good : Bool) : State :=
  let s := s.count Reg.LKT_TEST_PASSES 1
  if good then s.putF Reg.LKT_TEST_FAIL g 1 0
  else
    let s := (s.putF Reg.LKT_TEST_FAIL g 1 1).evt Reg.LKT_EVT 10
    s.report 0x0A05 0x04 [s.rn Reg.LKT_TEST_FAIL]

/-- The end of a delay calibration: its margin is measured (R385), which no rule gives a value. -/
def State.endDelayPass (s : State) (g : Nat) : State :=
  ((s.count Reg.LKT_TEST_PASSES 1).put (Reg.LKT_MARGIN g) (s.freeVal 31 % 65536)).tickFresh

/-- TEST_TILE: one tile of a rotating pass, of 256 for the logic test and 16 for the delay calibration; `good` says that the pass's
signature matches where this tile ends it. -/
def State.testTile (s : State) (g : Nat) (delay good : Bool) : State :=
  if !s.running 1 || !s.testTileOk g delay then s
  else
    let x := s.grove g
    let s := if x.role = .standing then { s with lkt.turn := some g, lkt.lastTurn := g } else s
    let n := if delay then (x.delayDone + 1) % 16 else (x.logicDone + 1) % 256
    let s := s.modGrove g (fun x =>
      if delay then { x with testTiles := x.testTiles + 1, delayDone := n } else { x with testTiles := x.testTiles + 1, logicDone := n })
    if n ≠ 0 then s
    else if delay then s.endDelayPass g
    else s.endLogicPass g good

/-- TEST_TILE (R384). -/
def execTestTile (g : Fin 16) (delay : Bool) (good : Bool) (s : State) : Host.Outcome State Fault Refusal :=
  .next (s.testTile g.val delay good)

/-! ### The whole-fabric test (R386) -/

/-- Why a request is refused: STATE 4 for standing lists of the current mode, STATE 5 outside S0, during a mode change, or while
another test runs. -/
def State.testRefusal (s : State) : Option Nat :=
  if s.thePlan.lists.any (fun l => l.mode == s.mode.cur) then some 4
  else if s.rf Reg.PWR_STATUS 0 2 ≠ 0 ∨ 2 ≤ s.mode.step ∨ s.lkt.test = true then some 5
  else Option.none

/-- A whole-fabric test is requested: refused, or begun, open contexts leaving the Groves that are quiet at once. -/
def State.requestTest (s : State) : State :=
  match s.testRefusal with
  | some n => ((s.putF Reg.LKT_TEST_STATUS 0 3 n).evt Reg.LKT_EVT 11).reportOwn 9 Reg.LKT_EVT 1
  | Option.none =>
    let s := { (s.putF Reg.LKT_TEST_STATUS 0 3 1) with lkt.test := true }
    forRange 16 s (fun s g => if s.role g = .open ∧ s.groveQuiet g = true then s.evictAll g else s)

/-- A kernel write of LKT_TEST_REQ: a KIND other than 1 is a reserved encoding (R9). -/
def State.testReq (s : State) (v : Nat) : State := if fld v 0 2 = 1 then s.requestTest else s

/-- LKT_TEST_REQ (R386). -/
def execLktTestReq (init : Initiator) (value : Word) (s : State) : Host.Outcome State Fault Refusal :=
  .next (s.viaWrite init Reg.LKT_TEST_REQ true (·.testReq value.toNat))

/-- The memory patterns leave Grove SRAM and the Canopy's plain bytes without defined contents (log entry 30). -/
def State.losePatterns (s : State) : State := (s.loseMem canopyBase 0x2000000).loseMem (groveBase 0) 0x2000000

/-- TEST_END: the test ends with the Groves of `failed` failing, or is abandoned; the contexts are restored. It ends only when the
last command of an open Grove has ended. -/
def State.endTest (s : State) (failed : Nat) (abandoned : Bool) : State :=
  if !s.lkt.test then s
  else if abandoned then s.abandonTest.considerSwaps
  else if (List.range 16).any (fun g => decide (s.role g = .open) && !s.groveQuiet g) then s
  else
    let s := forRange 16 s (fun s g => if s.role g = .open then s.evictAll g else s)
    let s := { s.losePatterns with lkt.test := false }
    ((s.putF Reg.LKT_TEST_STATUS 0 3 (if failed % 65536 = 0 then 2 else 3)).evt Reg.LKT_EVT 9).considerSwaps.showPower

/-- TEST_END (R386). -/
def execTestEnd (failed : Nat) (abandoned : Bool) (s : State) : Host.Outcome State Fault Refusal := .next (s.endTest failed abandoned)

end Sys2Proof.Machine
end

