-- ==== Sys2Proof/Machine/Power.lean ====
section
/-! DEFINITION. Device states, wakes, the regulator, supplies and thermal management (chapter 17, R351 to R364; R449, R450, R466). -/
namespace Sys2Proof.Machine
open Sys2Proof

/-! ### Requests and votes (R353 to R355) -/

/-- Whether Table 17.4 lets a request lead from device state `a` to `b`; from S2 it leads to S3, written before entry to S2
completed. -/
def requestLegal (a b : Nat) : Bool :=
  match a, b with
  | 0, 1 | 0, 2 | 0, 3 | 1, 0 | 1, 2 | 1, 3 | 2, 3 => true
  | _, _ => false

/-- A request that has no effect but REQ_BAD. -/
def State.requestBad (s : State) : State := s.evt Reg.PWR_EVT 1

/-- Whether the running plan allows device state `t`, and a request may lead to it from `a`. -/
def State.mayRequest (s : State) (a t : Nat) : Bool := s.thePlan.stateAllowed t && requestLegal a t

/-- A request for device state `t` (R354, Table 17.5): one for the current state cancels a pending entry, but no exit that runs. -/
def State.requestState (s : State) (t : Nat) : State :=
  let st := s.devState
  match s.pwr.target with
  | some u =>
    if st < u ∧ s.pwr.begun = true then
      if t = u then { s with pwr.next := Option.none }
      else if s.mayRequest u t then { s with pwr.next := some t }
      else s.requestBad
    else if t = st then (if u < st ∧ s.pwr.begun = true then s else s.aimNowhere)
    else if st < 2 ∧ s.mayRequest st t = true then (if t = 0 then (s.aimAt 0).leaveS1 else s.aimAt t)
    else s.requestBad
  | Option.none =>
    if t = st then s
    else if st < 2 ∧ s.mayRequest st t = true then (if t = 0 then (s.aimAt 0).leaveS1 else s.aimAt t)
    else s.requestBad

/-- PWR_STATE_REQ (R354). -/
def execPwrStateReq (init : Initiator) (value : Word) (s : State) : Host.Outcome State Fault Refusal :=
  .next (s.viaWrite init Reg.PWR_STATE_REQ false (fun s =>
    (s.storeReg false Reg.PWR_STATE_REQ value.toNat).requestState (value.toNat % 4)))

/-- A client's votes written: two bits for each of D1 to D8. -/
def State.writeVote (s : State) (c v : Nat) : State := (s.setReg (Reg.PWR_VOTE c) (setFld 0 2 16 (v / 4))).showPower

/-- PWR_VOTE (R353): client 4 is the device's own, and its register is RO. -/
def execPwrVote (init : Initiator) (client : Fin 5) (value : Word) (s : State) : Host.Outcome State Fault Refusal :=
  .next (s.viaWrite init (Reg.PWR_VOTE client.val) (decide (client.val = 0)) (fun s =>
    if client.val = 4 then s else s.writeVote client.val value.toNat))

/-! ### Leaving S0 and S1 (R352, R356, R357) -/

/-- REQUESTER 4: the power sequencer, for entries to OFF. -/
def sequencer : ResetRequest := { requester := 4 }

/-- Domain `d` goes OFF (R351): an entry to OFF is a reset. -/
def State.takeOff (s : State) (d : Nat) : State := (s.enterReset d sequencer).setPower d 0

/-- What every entry to a lower device state does first: the change in progress is held for the return (Table 17.5), D8 and the
Vilva ports go OFF, and the ring breaks. -/
def State.dimUpper (s : State) : State :=
  let s := s.holdChange
  let s := ((s.takeOff 8).takeOff 6).takeOff 7
  s.breakRing

/-- What leaving S0 keeps: the mode to resume (R356). -/
def State.keepMode (s : State) : State := if s.devState = 0 then { s with pwr.resumeMode := s.mode.cur } else s

/-- S1_ENTRY: D8 and the ports go OFF and MODE_S1 is switched to by the steps of Table 2.8; STATE is S1 once it runs. -/
def State.enterS1 (s : State) : State :=
  if !s.entering 1 || s.devState != 0 then s
  else
    let s := if (s.dom 8).power = .off then s else (s.keepMode).dimUpper
    let m := s.soloed s.thePlan.modeS1
    if s.mode.cur = m then s.finishS1 else if s.mode.step < 2 then s.wantMode m else s

/-- S1_ENTRY (R352). -/
def execS1Entry (s : State) : Host.Outcome State Fault Refusal := .next s.enterS1

/-! ### Retention (R359) -/

/-- Whether bank `b` of `size` bytes holds part of a region that RET_IDX lists, `ok` selecting the regions of its memory. -/
def Plan.bankRetained (p : Plan) (ok : RegionRec → Bool) (size b : Nat) : Bool :=
  p.retained.any (fun r => ok r && decide (r.offset < (b + 1) * size) && decide (b * size < r.offset + r.bytes))
/-- Whether bank `b` of Grove `g`'s SRAM is retained. -/
def Plan.groveRetained (p : Plan) (g b : Nat) : Bool := p.bankRetained (fun r => r.tier == 3 && r.grove == g) 0x20000 b
/-- Whether bank `b` of the Canopy is retained. -/
def Plan.canopyRetained (p : Plan) (b : Nat) : Bool := p.bankRetained (fun r => r.tier == 0 && r.band) 0x80000 b

/-- The banks of standing Groves and of the Canopy that are not retained lose their contents; the open Groves, OFF with D3, lose
everything. -/
def State.loseBanks (s : State) : State :=
  let p := s.thePlan
  let s := forRange 64 s (fun s b => if p.canopyRetained b then s else s.loseMem (canopyBase + b * 0x80000) 0x80000)
  forRange 16 s (fun s g =>
    match s.role g with
    | .standing => forRange 16 s (fun s b => if p.groveRetained g b then s else s.loseMem (groveBase g + b * 0x20000) 0x20000)
    | .open => s.loseMem (groveBase g) groveSramBytes
    | .off => s)

/-- A stored tile whose bytes are lost. -/
def lostTile (epoch k i : Nat) : StoredTile :=
  let at_ (j : Nat) : Byte := Config.lostByte epoch ((k * 2 ^ 20 + i) * 8192 + j)
  { header := (List.range 32).map at_, slot := (List.range 4096).map (fun j => at_ (32 + j)) }

/-- Whether the standing object `k` holds a Canopy region that RET_IDX lists. -/
def Plan.objectRetained (p : Plan) (k : Nat) : Bool :=
  let rs := p.regions.filter (fun r => r.tier == 0 && !r.band)
  match rs[k - 3840]? with
  | some r => decide (3840 ≤ k) && p.retained.contains r
  | Option.none => false

/-- Whether the standing object `k` holds a weight package, which an exit from S2 loads again. -/
def Plan.objectPackage (p : Plan) (k : Nat) : Bool :=
  decide (3840 + (p.regions.filter (fun r => (r.tier == 0 && !r.band) || r.tier == 1)).length ≤ k)

/-- Objects that live in the Canopy alone lose their tiles where their banks are not retained. -/
def State.loseObjects (s : State) : State :=
  let p := s.thePlan
  { s with epoch := s.epoch + 1
           tiers.objs := tmap (fun k (o : Obj) =>
             if o.place = 2 ∧ p.objectRetained k = false ∧ p.objectPackage k = false then
               { o with home := (List.range o.tiles).map (fun i => (i, lostTile s.epoch k i)) }
             else o) s.tiers.objs }

/-! ### Entry to S2 (R357, R466) -/

/-- Every Grove is quiet and no regulator transaction is in progress, so that the entry may complete at this tick boundary. -/
def State.mayStop (s : State) : Bool :=
  (List.range 16).all s.groveQuiet && (match s.pwr.pmbus with | Option.none => true | some (_, _, n) => n == 2)

/-- The standing lists stop at this tick boundary: what is owed is missed (R64), TICK_COUNT counts the boundary, and the records
are parked (R189). -/
def State.stopStanding (s : State) : State :=
  let s := s.missing.foldl State.missResult s
  let s := forRange 16 s (fun s g => s.modGrove g (fun x => { x with todo := [], discarded := [] }))
  let s := { (s.incR64 Reg.TICK_COUNT_LO 1) with tick.stopped := true }
  forRange 16 s (fun s g => if s.role g = .standing then s.parkGrove s.thePlan s.mode.cur g else s)

/-- Resident open contexts evicted (R77), staged copies written back and dropped. -/
def State.emptyOpen (s : State) : State :=
  let s := forRange 16 s (fun s g => if s.role g = .open then s.evictAll g else s)
  ((s.tiers.objs.filter (fun e => e.2.place == 1)).map (·.1)).foldl State.evictCopy s

/-- The operating point of the mode that an exit from S2 leads to. -/
def State.exitOp (s : State) : Nat :=
  let m := if s.pwr.target = some 1 then s.soloed s.thePlan.modeS1 else s.resumeTarget
  (s.thePlan.mode m).opPoint

/-- VDD_FAB is brought to the operating point of the target's mode (Table 17.7, step 2); a transaction in progress completes
first. -/
def State.raiseForExit (s : State) : State :=
  if s.devState = 2 ∧ s.pwr.pmbus.isNone ∧ s.pwr.voltage ≠ s.exitOp then { s with pwr.pmbus := some (.exit, s.exitOp, 0) } else s

/-- An exit to device state `t` starts: the enables that the state left low rise (R449). -/
def State.startExit (s : State) (t : Nat) : State :=
  let s := { (s.aimAt t) with pins.enRet := true, pins.enRun := true, pwr.exitFailed := false }
  s.raiseForExit

/-- A transition into S2 or S3 is complete, and the one that came meanwhile starts. -/
def State.finishDown (s : State) (t : Nat) : State :=
  let s := s.arrive t
  match s.pwr.next with
  | Option.none => s
  | some n =>
    let s := { s with pwr.next := Option.none }
    if n < t then s.startExit n else s.aimAt n

/-- S2_ENTRY: the steps of Table 17.6. -/
def State.enterS2 (s : State) : State :=
  if !s.entering 2 || !s.mayStop then s
  else
    let s := (s.keepMode).dimUpper
    let s := (s.stopStanding).emptyOpen
    let s := { (s.takeOff 3) with ddr.checkDirty := [] }
    let s := (s.loseBanks).loseObjects
    let s := [1, 2, 4, 5].foldl (fun s d => s.setPower d 1) s
    let s := { s with pwr.voltage := 5, pwr.pmbus := Option.none, pins.enRun := false, pins.pgRun := false }
    s.finishDown 2

/-- S2_ENTRY (R357). -/
def execS2Entry (s : State) : Host.Outcome State Fault Refusal := .next s.enterS2

/-! ### Exit from S2 (R356, R358, R466) -/

/-- Memory in `[lo, hi)` as it stood in `old`. -/
def State.restoreRange (s old : State) (lo hi : Nat) : State :=
  let inside (k : Nat) : Bool := decide (lo ≤ k) && decide (k < hi)
  { s with
    mem := (old.mem.filter (fun c => inside c.1)).foldl (fun m c => tputD 0 m c.1 c.2) (tdrop inside s.mem)
    lost := (old.lost.filter (fun r => decide (r.start < hi) && decide (lo < r.stop))).map
        (fun r => { r with start := max lo r.start, stop := min hi r.stop }) ++ cutLost lo hi s.lost }

/-- The standing image of Grove `g` written again for mode `m`, into the banks that were not retained where `keep` says that its
lists have not changed. -/
def State.reloadImage (s : State) (p : Plan) (m g : Nat) (keep : Bool) : State :=
  let t := s.loadImage p m g
  if keep then
    forRange 16 t (fun t b =>
      if p.groveRetained g b then t.restoreRange s (groveBase g + b * 0x20000) (groveBase g + (b + 1) * 0x20000) else t)
  else t

/-- The tick generator begins a new free tick, whose start is the next tick boundary (R466). -/
def State.restartTick (s : State) : State :=
  let s := { (s.incR64 Reg.TICK_COUNT_LO 1) with tick.stopped := false }
  s.beginTick s.tick.endNs

/-- Whether the exit may complete: VDD_FAB stands at the operating point with power-good, and the RUN group is up. -/
def State.mayExit (s : State) : Bool :=
  decide (s.devState = 2) && (match s.pwr.target with | some t => decide (t < 2) | Option.none => false)
    && !s.pwr.exitFailed && s.pwr.pmbus.isNone && decide (s.pwr.voltage = s.exitOp) && s.pins.pgRun && s.pins.pgRet

/-- The target's mode runs (Table 17.7, step 5). -/
def State.exitMode (s : State) (m : Nat) : State :=
  let p := s.thePlan
  let old := s.mode.cur
  let s := forRange 16 s (fun s g =>
    if (p.mode m).role g = .standing then s.reloadImage p m g (p.groveSame old m g && decide (s.role g = .standing)) else s)
  let s := (s.newRegions p old m).enterMode m
  if m = old then s.showMode
  else
    let s := ((s.evt Reg.MODE_EVT 0).showMode).put Reg.MODE_CHANGE_TICK (s.rn Reg.TICK_COUNT_LO)
    s.modeEvent old m false

/-- A detection that an exit from S2 held back goes on at the depth of the mode (R294, R304). -/
def State.afterExit (s : State) : State :=
  if s.mic.exitWait then ({ s with mic.exitWait := false }).afterDetection else s

/-- S2_EXIT: the steps of Table 17.7. -/
def State.exitS2 (s : State) : State :=
  if !s.mayExit then s
  else
    let t := s.pwr.target.getD 0
    let m := if t = 1 then s.soloed s.thePlan.modeS1 else s.resumeTarget
    let s := [1, 2, 3, 4, 5].foldl (fun s d => s.setPower d 3) s
    let s := s.release 3
    let s := if t = 0 then (s.powerUpper).dropHeld else s
    let s := (s.restartTick).exitMode m
    let s := (s.arrive t).evt Reg.PWR_EVT 2
    s.afterExit

/-- S2_EXIT (R358). -/
def execS2Exit (s : State) : Host.Outcome State Fault Refusal := .next s.exitS2

/-! ### S3 (R358, R449) -/

/-- Everything that loses its supply loses its contents (R351, Table 17.2). -/
def State.loseAll (s : State) : State :=
  let s := (s.loseMem ctlSramBase 0x80000).loseMem dawnBase 0x100000
  let s := (s.loseMem canopyBase 0x2000000).loseMem (groveBase 0) 0x2000000
  { (s.loseMem ddrBase 0x1000000000) with badLines := [], ddr.checkDirty := [] }

/-- The link is down and the endpoint's configuration is lost (R431, Table 22.5). -/
def State.dropLink (s : State) : State :=
  let s := s.setR64 Reg.PCI_OB_BASE_LO 0
  { s with pci := { heldAccesses := s.pci.heldAccesses } }

/-- Every domain but D0 goes OFF. -/
def State.enterS3 (s : State) : State :=
  let s := (s.keepMode).dimUpper
  let s := s.endCascade 0
  let s := [2, 3, 1, 4, 5].foldl State.takeOff s
  let s := ((s.romRoles).loseAll).dropLink
  let s := s.setRf Reg.MIC_STATUS 0 1 0
  let s := { s with pwr.voltage := 4, pwr.pmbus := Option.none, pins.enRet := false, pins.enRun := false,
                    pins.pgRet := false, pins.pgRun := false, mic.exitWait := false }
  s.finishDown 3

/-- S3_ENTRY (R358): from S0 or S1 once the Groves are quiet, from S2 at once. -/
def execS3Entry (s : State) : Host.Outcome State Fault Refusal :=
  .next (if s.entering 3 && (decide (s.devState = 2) || s.mayStop) then s.enterS3 else s)

/-- The history restarts (R286, R304). -/
def State.restartHistory (s : State) : State :=
  let s := (s.put Reg.MIC_START_LO (s.rn Reg.MIC_WPOS_LO)).put Reg.MIC_START_HI (s.rn Reg.MIC_WPOS_HI)
  ((s.putF Reg.MIC_STATUS 0 1 1).evt Reg.MIC_EVT 3)

/-- S3_EXIT: the supplies are up, D1 is released, and start-up goes on from there. -/
def State.exitS3 (s : State) : State :=
  if s.devState ≠ 3 ∨ s.pwr.target ≠ some 0 ∨ s.pwr.tripHold = true ∨ s.pwr.exitFailed = true ∨ s.pins.pgRet = false
      ∨ s.pins.pgRun = false then s
  else
    let s := [1, 2, 3, 4, 5].foldl (fun s d => s.setPower d 3) s.powerUpper
    let s := (s.setRf Reg.PWR_STATUS 12 3 4).clearLast
    let s := (s.release 1).restartHistory
    ((s.arrive 0).evt Reg.PWR_EVT 2)

/-- S3_EXIT (R358). -/
def execS3Exit (s : State) : Host.Outcome State Fault Refusal := .next s.exitS3

/-! ### Wakes (R354, R355) -/

/-- A wake to device state `t`: of several, the higher target counts; one that meets an entry follows its completion. -/
def State.takeWake (s : State) (t : Nat) : State :=
  let st := s.devState
  match s.pwr.target with
  | some u =>
    if st < u ∧ s.pwr.begun = true then
      if u = 1 ∧ t ≠ 0 then s
      else { s with pwr.next := some (match s.pwr.next with | some n => if n < u then min n t else t | Option.none => t) }
    else if u < st then
      let s := { s with pwr.target := some (min u t) }
      (s.showPower).raiseForExit
    else if st = 2 then s.startExit t
    else if st = 1 ∧ t = 0 then (s.aimAt 0).leaveS1
    else s
  | Option.none =>
    if 2 ≤ st then s.startExit t
    else if st = 1 ∧ t = 0 then (s.aimAt 0).leaveS1
    else s

/-- A wake of a source with its target (Table 17.4): S3 is left for S0, and by WAKE_IN or the timer only; a target that the plan does
not allow has no effect but REQ_BAD. -/
def State.wake (s : State) (source t : Nat) : State :=
  let down := decide (s.devState = 3) || s.entering 3
  let t := if down then 0 else t
  if down && decide (source < 3) then s
  else if s.devState = 0 ∧ (s.pwr.begun && s.pwr.target.isSome) = false then s
  else if !s.thePlan.stateAllowed t then s.requestBad
  else (s.setReg Reg.PWR_WAKE_SRC source).takeWake t

/-- WAKE_IN_RISE (R354): a level held for 50 µs or more. -/
def execWakeInRise (heldUs : Nat) (s : State) : Host.Outcome State Fault Refusal :=
  .next (if 50 ≤ heldUs ∧ s.running 0 = true then s.wake 3 0 else s)

/-- WAKE_TIMER_EXPIRY (R354): the always-on timer, enabled by PWR_TIMER.MS, expires. -/
def execWakeTimerExpiry (s : State) : Host.Outcome State Fault Refusal :=
  .next (if s.running 0 && s.pwr.timerRun then
      ({ s with pwr.timerRun := false }).wake 4 (wakeState (s.rf Reg.PWR_TIMER 24 2))
    else s)

/-! ### The regulator (R361, R362) -/

/-- The voltage of an operating point in mV (Table 17.8). -/
def opMv (op : Nat) : Nat := nth 500 [800, 720, 660, 600, 550, 500] op

/-- What the regulator does next once it is free: an exit, a raise for a change or for the admitted plan, or the lowering that the
clock in force allows. -/
def State.nextVoltage (s : State) : State :=
  if s.pwr.pmbus.isSome then s
  else if s.devState = 2 then
    (match s.pwr.target with | some t => if t < 2 then s.raiseForExit else s | Option.none => s)
  else if 2 ≤ s.mode.step then s.startRaise (s.thePlan.mode s.mode.target).opPoint
  else match s.plan.next with
    | some p => s.startRaise (p.mode (s.firstMode p (!s.plan.readmitted))).opPoint
    | Option.none =>
      if s.pwr.voltage < s.theMode.opPoint then { s with pwr.pmbus := some (.lower, s.theMode.opPoint, 0) } else s

/-- PMBUS_POWER_GOOD: the regulator reports the voltage of the transaction in progress. -/
def State.powerGood (s : State) : State :=
  match s.pwr.pmbus with
  | some (_, op, n) => if n = 2 then s else ({ s with pwr.voltage := op, pwr.pmbus := Option.none }).nextVoltage
  | Option.none => s

/-- PMBUS_POWER_GOOD (R361). -/
def execPmbusPowerGood (s : State) : Host.Outcome State Fault Refusal := .next (if s.running 0 then s.powerGood else s)

/-- PMBUS_FAIL and its event. -/
def State.regulatorFails (s : State) (op : Nat) : State := (s.evt Reg.PWR_EVT 3).report 0x0802 0x02 [opMv op]

/-- PMBUS_TIMEOUT: no power-good within 2 ms. The voltage is written once more; then a raise is abandoned with its change, a
lowering waits to be retried, and an exit leaves the device in S2. -/
def State.regulatorLate (s : State) : State :=
  match s.pwr.pmbus with
  | some (use, op, 0) => { s with pwr.pmbus := some (use, op, 1) }
  | some (.raise, op, 1) =>
    let s := ({ s with pwr.pmbus := Option.none }).regulatorFails op
    (s.abandonChange true).nextVoltage
  | some (.lower, op, 1) => ({ s with pwr.pmbus := some (.lower, op, 2) }).regulatorFails op
  | some (.exit, op, 1) => ({ s with pwr.pmbus := Option.none, pwr.exitFailed := true }).regulatorFails op
  | _ => s

/-- PMBUS_TIMEOUT (R362). -/
def execPmbusTimeout (s : State) : Host.Outcome State Fault Refusal := .next (if s.running 0 then s.regulatorLate else s)

/-- PMBUS_RETRY: a lowering is written again, and a failed exit or cold start raises its enables again. -/
def State.retryPower (s : State) : State :=
  match s.pwr.pmbus with
  | some (.lower, op, 2) => { s with pwr.pmbus := some (.lower, op, 0) }
  | some _ => s
  | Option.none =>
    if s.pwr.exitFailed then
      ({ s with pwr.exitFailed := false, pins.enRet := true, pins.enRun := true }).raiseForExit
    else if s.pins.porAsserted then { s with pins.enRet := true, pins.enRun := true }
    else s.nextVoltage

/-- PMBUS_RETRY (R362). -/
def execPmbusRetry (s : State) : Host.Outcome State Fault Refusal := .next s.retryPower

/-- PMB_ALERT: a power-good failure (R449, R362). With no transaction in progress, the voltage in force is written again. -/
def execPmbAlert (s : State) : Host.Outcome State Fault Refusal :=
  .next (if !s.running 0 then s
    else match s.pwr.pmbus with
    | some _ => s.regulatorLate
    | Option.none => if s.pwr.voltage < 5 ∧ s.devState < 3 then { s with pwr.pmbus := some (.lower, s.pwr.voltage, 1) } else s)

/-! ### Supplies (R449, R450) -/

/-- D0 is released from the power-on reset once both supply groups are good (Table 23.6, step 5). -/
def State.releaseD0 (s : State) : State :=
  if s.pins.porAsserted && s.pins.pgRet && s.pins.pgRun then
    { s with pins.porAsserted := false, domains := tput s.domains 0 { inReset := false } }
  else s

/-- POWER_UP (R450): the enables rise, and D0 is released as soon as the power-good inputs allow. -/
def execPowerUp (s : State) : Host.Outcome State Fault Refusal :=
  .next (if s.pins.porAsserted then ({ s with pins.enRet := true, pins.enRun := true }).releaseD0 else s)

/-- POWER_GOOD_RISE (R449): an input is watched only while its enable is high. -/
def execPowerGoodRise (ret : Bool) (s : State) : Host.Outcome State Fault Refusal :=
  .next (if ret then
      if s.pins.enRet then ({ s with pins.pgRet := true }).releaseD0 else s
    else if s.pins.enRun then ({ s with pins.pgRun := true }).releaseD0 else s)

/-- PG_FAIL (R449): an input that falls for more than 10 µs while its enable is high asserts the power-on reset. -/
def execPgFail (ret : Bool) (lowUs : Nat) (s : State) : Host.Outcome State Fault Refusal :=
  .next (if lowUs ≤ 10 ∨ (if ret then s.pins.enRet && s.pins.pgRet else s.pins.enRun && s.pins.pgRun) = false then s
    else
      let s := (s.resetD0).holdD0
      if ret then { s with pins.pgRet := false } else { s with pins.pgRun := false })

/-- PG_TIMEOUT (R449): a late input fails the exit; its enable is lowered, and the device stays in its state. -/
def execPgTimeout (ret : Bool) (s : State) : Host.Outcome State Fault Refusal :=
  .next (if (if ret then s.pins.enRet && !s.pins.pgRet else s.pins.enRun && !s.pins.pgRun) then
      let s := if ret then { s with pins.enRet := false } else { s with pins.enRun := false }
      if s.pins.porAsserted then s else ({ s with pwr.exitFailed := true }).reportOwn 8 Reg.PWR_EVT 0
    else s)

/-! ### Thermal management (R363, R364) -/

/-- THERM: the thermal state shown (Table 17.9). -/
def State.therm (s : State) : Nat := if s.pwr.critical then 2 else if s.pwr.hot then 1 else 0

/-- The thermal state changed by `f`: THERM, and an event where it differs (R364). -/
def State.setTherm (s : State) (f : Power → Power) : State :=
  let old := s.therm
  let s := { s with pwr := f s.pwr }
  let s := s.setRf Reg.PWR_STATUS 8 2 s.therm
  if s.therm = old then s else s.report 0x0801 0x02 [old, s.therm, s.rf Reg.PWR_TEMP 0 12]

/-- CRITICAL is entered or left at a sample. -/
def State.judgeCritical (s : State) (t : Int) : State :=
  let p := s.thePlan
  if !s.pwr.critical && decide (p.tCrit ≤ t) then
    let s := s.setTherm (fun w => { w with critical := true })
    (s.evt Reg.PWR_EVT 5).putF Reg.BYP_STATUS 1 1 1
  else if s.pwr.critical && decide (t < p.tCrit - p.hyst) then
    let s := s.setTherm (fun w => { w with critical := false })
    s.putF Reg.BYP_STATUS 1 1 0
  else s

/-- TRIP: the sequencer enters S3 at once, without waiting for votes. -/
def State.trip (s : State) : State :=
  let s := { s with pwr.tripHold := true }
  if s.devState = 3 then s
  else
    let s := (s.setRf Reg.PWR_STATUS 10 1 1).evt Reg.PWR_EVT 6
    let s := s.report 0x0801 0x02 [s.therm, 3, s.rf Reg.PWR_TEMP 0 12]
    { s with pwr.target := some 3, pwr.begun := true, pwr.next := Option.none }.enterS3

/-- The highest reading and its sensor, the lowest-numbered of equal ones. -/
def hottest (ts : List Int) : Option (Int × Nat) :=
  match ts with
  | [] => Option.none
  | t :: _ =>
    let m := ts.foldl max t
    some (m, ts.findIdx (fun x => x == m))

/-- THERMAL_SAMPLE: the readings of the sensors in 1/4 °C. -/
def State.thermalSample (s : State) (ts : List Int) : State :=
  match hottest (ts.take 6) with
  | Option.none => s
  | some (t, k) =>
    let s := s.setReg Reg.PWR_TEMP (ofSigned 12 t + k * 2 ^ 16)
    let s := if t < 400 then { s with pwr.tripHold := false } else s
    let s := s.judgeCritical t
    if 480 ≤ t then s.trip else s

/-- THERMAL_SAMPLE (R363). -/
def execThermalSample (temps : List Int) (s : State) : Host.Outcome State Fault Refusal :=
  .next (if s.running 0 then s.thermalSample temps else s)

/-- The last highest reading. -/
def State.lastTemp (s : State) : Int := toSigned 12 (s.rf Reg.PWR_TEMP 0 12)

/-- The next cooler mode of the chain, from the mode that a change in progress leads to. -/
def State.coolerMode (s : State) : Nat × Nat :=
  let m := if 2 ≤ s.mode.step then s.mode.target else s.mode.requested.getD s.mode.cur
  let base := if s.mode.thermalHold then m else s.mode.cur
  (base, s.soloed (s.thePlan.mode base).cooler)

/-- The cooler mode is requested, and the mode that was current becomes the pending target (R52, R363). -/
def State.cool (s : State) : State :=
  let (base, c) := s.coolerMode
  if s.awayFromS0 ∨ c = base then s
  else
    let s := if s.mode.thermalHold then s else { s with mode.thermalHold := true, mode.held := some s.mode.cur }
    s.wantMode c

/-- THERMAL_DWELL_EXPIRY: T has stayed at or above T_HOT for DWELL_MS. -/
def State.dwellExpiry (s : State) : State :=
  if s.lastTemp < s.thePlan.tHot then s
  else
    let s := if s.pwr.hot then s else (s.setTherm (fun w => { w with hot := true })).evt Reg.PWR_EVT 4
    s.cool

/-- THERMAL_DWELL_EXPIRY (R363). -/
def execThermalDwellExpiry (s : State) : Host.Outcome State Fault Refusal := .next (if s.running 0 then s.dwellExpiry else s)

/-- THERMAL_HOLD_EXPIRY: T has stayed below T_HOT − HYST for HOLD_MS; the hold ends and the pending target is taken. -/
def State.holdExpiry (s : State) : State :=
  if !s.pwr.hot || decide (s.thePlan.tHot - s.thePlan.hyst ≤ s.lastTemp) then s
  else
    let s := s.setTherm (fun w => { w with hot := false })
    if !s.mode.thermalHold then s
    else
      let s := { s with mode.thermalHold := false }
      match s.mode.held with
      | some m => if s.awayFromS0 then s.showMode else ({ s with mode.held := Option.none }).wantMode m
      | Option.none => s.showMode

/-- THERMAL_HOLD_EXPIRY (R363). -/
def execThermalHoldExpiry (s : State) : Host.Outcome State Fault Refusal := .next (if s.running 0 then s.holdExpiry else s)

/-! ### Groves (R352, R13) -/

/-- GROVE_IDLE: an open Grove has held no READY or RUNNING context for 10 µs. -/
def State.groveIdle (s : State) (g : Nat) : State :=
  if s.role g = .open ∧ s.running 3 = true ∧ (s.grove g).run.isNone
      ∧ (s.residents g).all (fun c => decide ((s.ctx c).state ≠ .ready) && decide ((s.ctx c).state ≠ .running)) = true then
    s.modGrove g (fun x => { x with idle := true })
  else s

/-- GROVE_IDLE (R352). -/
def execGroveIdle (g : Fin 16) (s : State) : Host.Outcome State Fault Refusal := .next (s.groveIdle g.val)

end Sys2Proof.Machine
end

