-- ==== Sys2Proof/Machine/Picture.lean ====
section
/-! DEFINITION. The picture path's commands: the HDMI receiver, the input rings, band decisions and emission, the DisplayPort
transmitter (chapter 13, R253 to R282). -/
namespace Sys2Proof.Machine
open Sys2Proof

/-! ### The HDMI receiver (R253, R274, R279) -/

/-- VIN_FMT of a timing (Table 13.8). -/
def timingFmt (t : VideoTiming) : Nat :=
  t.enc % 4 + t.depth % 4 * 2 ^ 4 + b2n t.full * 2 ^ 8 + t.colorimetry % 4 * 2 ^ 9 + b2n t.dsc * 2 ^ 12 + b2n t.vrr * 2 ^ 13
    + b2n t.allm * 2 ^ 14

/-- LINK, LOCKED, FRL_RATE and LANES of VIN_STATUS for a locked link (Table 13.9). -/
def timingLink (t : VideoTiming) : Nat :=
  (if t.frlRate = 0 then 1 else 2) + 2 ^ 2 + t.frlRate % 16 * 2 ^ 4 + t.lanes % 8 * 2 ^ 8

/-- The frame in progress is abandoned: no more of its bands are cut, and the output is muted until the first frame that
follows (R274, R275). -/
def State.abandonFrame (s : State) : State :=
  { s with pic.cutting := false, pic.rows := 0, pic.frameBad := false, pic.outMuted := true, pic.mutePending := true }

/-- A nominal timing is in force: the VIN registers, D and what else depends on it (R258, R265, R273, R274). -/
def State.acceptTiming (s : State) (t : VideoTiming) : State :=
  let was := s.pic.timing
  let s := { s with pic.timing := some t, pic.frameMhz := t.frameMhz }
  let s := (s.put Reg.VIN_TIMING (t.activeW + t.activeH * 2 ^ 16)).put Reg.VIN_TOTAL (t.totalW + t.totalH * 2 ^ 16)
  let s := (s.put Reg.VIN_FMT (timingFmt t)).putF Reg.VIN_STATUS 0 12 (timingLink t)
  if was = some t then s.showGeometry
  else
    let s := { s.abandonFrame with pic.dscBad := false }
    let s := if was.isSome then s.evt Reg.VIN_EVT 2 else s
    ((s.clearFeatures).tickTimingChange).showGeometry

/-- HDMI_LINK_LOCK (R253): the receiver locks to a link with this timing. -/
def execHdmiLinkLock (timing : VideoTiming) (s : State) : Host.Outcome State Fault Refusal :=
  .next (if s.running 8 && !s.rb Reg.VIN_STATUS 2 then (s.evt Reg.VIN_EVT 0).acceptTiming timing else s)

/-- The input is lost (R274): every row still to come is muted, feature bits are cleared, and the loss is recorded. -/
def State.loseInput (s : State) : State :=
  if s.pic.lost then s
  else
    let s := { s.abandonFrame with pic.lost := true }
    let s := (s.putF Reg.VIN_STATUS 12 1 0).evt Reg.VIN_EVT 3
    (s.clearFeatures).report 0x0501 0x20 [s.rn Reg.VIN_STATUS]

/-- HDMI_LINK_LOSS (R274). -/
def execHdmiLinkLoss (s : State) : Host.Outcome State Fault Refusal :=
  .next (if s.running 8 && s.rb Reg.VIN_STATUS 2 then ((s.putF Reg.VIN_STATUS 0 12 0).evt Reg.VIN_EVT 1).loseInput else s)

/-- INPUT_LOST (R274): no frame start for two periods. -/
def execInputLost (s : State) : Host.Outcome State Fault Refusal := .next (if s.running 8 then s.loseInput else s)

/-- TIMING_CHANGE (R274). -/
def execTimingChange (timing : VideoTiming) (s : State) : Host.Outcome State Fault Refusal :=
  .next (if s.running 8 && s.rb Reg.VIN_STATUS 2 then s.acceptTiming timing else s)

/-- The 32 bytes of an InfoFrame as the words of VIN_AVI or VIN_DRM. -/
def State.captureInfo (s : State) (k : Nat) (bytes : List Byte) : State :=
  let b := padTo 0 32 bytes
  let same := (List.range 8).all (fun i => s.rn (k + 4 * i) == u32 b (4 * i))
  if same then s else (s.putWords k b 0 8).evt Reg.VIN_EVT 4

/-- INFOFRAME_CAPTURE (R253). -/
def execInfoframeCapture (drm : Bool) (bytes : List Byte) (s : State) : Host.Outcome State Fault Refusal :=
  .next (if s.running 8 && s.rb Reg.VIN_STATUS 2 then s.captureInfo (if drm then Reg.VIN_DRM 0 else Reg.VIN_AVI 0) bytes else s)

/-- VIN_HPD (R254). -/
def execVinHpd (init : Initiator) (value : Word) (s : State) : Host.Outcome State Fault Refusal :=
  .next (s.viaWrite init Reg.VIN_HPD true (fun s => (s.storeReg true Reg.VIN_HPD value.toNat).showHpd))

/-! ### Received rows (R257, R264) -/

/-- Bytes stored at offset `o` of a BUFFER region: of a Canopy band buffer, or of the standing object of a DDR5 region, tile by
tile. -/
def State.putRegion (s : State) (i o : Nat) (bs : List Byte) : State :=
  match s.thePlan.regions[i]? with
  | some r =>
    if r.tier = 1 then
      let k := s.thePlan.regionObject i
      let first := o / tileBytes
      forRange ((o + bs.length - 1) / tileBytes + 1 - first) s (fun s j =>
        let lo := max o ((first + j) * tileBytes)
        let hi := min (o + bs.length) ((first + j + 1) * tileBytes)
        (s.mergeTile (.home k (first + j)) (lo % tileBytes) ((bs.drop (lo - o)).take (hi - lo)) 0).1)
    else s.wrBytes (canopyBase + r.offset + o) bs
  | Option.none => s

/-- Two bytes a sample. -/
def sampleBytes (xs : List Nat) : List Byte := xs.flatMap (leBytes 2)

/-- Row `y` of source frame `f` written into the input ring, and with FRC 2 into the frame store as 16-bit codes. -/
def State.writeRow (s : State) (t : VideoTiming) (b : List Byte) (planes : List (List Nat)) : State :=
  let y := s.pic.rows
  let n := depthBits t
  forRange 3 s (fun s p =>
    let codes := nth [] planes p
    let s := s.putRegion (picInRing b) (ringOffset (picInRows b) t.activeW p y 0) (sampleBytes (s.inputPlane t b p codes))
    if picFrc2 b then
      let c16 := (List.range t.activeW).map (fun x =>
        if planeExact t b p then nth 0 codes x % 2 ^ n * 2 ^ (16 - n) else Config.freeFn 24 [s.fresh, y, p, x, 1] % 65536)
      s.putRegion (fld (u32 b 0x18) 0 10) (ringOffset t.activeH t.activeW (s.pic.frame % 2 * 3 + p) y 0) (sampleBytes c16)
    else s)

/-- A frame has been received whole (R253): its counts, and whether DSC failed in it (R258). -/
def State.endFrame (s : State) (t : VideoTiming) : State :=
  let bad := s.pic.frameBad
  let s := if s.blockLive 0x20 then s.setReg Reg.VIN_FRAMES (s.rn Reg.VIN_FRAMES + 1) else s
  let s := if bad then (s.count Reg.VIN_ERR_FRAMES 1).evt Reg.VIN_EVT 5 else s
  let s := { s with pic.frameBad := false }
  if s.pic.dscBad ≠ (bad && t.dsc) then ({ s with pic.dscBad := bad && t.dsc }).showGeometry else s

/-- A source row is received. -/
def State.inputRow (s : State) (planes : List (List Nat)) (errors : Bool) : State :=
  match s.pic.timing with
  | some t =>
    if !s.running 8 || s.pic.lost || decide (t.activeH ≤ s.pic.rows) then s
    else
      let s := { s with pic.frameBad := s.pic.frameBad || errors }
      let s := if errors && t.dsc && !s.pic.dscBad then
          ({ s with pic.dscBad := true, pic.cutting := false }).showGeometry
        else s
      let s := match s.picParams with
        | some b => if s.geomMatch then (s.writeRow t b planes).tickFresh else s
        | Option.none => s
      let s := { s with pic.rows := s.pic.rows + 1 }
      if s.pic.rows = t.activeH then s.endFrame t else s
  | Option.none => s

/-- INPUT_ROW (R257). -/
def execInputRow (samples : List (List Nat)) (errors : Bool) (s : State) : Host.Outcome State Fault Refusal :=
  .next (s.inputRow samples errors)

/-! ### Output frames (R264, R266, R274, R275, R280) -/

/-- Whether a device shows a part of a split picture that its own HDMI input does not give. -/
def State.fedByRing (s : State) : Bool := s.splitPicture && decide (s.chipId ≠ 0)

/-- Whole source periods in D: how many frames the output lags behind the input. -/
def State.lagFrames (s : State) : Nat :=
  match s.pic.timing with
  | some t => s.delayNs * t.frameMhz / 10 ^ 12
  | Option.none => 0

/-- An output frame begins: of FRC 2, the generated frame of a pair follows the original. -/
def State.outputStart (s : State) : State :=
  let pair := (match s.neuralParams with | some b => picFrc2 b | Option.none => false) && s.pic.outRunning && !s.pic.outGen
  let f := if pair then s.pic.outFrame else s.pic.frame - s.lagFrames
  let muted := (s.pic.lost || s.pic.mutePending || decide (f < s.pic.firstFrame)) && !s.fedByRing
  let (w, h, _, _, mhz) := s.outputTiming
  let s := { s with pic.outRunning := true, pic.outGen := pair, pic.outFrame := f, pic.outNext := 0, pic.sources := [],
                    pic.emitted := [], pic.outKey := s.fresh, pic.outMuted := muted, pic.muteCode := s.rn Reg.VOUT_MUTE,
                    pic.outMhz := mhz }
  let s := (s.tickFresh.put Reg.VOUT_TIMING (w + h * 2 ^ 16)).put Reg.VOUT_FRAME_MHZ mhz
  let s := (s.putF Reg.VOUT_STATUS 10 1 (b2n muted)).putF Reg.VOUT_STATUS 11 1
    (match s.pic.timing with | some t => b2n t.vrr | Option.none => 0)
  (s.putF Reg.BYP_STATUS 0 1 (b2n (!muted))).putF Reg.RCMP_STATUS 16 7 0

/-- OUTPUT_FRAME_START (R275): step 6 of a cold start, or the first frame after a release of D8, lets the transmitter run. -/
def execOutputFrameStart (s : State) : Host.Outcome State Fault Refusal := .next (if s.running 8 then s.outputStart else s)

/-! ### Band decisions (R265 to R270, Table 13.4) -/

/-- Where a band comes from. -/
inductive BandSource where
  | neural | bypass | mute
  deriving DecidableEq, Repr

/-- SRC of RCMP_STATUS. -/
def BandSource.code : BandSource → Nat
  | .neural => 0 | .bypass => 1 | .mute => 2

/-- Why a band is not neural. -/
inductive BandCause where
  | none | cover | late
  deriving DecidableEq, Repr

/-- The parts of a band on all devices of a split picture are on time (R270, R347). -/
def State.peersOnTime (s : State) (key : Nat) : Bool :=
  !s.splitPicture || ((List.range s.thePlan.devices).all (fun d =>
    d == s.chipId || (s.thePlan.columns d).2 == 0 || tget false s.pic.peers (d * 1024 + key)))

/-- The key of the release in whose tick band `b` of the output frame is computed (R260, R264): with FRC 2 that of band b + m of the
frame after, the last m bands of a frame being computed as the next one begins (log entry 73). -/
def State.resultKey (s : State) (p : List Byte) (b : Nat) : Nat :=
  let f := if picFrc2 p then s.pic.outFrame + 1 else s.pic.outFrame
  let k := b + picLag p
  if k < picNb p then bandKey f k else bandKey (f + 1) (k - picNb p)

/-- The result of band `b` of the output frame is on time (R266). -/
def State.bandOnTime (s : State) (p : List Byte) (b : Nat) : Bool :=
  s.bandDone (s.resultKey p b) && s.peersOnTime (s.resultKey p b)

/-- The feature-valid bits that a generated band needs are set in both sets (R265). -/
def State.featuresOk (s : State) (p : List Byte) (b : Nat) : Bool :=
  (List.range (picNb p)).all (fun k =>
    decide (k + picLag p < b) || decide (b + picLag p < k)
      || (s.featureValid s.pic.outFrame k && s.featureValid (s.pic.outFrame + 1) k))

/-- A band covered by a mode change, by a reset of D2 or by the restart after it (Table 13.4). -/
def State.bandCovered (s : State) (p : List Byte) (b : Nat) : Bool :=
  s.inReset 2 || s.mode.restart || s.pic.cover || s.pic.covered.contains (s.resultKey p b)

/-- The source of band `b` of the output frame in progress, and why it is not neural (R264, R266, Table 13.4). -/
def State.judgeBand (s : State) (b : Nat) : BandSource × BandCause :=
  if s.pic.outMuted then (.mute, .none)
  else match s.neuralParams with
    | Option.none => (.bypass, .none)
    | some p =>
      if !(s.geomMatch || s.fedByRing) || (picFrc2 p && !s.pic.outGen) || s.rb Reg.BYP_CTRL 0 || s.pwr.critical then (.bypass, .none)
      else if s.bandCovered p b then (.bypass, .cover)
      else if !s.bandOnTime p b then (.bypass, .late)
      else if picFrc2 p && !s.featuresOk p b then (.bypass, .cover)
      else (.neural, .none)

/-- The sources of the bands decided so far, as `sources` keeps them. -/
def State.sourceOf (s : State) (b : Nat) : Option BandSource :=
  match tfind s.pic.sources b with
  | some 0 => some .neural
  | some 1 => some .bypass
  | some _ => some .mute
  | Option.none => Option.none

/-! ### Emitted rows (R267 to R269, R271) -/

/-- The neural sample at a place of the output frame, as an output code; none where its line of the output ring is
uncorrectable (R269). -/
def State.neuralSample (s : State) (p : List Byte) (w plane y x : Nat) : Option Nat :=
  let o := ringOffset (picOutRows p) w plane y x
  if s.regionBad (picOutRing p) o then Option.none
  else some (outputCode p plane (leNat (s.regionBytes (picOutRing p) o 2)))

/-- The distance from the nearest seam of row `r` of neural band `b`, where it lies within 8 rows of one (R267). -/
def State.seamDistance (s : State) (ro nb b r : Nat) : Option Nat :=
  let above := decide (0 < b) && s.sourceOf (b - 1) == some .bypass && decide (r - b * ro < 8)
  let below := decide (b + 1 < nb) && s.sourceOf (b + 1) == some .bypass && decide ((b + 1) * ro - 1 - r < 8)
  if above then some (r - b * ro) else if below then some ((b + 1) * ro - 1 - r) else Option.none

/-- A sample of row `r` in band `b`, by the band's source. -/
def State.emitSample (s : State) (p : List Byte) (w nb b plane r x : Nat) : Nat :=
  match s.sourceOf b with
  | some .neural =>
    match s.neuralSample p w plane r x, s.seamDistance (picRo p) nb b r with
    | some n, some d => blend d n (s.bypassSample plane r x)
    | some n, Option.none => n
    | Option.none, _ => s.bypassSample plane r x
  | some .bypass => s.bypassSample plane r x
  | _ => nth 0 (muteCodes s.pic.muteCode) plane

/-- A row of the output frame emitted: three planes of codes, the mute colour once the frame is muted. -/
def State.emitRow (s : State) (p : List Byte) (w nb b r : Nat) : State :=
  let row := (List.range 3).map (fun plane =>
    (List.range w).map (fun x =>
      if s.pic.outMuted then nth 0 (muteCodes s.pic.muteCode) plane else s.emitSample p w nb b plane r x))
  { s with pic.emitted := tput s.pic.emitted r row }

/-- Lines of the output ring that row `r` of a neural band finds uncorrectable (R269). -/
def State.badLinesOf (s : State) (p : List Byte) (w b r : Nat) : Nat :=
  if s.pic.outMuted || s.sourceOf b != some .neural then 0
  else ((List.range 3).map (fun plane =>
    ((List.range (ceilDiv w 32)).filter (fun l => s.regionBad (picOutRing p) (ringOffset (picOutRows p) w plane r (32 * l)))).length)).sum

/-- Rows `lo` to `hi − 1` of band `b` emitted, substituted lines counted. -/
def State.emitRows (s : State) (p : List Byte) (w h nb b lo hi : Nat) : State :=
  forRange (hi - lo) s (fun s i =>
    let r := lo + i
    if h ≤ r then s
    else
      let n := s.badLinesOf p w b r
      let s := s.emitRow p w nb b r
      if n = 0 then s else (s.count Reg.RCMP_SUBST n).evt Reg.RCMP_EVT 2)

/-- A band that is not neural is counted (Table 13.4, R282). -/
def State.countCause (s : State) : BandCause → State
  | .none => s
  | .cover => (s.count Reg.RCMP_COVER 1).evt Reg.RCMP_EVT 1
  | .late => (s.count Reg.RCMP_LATE 1).evt Reg.RCMP_EVT 0

/-- The output frame is complete: RCMP_MAP shows which of its bands were neural; with FRC 2, those of the generated frame. -/
def State.showMap (s : State) (p : List Byte) : State :=
  if picFrc2 p && !s.pic.outGen then s
  else
    let s := forRange 4 s (fun s i =>
      s.put (Reg.RCMP_MAP i) (maskOf ((List.range 32).map (fun j => s.sourceOf (32 * i + j) == some .neural))))
    s.evt Reg.RCMP_EVT 3

/-- Band `b` of a picture stream's output frame is decided, and the rows whose seams are now known are emitted: the last 8 of the
band before, and this band's up to its own last 8. -/
def State.decideBand (s : State) (p : List Byte) (b : Nat) : State :=
  let (src, cause) := s.judgeBand b
  let (w, h, _) := s.outputTiming
  let nb := picNb p
  let ro := picRo p
  let s := { s.countCause cause with pic.sources := tput s.pic.sources b src.code, pic.outNext := b + 1 }
  let before := if b = 0 then Option.none else s.sourceOf (b - 1)
  let seam := (src == .neural && before == some .bypass) || (src == .bypass && before == some .neural)
  let s := if seam then s.count Reg.RCMP_SEAMS 1 else s
  let s := (s.putF Reg.RCMP_STATUS 0 2 src.code).putF Reg.RCMP_STATUS 16 7 b
  let s := if b = 0 then s else s.emitRows p w h nb (b - 1) (b * ro - 8) (b * ro)
  let s := s.emitRows p w h nb b (b * ro) (if b + 1 = nb then max h ((b + 1) * ro) else (b + 1) * ro - 8)
  if b + 1 = nb then s.showMap p else s

/-- With no picture stream the whole frame comes from the bypass scaler, or is muted (R272). -/
def State.wholeFrame (s : State) : State :=
  let (w, h, _) := s.outputTiming
  let src : BandSource := if s.pic.outMuted then .mute else .bypass
  let s := { s with pic.sources := [(0, src.code)], pic.outNext := 1 }
  (s.emitRows [] w h 1 0 0 h).putF Reg.RCMP_STATUS 0 2 src.code

/-- BAND_DECISION: the next band of the output frame in progress. -/
def State.bandDecision (s : State) : State :=
  if !s.running 8 || !s.pic.outRunning then s
  else match s.neuralParams with
    | some p => if s.pic.outNext < picNb p then s.decideBand p s.pic.outNext else s
    | Option.none => if s.pic.outNext = 0 then s.wholeFrame else s

/-- BAND_DECISION (R266). -/
def execBandDecision (s : State) : Host.Outcome State Fault Refusal := .next s.bandDecision

/-! ### The DisplayPort transmitter (R255, R256) -/

/-- The rate codes of Table 13.12, highest first. -/
def dpRates : List Nat := [0xA, 0x9, 0x8, 0x2, 0x1]

/-- DSC_BPP_X16 and DSC_SLICES_LOG2 of the mode's picture stream. -/
def State.dscSettings (s : State) : Option (Nat × Nat) :=
  s.neuralParams.map (fun b => (fld (u32 b 0x38) 0 10, fld (u32 b 0x38) 12 3))

/-- Whether a rate carries the output timing, and whether it needs DSC. -/
def State.rateCarries (s : State) (r : Nat) : Option Bool :=
  let (_, _, tw, th, mhz) := s.outputTiming
  if Config.linkCarries r tw th mhz 0 then some false
  else match s.dscSettings with
    | some (bpp, _) => if Config.linkCarries r tw th mhz bpp then some true else Option.none
    | Option.none => Option.none

/-- The rates tried, highest first: no higher than VOUT_MAX_RATE, and reported by the sink. -/
def State.tryRates (s : State) : List Nat :=
  dpRates.filter (fun r => decide (r ≤ s.rf Reg.VOUT_MAX_RATE 0 4) && s.pic.sinkRates.contains r)

/-- Training (R256): `trains` are the rates at which the link trains. -/
def State.trainLink (s : State) (trains : List Nat) : State :=
  let s := { s with pic.lastTrainUs := some s.timeUs, pic.retrainDue := false }
  match s.tryRates.find? (fun r => trains.contains r && (s.rateCarries r).isSome) with
  | some r =>
    let dsc := s.rateCarries r == some true
    let s := { s with pic.trainFailed := false }
    let s := ((s.putF Reg.VOUT_STATUS 0 1 1).putF Reg.VOUT_STATUS 4 4 r).putF Reg.VOUT_STATUS 8 1 (b2n dsc)
    let (bpp, sl) := if dsc then s.dscSettings.getD (0, 0) else (0, 0)
    (s.put Reg.VOUT_DSC (bpp + sl * 2 ^ 12)).evt Reg.VOUT_EVT 0
  | Option.none =>
    ((({ s with pic.trainFailed := true }).putF Reg.VOUT_STATUS 0 1 0).putF Reg.VOUT_STATUS 4 5 0).evt Reg.VOUT_EVT 2

/-- DP_LINK_TRAIN: a sink is found, with the rates it reports and the preferred timing of its E-EDID where that is readable. -/
def State.meetSink (s : State) (rates trains : List Nat) (preferred : Option (Nat × Nat)) : State :=
  let s := { s with pic.sinkHpd := true, pic.sinkRates := rates, pic.sinkTiming := preferred }
  ((s.putF Reg.VOUT_STATUS 9 1 1).showGeometry).trainLink trains

/-- DP_LINK_TRAIN (R256). -/
def execDpLinkTrain (sinkRates : List Nat) (trains : List Nat) (preferred : Option (Nat × Nat)) (s : State) :
    Host.Outcome State Fault Refusal :=
  .next (if s.running 8 then s.meetSink sinkRates trains preferred else s)

/-- A retrain counted (R256). -/
def State.retrain (s : State) (trains : List Nat) : State := (s.count Reg.VOUT_RETRAINS 1).trainLink trains

/-- DP_TRAIN_RETRY (R256): 100 ms after a failed training, or after a retrain that had to wait. -/
def execDpTrainRetry (trains : List Nat) (s : State) : Host.Outcome State Fault Refusal :=
  .next (if !s.running 8 then s
    else if s.pic.retrainDue then s.retrain trains
    else if s.pic.trainFailed then s.trainLink trains else s)

/-- DP_SINK_IRQ: the sink signals link loss; one retrain at most in 100 ms. -/
def State.sinkIrq (s : State) (trains : List Nat) : State :=
  let s := ((s.evt Reg.VOUT_EVT 3).evt Reg.VOUT_EVT 1).putF Reg.VOUT_STATUS 0 1 0
  match s.pic.lastTrainUs with
  | some u => if s.timeUs < u + 100000 then { s with pic.retrainDue := true } else s.retrain trains
  | Option.none => s.retrain trains

/-- DP_SINK_IRQ (R256). -/
def execDpSinkIrq (trains : List Nat) (s : State) : Host.Outcome State Fault Refusal :=
  .next (if s.running 8 && s.rb Reg.VOUT_STATUS 0 then s.sinkIrq trains else s)

/-! ### Registers with a row of their own -/

/-- VOUT_MUTE (R280): taken at the next output frame. -/
def execVoutMute (init : Initiator) (value : Word) (s : State) : Host.Outcome State Fault Refusal :=
  .next (s.viaWrite init Reg.VOUT_MUTE false (·.storeReg (decide (init = .kernel)) Reg.VOUT_MUTE value.toNat))
/-- BYP_CTRL (R281): FORCE takes effect at the next decision. -/
def execBypCtrl (init : Initiator) (value : Word) (s : State) : Host.Outcome State Fault Refusal :=
  .next (s.viaWrite init Reg.BYP_CTRL false (·.storeReg (decide (init = .kernel)) Reg.BYP_CTRL value.toNat))

end Sys2Proof.Machine
end

