-- ==== Sys2Proof/Machine/Listen.lean ====
section
/-! DEFINITION. The microphones, Dawn-0 and the wake cascade's commands (chapter 14, R283 to R307). -/
namespace Sys2Proof.Machine
open Sys2Proof

/-- Frames are written while D0 has power and the device is not in S3 (R288, R293). -/
def State.listening (s : State) : Bool := s.running 0 && s.rb Reg.MIC_STATUS 0 && decide (s.devState ≠ 3)

/-! ### Sample frames (R285, R287, R288) -/

/-- MUTE takes effect, or ends, at a frame; afterwards Dawn-0 counts only hops that lie wholly after the first frame with audio. -/
def State.applyMute (s : State) : State :=
  let m := s.rb Reg.MIC_MUTE 0
  if m = s.mic.muted then s
  else
    let s := { s with mic.muted := m, mic.hopFrom := if m then s.mic.hopFrom else s.wpos + 1 }
    (s.showMic).evt Reg.MIC_EVT 4

/-- The saturated samples of a frame counted, `xs` holding one sample of each enabled input in ascending order. -/
def State.countClips (s : State) (xs : List Int) : State :=
  let ins := bitsOf 4 (s.rf Reg.MIC_CFG 0 4)
  forRange ins.length s (fun s i =>
    let x := nth 0 xs i
    if x < -32768 ∨ 32767 < x then (s.count (Reg.MIC_CLIP (nth 0 ins i)) 1).evt Reg.MIC_EVT 2 else s)

/-- The bytes of a frame: each enabled input's sample rounded to 16 bits and saturated, zero while muted. -/
def State.frameOf (s : State) (xs : List Int) : List Byte :=
  (List.range s.micCount).flatMap (fun i =>
    leBytes 2 (if s.mic.muted then 0 else ofSigned 16 (clampInt (-32768) 32767 (nth 0 xs i))))

/-- A frame written into the history ring; WPOS advances after it. -/
def State.micFrame (s : State) (xs : List Int) : State :=
  let s := s.applyMute
  let s := if s.mic.muted then s else s.countClips xs
  let at_ := dawnBase + s.rn Reg.MIC_HIST_BASE + s.wpos % max 1 s.histCap * s.frameBytes
  (s.wrBytes at_ (s.frameOf xs)).incR64 Reg.MIC_WPOS_LO 1

/-- MIC_FRAME (R288). -/
def execMicFrame (samples : List Int) (s : State) : Host.Outcome State Fault Refusal :=
  .next (if s.listening then s.micFrame samples else s)

/-! ### Stage 0 (R293, R294, R302, R304) -/

/-- A detection at frame `p0`: in S2, or while the device enters it, it requests the exit and the cascade waits (R294, R304). -/
def State.detect (s : State) (p0 : Nat) : State :=
  let s := (s.put Reg.DAWN_WAKE_POS_LO (p0 % 2 ^ 32)).put Reg.DAWN_WAKE_POS_HI (p0 / 2 ^ 32 % 2 ^ 32)
  let s := ((s.count Reg.DAWN_DETECTS 1).evt Reg.DAWN_EVT 0).putF Reg.DAWN_STATUS 16 16 (s.utt + 1)
  let s := s.putF Reg.DAWN_SCORE 8 8 0
  if s.devState = 2 ∨ s.entering 2 = true then ({ s with mic.exitWait := true }).wake 1 s.thePlan.s2Wake
  else
    let s := if s.thePlan.rom then s.reportOwn 6 Reg.DAWN_EVT 0 else s
    s.afterDetection

/-- A hop scored by Dawn-0. -/
def State.dawnHop (s : State) (score : Nat) : State :=
  let p0 := s.wpos - 1
  let s := (s.putF Reg.DAWN_SCORE 0 8 score).putF Reg.DAWN_SCORE 8 8 (max score (s.rf Reg.DAWN_SCORE 8 8))
  let counts := !s.rb Reg.MIC_MUTE 0 && decide (s.mic.hopFrom + s.msFrames 10 ≤ s.wpos)
  if !counts || decide (score < s.rf Reg.DAWN_CFG 0 8) then { s with mic.hits := 0 }
  else if s.mic.hits + 1 < s.rf Reg.DAWN_CFG 8 4 then { s with mic.hits := s.mic.hits + 1 }
  else
    let s := { s with mic.hits := 0 }
    if s.stage = 0 then s.detect p0 else s.count Reg.DAWN_REFIRES 1

/-- DAWN_HOP (R293). -/
def execDawnHop (score : Fin 256) (s : State) : Host.Outcome State Fault Refusal :=
  .next (if s.listening && decide (0 < s.wpos) then s.dawnHop score.val else s)

/-! ### Bias and mute (R284, R287) -/

/-- BIAS_FAULT (R284): an enabled output that has not been switched off. -/
def execBiasFault (n : Fin 2) (s : State) : Host.Outcome State Fault Refusal :=
  .next (if s.running 0 && s.rb Reg.MIC_BIAS (8 * n.val) && !bitOf s.mic.biasOff n.val then
      (({ s with mic.biasOff := setFld s.mic.biasOff n.val 1 1 }).showMic).evt Reg.MIC_EVT n.val
    else s)

/-- A write of MIC_MUTE: setting MUTE ends the cascade at once, with no delivery and no HOST_WAKE. -/
def State.writeMute (s : State) (kernel : Bool) (v : Nat) : State :=
  let was := s.rb Reg.MIC_MUTE 0
  let s := s.storeReg kernel Reg.MIC_MUTE v
  if s.rb Reg.MIC_MUTE 0 && !was then ({ s with mic.exitWait := false }).endCascade 0 else s

/-- MIC_MUTE (R287). -/
def execMicMute (init : Initiator) (value : Word) (s : State) : Host.Outcome State Fault Refusal :=
  .next (s.viaWrite init Reg.MIC_MUTE false (·.writeMute (decide (init = .kernel)) value.toNat))

/-! ### Timeouts of the cascade (R299, R305) -/

/-- FOLLOW_TIMEOUT (R299): a follow-up with no onset in FOLLOW_MS. -/
def execFollowTimeout (s : State) : Host.Outcome State Fault Refusal :=
  .next (if s.running 0 && decide (s.stage = 2) && s.rb Reg.DAWN_STATUS 9 then s.endCascade 0 else s)

/-- CASCADE_VOTE_TIMEOUT (R305). -/
def execCascadeVoteTimeout (s : State) : Host.Outcome State Fault Refusal :=
  .next (if s.running 0 && decide (1 ≤ s.stage) then (s.cascadeEvent 7).endCascade 0 else s)

/-! ### HOST_WAKE (R301) -/

/-- HOST_WAKE falls. -/
def State.releaseWake (s : State) : State := s.putF Reg.DAWN_HOST_WAKE 0 1 0

/-- HOST_WAKE_HOLD_EXPIRY (R301). -/
def execHostWakeHoldExpiry (s : State) : Host.Outcome State Fault Refusal := .next (if s.running 0 then s.releaseWake else s)

/-- DAWN_HOST_WAKE (R301): a 1 written to ASSERTED releases HOST_WAKE. -/
def execDawnHostWake (init : Initiator) (value : Word) (s : State) : Host.Outcome State Fault Refusal :=
  .next (s.viaWrite init Reg.DAWN_HOST_WAKE false (fun s => if bitOf value.toNat 0 then s.releaseWake else s))

end Sys2Proof.Machine
end

