-- ==== Sys2Proof/Machine/Camera.lean ====
section
/-! DEFINITION. The camera port, the image pipeline and presence (chapter 15, R308 to R323). -/
namespace Sys2Proof.Machine
open Sys2Proof

/-! ### The port (R308, R309, R320) -/

/-- CAM_CFG and CAM_SIZE as the unit that reads the port has them: the image pipeline, or the capture unit of D0 (R320). -/
def State.camConfig (s : State) (d0 : Bool) : Nat × Nat := if d0 then s.cam.d0Cfg else (s.rn Reg.CAM_CFG, s.rn Reg.CAM_SIZE)
/-- Active width and height of a CAM_SIZE value. -/
def camW (size : Nat) : Nat := fld size 0 13
def camH (size : Nat) : Nat := fld size 16 13
/-- Bits of a pixel (Table 15.13). -/
def camBits (cfg : Nat) : Nat := nth 12 [8, 10, 12] (fld cfg 1 2)

/-- The capture unit of D0 reads the port: D8 is in reset or off and the presence unit is on (R320). -/
def State.d0Captures (s : State) : Bool := !s.running 8 && s.running 0 && s.cam.presOn

/-- A broken frame (R309). -/
def State.brokenFrame (s : State) : State := (s.count Reg.CAM_BROKEN 1).evt Reg.CAM_EVT 1

/-- The committed set takes effect at a VSYNC start (R312). -/
def State.applyCommit (s : State) : State :=
  match s.cam.commit with
  | some c => ({ s with cam.params := c, cam.commit := Option.none }).put Reg.IPL_ACTIVE_ID c.id
  | Option.none => s

/-- NO_SIGNAL as the camera registers and the presence block show it (R309, Table 15.8). -/
def State.setNoSignal (s : State) (b : Bool) : State :=
  let s := ({ s with cam.noSignal := b }).putF Reg.CAM_STATUS 1 1 (b2n b)
  match s.presenceBlock with
  | some a => s.wrLE (a + 0x14) 4 (setFld (s.rdLE (a + 0x14) 4) 9 1 (b2n b))
  | Option.none => s

/-- A VSYNC start that the image pipeline sees: a frame that has not ended by then is broken. -/
def State.pipelineVsync (s : State) : State :=
  let s := match s.cam.cur with
    | some f => if f.d0 then s else s.brokenFrame
    | Option.none => s
  let n := (s.rn Reg.CAM_FRAME + 1) % 2 ^ 32
  let s := (s.put Reg.CAM_FRAME n).applyCommit
  let s := (s.putF Reg.CAM_STATUS 0 1 1).setNoSignal false
  let f : CamFrame := { frame := n, tick := s.r64 Reg.TICK_COUNT_LO, params := s.cam.params,
                        presence := s.cam.markDue && s.cam.presOn }
  { s with cam.cur := some f, cam.markDue := false }

/-- A VSYNC start that the capture unit of D0 sees. -/
def State.captureVsync (s : State) : State :=
  let s := s.setNoSignal false
  let f : CamFrame := { frame := 0xFFFFFFFF, tick := 0, params := {}, presence := s.cam.markDue, d0 := true }
  { s with cam.cur := some f, cam.markDue := false }

/-- CAM_VSYNC (R309, R312, R320). -/
def execCamVsync (s : State) : Host.Outcome State Fault Refusal :=
  .next (if s.running 8 then (if s.rb Reg.CAM_CFG 0 then s.pipelineVsync else s)
    else if s.d0Captures && bitOf s.cam.d0Cfg.1 0 then s.captureVsync else s)

/-- CAM_NO_SIGNAL (R309): no VSYNC start for CAM_TIMEOUT ms. -/
def execCamNoSignal (s : State) : Host.Outcome State Fault Refusal :=
  .next (if s.running 8 then
      (if s.rb Reg.CAM_CFG 0 then ((s.setNoSignal true).putF Reg.CAM_STATUS 0 1 0).evt Reg.CAM_EVT 2 else s)
    else if s.d0Captures && bitOf s.cam.d0Cfg.1 0 then s.setNoSignal true else s)

/-- PRESENCE_MARK (R320): a 500 ms mark of the always-on timer; one that falls while no signal arrives yields no frame. -/
def execPresenceMark (s : State) : Host.Outcome State Fault Refusal :=
  .next (if s.running 0 && s.cam.presOn && !s.cam.noSignal then { s with cam.markDue := true } else s)

/-! ### The mosaic and stages 1 to 4 (R311, R317, Table 15.3) -/

/-- The patterns of Table 15.2, channel by channel: 0 R, 1 G, 2 B, 3 IR or W. -/
def mosaicPattern (m : Nat) : List Nat :=
  match m with
  | 0 => [2, 1, 0, 1, 1, 3, 1, 3, 0, 1, 2, 1, 1, 3, 1, 3]
  | 1 => [3, 2, 3, 1, 2, 3, 1, 3, 3, 1, 3, 0, 1, 3, 0, 3]
  | _ => [0, 1, 1, 2]

/-- The channel of the pixel at (y, x) (R311). -/
def mosaicChannel (cfg y x : Nat) : Nat :=
  let m := fld cfg 8 2
  let n := if m < 2 then 4 else 2
  let ph := fld cfg 12 4
  nth 0 (mosaicPattern m) ((ph / n + y) % n * n + (ph + x) % n)

/-- The normalised 16-bit code at (y, x) of a frame. -/
def codeAt (cfg : Nat) (rows : List (List Nat)) (y x : Nat) : Nat :=
  nth 0 (nth [] rows y) x % 2 ^ camBits cfg * 2 ^ (16 - camBits cfg)

/-- Stage 1: the black level subtracted. -/
def blackCode (p : ParamSet) (cfg : Nat) (rows : List (List Nat)) (y x : Nat) : Nat :=
  codeAt cfg rows y x - nth 0 p.black (mosaicChannel cfg y x)

/-- The nearest pixel of the same channel on a row, at the distances that `at_` turns into a place. -/
def sameChannel (cfg w y x : Nat) (at_ : Nat → Option Nat) : Option Nat :=
  ((List.range 4).filterMap (fun d => at_ (d + 1))).find? (fun k => decide (k < w) && mosaicChannel cfg y k == mosaicChannel cfg y x)

/-- Stage 2: a code beyond the threshold from both same-channel neighbours on its row is their mean; the rounding of the mean, and
what a pixel with one such neighbour becomes, are not stated. -/
def defectCode (p : ParamSet) (cfg w key : Nat) (rows : List (List Nat)) (y x : Nat) : Nat :=
  let c (k : Nat) := blackCode p cfg rows y k
  let far (k : Nat) := decide (c k + p.defect < c x) || decide (c x + p.defect < c k)
  match sameChannel cfg w y x (fun d => if d ≤ x then some (x - d) else Option.none), sameChannel cfg w y x (fun d => some (x + d)) with
  | some l, some r =>
    if far l && far r then
      let sum := c l + c r
      if sum % 2 = 0 then sum / 2 else sum / 2 + Config.freeFn 40 [key, y, x] % 2
    else c x
  | some k, Option.none => if far k then Config.freeFn 41 [key, y, x] % 65536 else c x
  | Option.none, some k => if far k then Config.freeFn 41 [key, y, x] % 65536 else c x
  | Option.none, Option.none => c x

/-- The gain of a shading grid that is the same everywhere. -/
def gridGain (grid : List Byte) : Option Nat :=
  let g := u16 grid 0
  if grid.length = 1768 ∧ (List.range 884).all (fun i => u16 grid (2 * i) == g) = true then some g else Option.none

/-- Stage 3: the shading gain applied. The interpolation's and the product's rounding are not stated: only a constant gain with a
whole product has a stated result. -/
def shadedCode (p : ParamSet) (cfg w key : Nat) (rows : List (List Nat)) (y x : Nat) : Nat :=
  match gridGain (nth [] p.tables 0) with
  | some g =>
    let v := defectCode p cfg w key rows y x * g
    if v % 4096 = 0 ∧ v / 4096 < 65536 then v / 4096 else Config.freeFn 42 [key, y, x] % 65536
  | Option.none => Config.freeFn 42 [key, y, x] % 65536

/-- The sum of channel `c` in zone (zy, zx) of the mosaic; where the frame does not divide into 16 × 12 zones the spec does not
place their edges. -/
def zoneSum (p : ParamSet) (cfg w h key : Nat) (rows : List (List Nat)) (zy zx c : Nat) : Nat :=
  if w % 16 = 0 ∧ h % 12 = 0 then
    ((List.range (h / 12)).map (fun i =>
      ((List.range (w / 16)).map (fun j =>
        let y := zy * (h / 12) + i
        let x := zx * (w / 16) + j
        if mosaicChannel cfg y x = c then shadedCode p cfg w key rows y x else 0)).sum)).sum
  else Config.freeFn 43 [key, zy, zx, c] % 2 ^ 32

/-- Pixels whose code is 65,535 before stage 1. -/
def clippedCount (cfg : Nat) (rows : List (List Nat)) : Nat :=
  ((List.range rows.length).map (fun y =>
    ((List.range (nth [] rows y).length).filter (fun x => codeAt cfg rows y x == 65535)).length)).sum

/-- The statistics record (Table 15.6); how a cell of the histogram takes its channels from the 4 × 4 patterns is not stated. -/
def statsRecord (f : CamFrame) (cfg w h key : Nat) (rows : List (List Nat)) : List Byte :=
  leBytes 4 f.frame ++ leBytes 4 1 ++ leBytes 8 f.tick ++ leBytes 4 f.params.id ++ leBytes 4 (clippedCount cfg rows)
    ++ List.replicate 40 0
    ++ (List.range 192).flatMap (fun z => (List.range 4).flatMap (fun c =>
        leBytes 4 (zoneSum f.params cfg w h key rows (z / 16) (z % 16) c)))
    ++ (List.range 256).flatMap (fun i => leBytes 4 (Config.freeFn 44 [key, i]))

/-! ### Rings (R313, R314, R317) -/

/-- Where a ring buffer lies. -/
inductive RingTarget where
  | ddr | outbound | nowhere
  deriving DecidableEq, Repr

/-- The memory that holds a ring at `a`, if a frame can be written there now: DDR5 while it is in service, or the outbound window
while its transfers leave the device (R433). -/
def State.ringTarget (s : State) (a : Nat) : RingTarget :=
  match regionOf a with
  | .ddr => if s.ddrHeld || s.ddrUsable == 0 then .nowhere else .ddr
  | .outbound => if s.outboundOpen then .outbound else .nowhere
  | _ => .nowhere

/-- Bytes stored in a ring. -/
def State.ringBytes (s : State) (a : Nat) (bs : List Byte) : State :=
  match s.ringTarget a with
  | .ddr => s.wrBytes a bs
  | .outbound => { s with pci.outbound := some (s.r64 Reg.PCI_OB_BASE_LO + (a - outboundBase), leNat bs) }
  | .nowhere => s

/-- `n` bytes of a ring given values that the spec does not state. -/
def State.ringFree (s : State) (a n : Nat) : State :=
  match s.ringTarget a with
  | .ddr => s.loseMem a n
  | _ => s

/-- The statistics of a complete frame (R317): nothing while the ring is not set up, is full or has no memory. -/
def State.writeStats (s : State) (f : CamFrame) (rows : List (List Nat)) : State :=
  let n := s.rf Reg.CAM_STATS_SLOTS 0 5
  let a := s.r64 Reg.CAM_STATS_BASE_LO + s.cam.statsTail * 8192
  if n = 0 ∨ (s.cam.statsTail + 1) % n = s.rf Reg.CAM_STATS_HEAD 0 4 ∨ s.ringTarget a = .nowhere then s
  else
    let s := s.ringBytes a (statsRecord f (s.rn Reg.CAM_CFG) (camW (s.rn Reg.CAM_SIZE)) (camH (s.rn Reg.CAM_SIZE)) s.fresh rows)
    ({ s with cam.statsTail := (s.cam.statsTail + 1) % n }).tickFresh

/-- The frame record of Table 15.5. -/
def frameRecord (f : CamFrame) (o w h drops : Nat) : List Byte :=
  leBytes 4 f.frame ++ leBytes 4 (1 + o % 4 * 2) ++ leBytes 8 f.tick ++ leBytes 4 f.params.id ++ leBytes 4 (w + h * 2 ^ 16)
    ++ leBytes 4 drops ++ List.replicate 100 0

/-- The picture of output 0 in a buffer at `a`: every fourth byte is 0xFF (Table 15.4). The demosaic filter and the roundings of
the stages after it are not stated. -/
def State.writeDisplay (s : State) (a w h : Nat) : State :=
  forRange (w * h) (s.ringFree a (4 * w * h)) (fun s i => s.ringBytes (a + 4 * i + 3) [0xFF])

/-- The picture of output 1 in a buffer at `a`: NV12 rows at their pitch (Table 15.4). -/
def State.writeCoding (s : State) (a w h : Nat) : State :=
  forRange (h + h / 2) s (fun s y => s.ringFree (a + y * roundUp w 128) w)

/-- A drop at output `o`. -/
def State.dropOutput (s : State) (o : Nat) : State :=
  let s := { s with cam.drops := tput s.cam.drops o (min 65535 (tget 0 s.cam.drops o + 1)) }
  (s.putF (Reg.CAM_OUT_STAT o) 16 16 (min 65535 (s.rf (Reg.CAM_OUT_STAT o) 16 16 + 1))).evt Reg.CAM_EVT 3

/-- Output `o`, 0 or 1, of a complete frame (R313, R314). -/
def State.writeOutput (s : State) (f : CamFrame) (o : Nat) : State :=
  let cfg := s.rn (Reg.CAM_OUT_CFG o)
  let n := fld cfg 4 4
  let base := s.r64 (Reg.CAM_OUT_BASE_LO o)
  let pitch := s.rn (Reg.CAM_OUT_PITCH o)
  let tail := s.rf (Reg.CAM_OUT_STAT o) 0 4
  let (w, h) := (s.rf (Reg.CAM_OUT_SIZE o) 0 12, s.rf (Reg.CAM_OUT_SIZE o) 16 12)
  if bitOf cfg 0 = false ∨ n < 3 ∨ pitch = 0 then s
  else if (tail + 1) % n = s.rf (Reg.CAM_OUT_HEAD o) 0 4 ∨ s.ringTarget base = .nowhere then s.dropOutput o
  else
    let a := base + tail * pitch
    let s := if o = 0 then s.writeDisplay a w h else s.writeCoding a w h
    let s := s.ringBytes (a + pitch - 128) (frameRecord f o w h (tget 0 s.cam.drops o))
    ({ s with cam.drops := tdel s.cam.drops o }).putF (Reg.CAM_OUT_STAT o) 0 4 ((tail + 1) % n)

/-! ### The look area (R313, R314, R319, R462) -/

/-- The parameter block of the looking stream of the plan in force. -/
def State.lookParams (s : State) : Option (List Byte) := (s.thePlan.streams.find? (·.kind == 3)).map (·.params)
/-- MV_W and MV_H. -/
def lookW (b : List Byte) : Nat := fld (u32 b 0xC) 0 10
def lookH (b : List Byte) : Nat := fld (u32 b 0xC) 16 10
/-- Bytes of the planes of the look area (Table 15.4, R147). -/
def lookBytes (b : List Byte) : Nat :=
  let width := if bitOf (u32 b 0x10) 4 then 2 else 1
  (if bitOf (u32 b 0x10) 0 then 4 else 3) * roundUp (lookH b * roundUp (lookW b * width) 16) 128

/-- A machine-vision frame is delivered to the look area, or skipped in a release tick (R319). -/
def State.writeLook (s : State) (f : CamFrame) : State :=
  match s.lookParams with
  | Option.none => s
  | some b =>
    if s.cam.lookTick then s.count Reg.CAM_MV_SKIPS 1
    else
      let i := fld (u32 b 8) 16 10
      let bytes := (List.range (lookBytes b)).map (fun k => BitVec.ofNat 8 (Config.freeFn 45 [s.fresh, k]))
      let s := (s.putRegion i 0 bytes).putRegion i (lookBytes b) (frameRecord f 2 (lookW b) (lookH b) 0)
      ({ s with cam.lookValid := true }).tickFresh

/-! ### Presence frames (R320, R321) -/

/-- One pixel of a presence frame: the mean of the non-IR codes >> 8 of its cell. Its rounding is not stated, nor are the edges
of the cells of a frame that does not divide 160 × 120 ways. `code` gives the codes that are taken. -/
def presencePixel (cfg w h key : Nat) (code : Nat → Nat → Nat) (py px : Nat) : Nat :=
  if w % 160 = 0 ∧ h % 120 = 0 then
    let cell := (List.range (h / 120)).flatMap (fun i => (List.range (w / 160)).map (fun j => (py * (h / 120) + i, px * (w / 160) + j)))
    let used := cell.filter (fun q => !(fld cfg 8 2 == 0 && mosaicChannel cfg q.1 q.2 == 3))
    let sum := (used.map (fun q => code q.1 q.2 / 256)).sum
    let n := used.length
    if n = 0 then Config.freeFn 46 [key, py, px] % 256
    else if sum % n = 0 then sum / n
    else sum / n + Config.freeFn 46 [key, py, px] % 2
  else Config.freeFn 46 [key, py, px] % 256

/-- A presence frame written: PCOUNT and FRAME follow it, and its score is due. -/
def State.writePresence (s : State) (f : CamFrame) (rows : List (List Nat)) : State :=
  match s.presenceBlock with
  | Option.none => s
  | some a =>
    let (cfg, size) := s.camConfig f.d0
    let key := s.fresh
    let code (y x : Nat) : Nat := if f.d0 then codeAt cfg rows y x else shadedCode f.params cfg (camW size) key rows y x
    let count := s.rdLE (a + 0x10) 4
    let slot := count % max 1 (fld (s.rdLE a 4) 25 3)
    let px := (List.range 19200).map (fun i =>
      BitVec.ofNat 8 (presencePixel cfg (camW size) (camH size) key code (i / 160) (i % 160)))
    let s := s.wrBytes (a + 256 + slot * 19200) px
    let s := (s.wrLE (a + 0x18) 4 f.frame).wrLE (a + 0x10) 4 (count + 1)
    ({ s with cam.scoreDue := true }).tickFresh

/-! ### The end of a frame (R309) -/

/-- A frame is complete: exactly H lines of exactly W pixels. -/
def completeRows (size : Nat) (rows : List (List Nat)) : Bool :=
  rows.length == camH size && rows.all (fun r => r.length == camW size)

/-- The outputs of a complete frame. -/
def State.deliverFrame (s : State) (f : CamFrame) (rows : List (List Nat)) : State :=
  let s := (s.evt Reg.CAM_EVT 0).writeStats f rows
  let s := ((s.writeOutput f 0).writeOutput f 1).writeLook f
  if f.presence then s.writePresence f rows else s

/-- The last line of the frame in progress has arrived. -/
def State.camFrameEnd (s : State) (rows : List (List Nat)) : State :=
  match s.cam.cur with
  | Option.none => s
  | some f =>
    let s := { s with cam.cur := Option.none }
    if f.d0 then
      if f.presence && completeRows s.cam.d0Cfg.2 rows then s.writePresence f rows else s
    else if completeRows (s.rn Reg.CAM_SIZE) rows then s.deliverFrame f rows
    else s.brokenFrame

/-- CAM_FRAME_END (R309, R313 to R320). -/
def execCamFrameEnd (rows : List (List Nat)) (s : State) : Host.Outcome State Fault Refusal :=
  .next (if s.running 0 then s.camFrameEnd rows else s)

/-! ### Commits (R312, R315) -/

/-- The pre-filter's factor for a PRE code, coded as MV_PRE is (Table 2.17). -/
def preFactor (c : Nat) : Nat := nth 4 [1, 2, 4] c

/-- A mesh: its size, its table, and the sizes of the output and of the pre-filtered source. -/
structure Mesh where
  gx : Nat
  gy : Nat
  bytes : List Byte
  outH : Nat
  srcW : Nat
  srcH : Nat

/-- The source Y of node (i, j), in 1/8 pixels; nodes stand row by row. -/
def Mesh.y (m : Mesh) (i j : Nat) : Nat := fld (u32 m.bytes (4 * (j * m.gx + i))) 16 16
/-- The source X of node (i, j). -/
def Mesh.x (m : Mesh) (i j : Nat) : Nat := fld (u32 m.bytes (4 * (j * m.gx + i))) 0 16
/-- The source Y in node column `i` at output row `r`, times H − 1. -/
def Mesh.rowY (m : Mesh) (i r : Nat) : Nat :=
  let n := max 1 (m.outH - 1)
  let q := r * (m.gy - 1)
  m.y i (q / n) * (n - q % n) + (if q % n = 0 then 0 else m.y i (q / n + 1) * (q % n))
/-- No node lies more than 64 pixels beyond the pre-filtered frame. -/
def Mesh.nodesOk (m : Mesh) : Bool :=
  (List.range m.gy).all (fun j => (List.range m.gx).all (fun i =>
    decide (m.x i j ≤ 8 * (m.srcW + 64)) && decide (m.y i j ≤ 8 * (m.srcH + 64))))
/-- The source rows of output row `r` span at most 96 rows; between node columns they lie between those of the nodes. -/
def Mesh.spanOk (m : Mesh) (r : Nat) : Bool :=
  let ys := (List.range m.gx).map (fun i => m.rowY i r)
  decide (ys.foldl max 0 ≤ ys.foldl min (nth 0 ys 0) + 96 * 8 * max 1 (m.outH - 1))
/-- From output row `r` to the next, no source position moves upward by more than 16 rows. -/
def Mesh.stepOk (m : Mesh) (r : Nat) : Bool :=
  (List.range m.gx).all (fun i => decide (m.rowY i r ≤ m.rowY i (r + 1) + 16 * 8 * max 1 (m.outH - 1)))
/-- The mesh passes R315. -/
def Mesh.ok (m : Mesh) : Bool :=
  decide (2 ≤ m.gx) && decide (m.gx ≤ 65) && decide (2 ≤ m.gy) && decide (m.gy ≤ 65) && m.nodesOk
    && (List.range m.outH).all m.spanOk && (List.range (m.outH - 1)).all m.stepOk

/-- `n` bytes of the table at `a`, read from the DDR5 window of the application OS; bytes that it does not hold are not stated. -/
def State.tableBytes (s : State) (a n : Nat) : List Byte :=
  if regionOf a = .ddr ∧ s.ddrHeld = false ∧ s.windowOk (.app 0) false false a n = true ∧ (s.badIn a n).isEmpty = true then s.rdBytes a n
  else (List.range n).map (fun i => BitVec.ofNat 8 (Config.freeFn 47 [s.fresh, a, i]))

/-- Bytes of table `t` (Table 15.14). -/
def State.tableSize (s : State) (t : Nat) : Nat :=
  match t with
  | 0 => 1768
  | 1 => 2048
  | t => 4 * s.rf (Reg.IPL_MESH_DIM (t - 2)) 0 7 * s.rf (Reg.IPL_MESH_DIM (t - 2)) 8 7

/-- The shadow set and the tables it names, under an ID (R312). -/
def State.shadowSet (s : State) (id : Nat) : ParamSet :=
  { id := id
    defect := s.rn Reg.IPL_DEFECT
    black := (List.range 4).map (fun c => s.rn (Reg.IPL_BLACK c))
    gains := (List.range 4).map (fun c => s.rn (Reg.IPL_WB_GAIN c))
    ccm := (List.range 12).map (fun i => s.rn (Reg.IPL_CCM i))
    tables := (List.range 5).map (fun t => s.tableBytes (s.r64 (Reg.IPL_TABLE_LO t)) (s.tableSize t))
    dims := (List.range 3).map (fun o => s.rn (Reg.IPL_MESH_DIM o)) }

/-- The mesh of output `o` in a parameter set, if the output is in use. -/
def State.meshOf (s : State) (p : ParamSet) (o : Nat) : Option Mesh :=
  let dim := nth 0x202 p.dims o
  let mk (pre outH : Nat) : Mesh :=
    { gx := fld dim 0 7, gy := fld dim 8 7, bytes := nth [] p.tables (2 + o), outH := outH,
      srcW := camW (s.rn Reg.CAM_SIZE) / preFactor pre, srcH := camH (s.rn Reg.CAM_SIZE) / preFactor pre }
  if o = 2 then s.lookParams.map (fun b => mk (fld (u32 b 0x10) 8 2) (lookH b))
  else if s.rb (Reg.CAM_OUT_CFG o) 0 then some (mk (s.rf (Reg.CAM_OUT_CFG o) 8 2) (s.rf (Reg.CAM_OUT_SIZE o) 16 12))
  else Option.none

/-- A commit: the set takes effect at the next VSYNC start, or a mesh fails R315 and nothing is applied (R312). -/
def State.iplCommit (s : State) (kernel : Bool) (v : Nat) : State :=
  let s := s.storeReg kernel Reg.IPL_COMMIT v
  let p := s.shadowSet (v % 65536)
  let s := s.tickFresh
  if (List.range 3).all (fun o => match s.meshOf p o with | some m => m.ok | Option.none => true) then
    { s with cam.commit := some p }
  else s.evt Reg.CAM_EVT 5

/-- IPL_COMMIT (R312). -/
def execIplCommit (init : Initiator) (value : Word) (s : State) : Host.Outcome State Fault Refusal :=
  .next (s.viaWrite init Reg.IPL_COMMIT false (·.iplCommit (decide (init = .kernel)) value.toNat))

/-! ### Presence scores (R323) -/

/-- PRESENT rises (R323). -/
def State.presenceRise (s : State) (wakeTo : Nat) : State :=
  let s := (s.evt Reg.CAM_EVT 4).reportOwn 6 Reg.CAM_EVT 0
  if s.devState = 2 ∨ s.entering 2 = true then
    match wakeTo with
    | 1 => s.wake 2 1
    | 2 => s.wake 2 0
    | _ => s
  else s

/-- A score of the presence network over the last presence frame. -/
def State.presenceScore (s : State) (score : Nat) : State :=
  match s.presenceBlock with
  | Option.none => s
  | some a =>
    let w := s.rdLE a 4
    let hit := decide (fld w 0 8 ≤ score)
    let hits := if hit then s.cam.presHits + 1 else 0
    let misses := if hit then 0 else s.cam.presAbsent + 1
    let was := s.cam.present
    let now := if hit then was || decide (fld w 8 4 ≤ hits) else was && decide (misses < fld w 16 8)
    let s := { s with cam.scoreDue := false, cam.presHits := hits, cam.presAbsent := misses, cam.present := now }
    let s := s.wrLE (a + 0x14) 4 (score % 256 + b2n now * 2 ^ 8 + b2n s.cam.noSignal * 2 ^ 9)
    let s := s.showPresence
    if now && !was then s.presenceRise (fld (s.rdLE (a + 4) 4) 0 2) else s

/-- PRESENCE_SCORE (R323). -/
def execPresenceScore (score : Fin 256) (s : State) : Host.Outcome State Fault Refusal :=
  .next (if s.running 0 && s.cam.presOn && s.cam.scoreDue then s.presenceScore score.val else s)

end Sys2Proof.Machine
end

