-- ==== Sys2Proof/Machine/Samples.lean ====
section
/-! DEFINITION. The sample-set pipeline (chapter 15, R324 to R331, R333). -/
namespace Sys2Proof.Machine
open Sys2Proof

/-! ### Bytes of an object (R324, R331) -/

/-- `n` bytes within one tile of object `k`, read from its copy or its home. -/
def State.objPiece (s : State) (k off n symbols : Nat) : State × Except Nat (List Byte) :=
  let o := s.obj k
  let s := s.countBytes n 0
  if o.host then (s.countBytes 0 n).plainRead (o.hostBase + off) n symbols
  else match s.readTile (if o.place = 1 then .copy k (off / 4096) else .home k (off / 4096)) symbols with
    | (s, .ok p) => (s, .ok ((p.drop (off % 4096)).take n))
    | (s, .error e) => (s, .error e)

/-- `n` bytes of object `k` from `off`, tile by tile; `fuel` bounds the tiles. -/
def State.objRead (k symbols : Nat) : Nat → Nat → Nat → State → State × Except Nat (List Byte)
  | 0, _, _, s => (s, .ok [])
  | fuel + 1, off, n, s =>
    if n = 0 then (s, .ok [])
    else
      let m := min n (4096 - off % 4096)
      match s.objPiece k off m symbols with
      | (s, .error e) => (s, .error e)
      | (s, .ok a) =>
        match State.objRead k 0 fuel (off + m) (n - m) s with
        | (s, .ok b) => (s, .ok (a ++ b))
        | (s, .error e) => (s, .error e)

/-- `n` bytes of object `k` from `off`; none beyond its end. -/
def State.objBytes (s : State) (k off n symbols : Nat) : State × Except Nat (List Byte) :=
  if (s.obj k).tiles * 4096 < off + n then (s, .error 0) else State.objRead k symbols (n / 4096 + 2) off n s

/-- Bytes stored within one tile of object `k`. -/
def State.objStorePiece (s : State) (k off : Nat) (bs : List Byte) : State :=
  let o := s.obj k
  let s := s.countBytes bs.length 0
  if o.host then ((s.countBytes 0 bs.length).plainWrite (o.hostBase + off) bs).1
  else
    let i := off / 4096
    let (s, e) := s.mergeTile (if o.place = 1 then .copy k i else .home k i) (off % 4096) bs 0
    if o.place = 1 ∧ e = Option.none then
      s.modObj k (fun y => { y with dirty := if y.dirty.contains i then y.dirty else y.dirty ++ [i] })
    else s

/-- Bytes stored in object `k` from `off`, tile by tile, none beyond its end. -/
def State.objStore (s : State) (k off : Nat) (bs : List Byte) : State :=
  let bs := bs.take ((s.obj k).tiles * 4096 - off)
  let first := off / 4096
  if bs.isEmpty then s
  else forRange ((off + bs.length - 1) / 4096 + 1 - first) s (fun s j =>
    let lo := max off ((first + j) * 4096)
    let hi := min (off + bs.length) ((first + j + 1) * 4096)
    s.objStorePiece k lo ((bs.drop (lo - off)).take (hi - lo)))

/-! ### The descriptor (Table 15.9) -/

/-- A sample-set descriptor. -/
structure SetDesc where
  n : Nat
  b : Nat
  bf16 : Bool
  planes : Nat
  fillMin : Nat
  outH : Nat
  outW : Nat
  seed : Nat
  epoch : Nat
  cursor : Nat
  batch : Nat
  indexObj : Nat
  dataObj : Nat
  badObj : Nat
  outObj : Nat
  outSlots : Nat
  cacheObj : Nat
  cacheEn : Bool
  deriving DecidableEq, Repr

/-- The descriptor that 128 bytes spell. -/
def setDescOf (b : List Byte) : SetDesc :=
  let w1 := u32 b 4
  { n := fld (u32 b 0) 0 24, b := fld w1 0 11, bf16 := bitOf w1 12, planes := fld w1 16 2, fillMin := fld w1 24 7,
    outH := u16 b 8, outW := u16 b 0xA, seed := u32 b 0xC, epoch := u32 b 0x10, cursor := u32 b 0x14, batch := u32 b 0x18,
    indexObj := fld (u32 b 0x20) 0 12, dataObj := fld (u32 b 0x24) 0 12, badObj := fld (u32 b 0x28) 0 12,
    outObj := fld (u32 b 0x2C) 0 12, outSlots := fld (u32 b 0x2C) 16 5, cacheObj := fld (u32 b 0x30) 0 12,
    cacheEn := bitOf (u32 b 0x30) 31 }

/-- Reserved bits are zero, and every field holds a value of Table 15.9. -/
def setDescOk (b : List Byte) : Bool :=
  let d := setDescOf b
  let w1 := u32 b 4
  fld (u32 b 0) 24 8 == 0 && bitOf w1 11 == false && fld w1 13 3 == 0 && fld w1 18 6 == 0 && bitOf w1 31 == false
    && fld (u32 b 0x20) 12 20 == 0 && fld (u32 b 0x24) 12 20 == 0 && fld (u32 b 0x28) 12 20 == 0
    && fld (u32 b 0x2C) 12 4 == 0 && fld (u32 b 0x2C) 21 11 == 0 && fld (u32 b 0x30) 12 19 == 0 && zeroAt b 0x34 76
    && decide (1 ≤ d.n) && decide (1 ≤ d.b) && decide (d.b ≤ 1024) && (d.planes == 1 || d.planes == 3) && decide (d.fillMin ≤ 100)
    && decide (16 ≤ d.outH) && decide (d.outH ≤ 1024) && decide (16 ≤ d.outW) && decide (d.outW ≤ 1024)
    && decide (2 ≤ d.outSlots) && decide (d.outSlots ≤ 16)

/-- Bytes of one image: planes in the PLANAR layout (R327). -/
def SetDesc.imageBytes (d : SetDesc) : Nat :=
  d.planes * roundUp (d.outH * roundUp (d.outW * (if d.bf16 then 2 else 1)) 16) 128
/-- Bytes of one output slot (R327). -/
def SetDesc.slotBytes (d : SetDesc) : Nat := 128 + roundUp (4 * d.b) 128 + d.b * d.imageBytes

/-- The objects that a descriptor names. -/
def SetDesc.objects (d : SetDesc) : List Nat :=
  [d.indexObj, d.dataObj, d.badObj, d.outObj] ++ (if d.cacheEn then [d.cacheObj] else [])

/-- E (R330): the largest number of entries whose tags and images fit `bytes`. -/
def cacheEntries (bytes image : Nat) : Nat :=
  match ((List.range (bytes / max 1 image + 1)).reverse).find? (fun e => decide (roundUp (4 * e) 4096 + e * image ≤ bytes)) with
  | some e => e
  | Option.none => 0

/-- The object of the descriptor. -/
def State.setDescObj (s : State) (e : Nat) : Nat := s.rf (Reg.IPL_SET_DESC e) 0 12

/-- The descriptor of set `e` read and checked for `owner` (R324, R331): it, or the ERR with which the set disables. -/
def State.readSet (s : State) (e owner : Nat) : State × Except Nat SetDesc :=
  let k := s.setDescObj e
  if !s.hasObj k then (s, .error 1)
  else if (s.obj k).owner ≠ owner then (s, .error 2)
  else if !(s.obj k).host then (s, .error 3)
  else match s.objBytes k 0 128 0 with
    | (s, .error _) => (s, .error 4)
    | (s, .ok b) =>
      let d := setDescOf b
      if !setDescOk b then (s, .error 3)
      else if !(d.objects.all s.hasObj) then (s, .error 1)
      else if !(d.objects.all (fun i => (s.obj i).owner == owner)) then (s, .error 2)
      else if !(s.obj d.indexObj).host || decide ((s.obj d.indexObj).tiles * 4096 < 8 * d.n)
          || decide ((s.obj d.badObj).tiles * 4096 < ceilDiv d.n 8) || decide ((s.obj d.outObj).tiles * 4096 < d.outSlots * d.slotBytes) then
        (s, .error 3)
      else (s, .ok d)

/-! ### The permutation (R325) -/

/-- mix(). -/
def mix32 (x : Nat) : Nat :=
  let x := x ^^^ (x / 2 ^ 16)
  let x := x * 0x7FEB352D % 2 ^ 32
  let x := x ^^^ (x / 2 ^ 15)
  let x := x * 0x846CA68B % 2 ^ 32
  x ^^^ (x / 2 ^ 16)

/-- The width of a number. -/
def bitWidth (v : Nat) : Nat := if v = 0 then 0 else Nat.log2 v + 1

/-- One pass of the four rounds over x with half width `h`. -/
def permRounds (key h x : Nat) : Nat :=
  let m := 2 ^ h
  let (l, r) := (List.range 4).foldl (fun (p : Nat × Nat) k => (p.2, p.1 ^^^ (mix32 (key ^^^ (k * 2 ^ 24) ^^^ p.2) % m))) (x / m, x % m)
  l * m + r

/-- The cycle walk into 0 to n − 1; `fuel` bounds the passes. -/
def permWalk (n key h : Nat) : Nat → Nat → Nat
  | 0, x => x
  | fuel + 1, x =>
    let y := permRounds key h x
    if n ≤ y then permWalk n key h fuel y else y

/-- perm(i, n, seed, epoch). -/
def perm (i n seed epoch : Nat) : Nat :=
  let b := max 2 (bitWidth (n - 1))
  let b := b + b % 2
  permWalk n (mix32 (seed ^^^ mix32 epoch)) (b / 2) (2 ^ b) i

/-! ### JPEG headers (R328, Table 15.10) -/

/-- What a file's header declares: height, width, components, and the rows of an MCU. -/
structure JpegHead where
  h : Nat
  w : Nat
  comps : Nat
  mcuH : Nat
  deriving DecidableEq, Repr

/-- A frame header of baseline sequential DCT, if the decoder supports it. -/
def jpegFrame (b : List Byte) : Option JpegHead :=
  let h := beNat (slice b 1 2)
  let w := beNat (slice b 3 2)
  let n := u8 b 5
  let samp := (List.range n).map (fun i => u8 b (7 + 3 * i))
  let ok := if n = 1 then true
    else n == 3 && nth 0 samp 1 == 0x11 && nth 0 samp 2 == 0x11 && [0x11, 0x21, 0x22, 0x12].contains (nth 0 samp 0)
  if u8 b 0 = 8 ∧ 1 ≤ h ∧ h ≤ 8192 ∧ 1 ≤ w ∧ w ≤ 8192 ∧ ok = true ∧ b.length = 6 + 3 * n then
    some { h := h, w := w, comps := n, mcuH := if n = 1 then 8 else 8 * (nth 0 samp 0 % 16) }
  else Option.none

/-- The marker segments after SOI up to the first scan: the header of a file that the decoder accepts. -/
def jpegSegments : Nat → Option JpegHead → List Byte → Option JpegHead
  | 0, _, _ => Option.none
  | fuel + 1, head, bs =>
    match bs with
    | 0xFF :: 0xFF :: rest => jpegSegments fuel head (0xFF :: rest)
    | 0xFF :: m :: rest =>
      let n := beNat (rest.take 2)
      let body := slice rest 2 (n - 2)
      if n < 2 ∨ rest.length < n then Option.none
      else if m = 0xDA then head
      else if m = 0xC0 then
        match head, jpegFrame body with
        | Option.none, some f => jpegSegments fuel (some f) (rest.drop n)
        | _, _ => Option.none
      else if 0xC1 ≤ m.toNat ∧ m.toNat ≤ 0xCF ∧ m ≠ 0xC4 then Option.none
      else if m.toNat < 0xC0 ∨ (0xD0 ≤ m.toNat ∧ m.toNat ≤ 0xD9) then Option.none
      else jpegSegments fuel head (rest.drop n)
    | _ => Option.none

/-- The header of a file: none for the classes NOT_JPEG, UNSUPPORTED and TOO_LARGE. -/
def jpegHead (bs : List Byte) : Option JpegHead :=
  match bs with
  | 0xFF :: 0xD8 :: rest => jpegSegments bs.length Option.none rest
  | _ => Option.none

/-- How the decode of a sample ends. -/
inductive DecodeEnd where
  | good (partly : Bool)
  | failed
  | unread
  deriving DecidableEq, Repr

/-- The end of a decode (Table 15.10, R329): `rows` MCU rows were decoded completely, and `corrupt` says that a code or a run was
bad. -/
def decodeEnd (d : SetDesc) (file : List Byte) (rows : Nat) (corrupt : Bool) : DecodeEnd :=
  match jpegHead file with
  | Option.none => .failed
  | some f =>
    let claimed := ceilDiv f.h f.mcuH
    if corrupt then .failed
    else if claimed ≤ rows then .good false
    else if d.fillMin * claimed ≤ rows * 100 then .good true
    else .failed

/-! ### Filling a batch (R326, R330) -/

def setDefault : SampleSet := { owner := 0, index := 0 }
/-- Sample set `e` in progress. -/
def State.theSet (s : State) (e : Nat) : SampleSet := tget setDefault s.sets e
/-- Sample set `e` changed by `f`. -/
def State.modSet (s : State) (e : Nat) (f : SampleSet → SampleSet) : State := { s with sets := tmod setDefault s.sets e f }

/-- Set `e` disables with an error that its status shows (R331). -/
def State.failSet (s : State) (e err : Nat) : State := (s.endSet e err).evt Reg.IPL_EVT 2

/-- Whether sample `i` is bad-listed; none where its byte cannot be read. -/
def State.badSample (s : State) (d : SetDesc) (i : Nat) : State × Option Bool :=
  match s.objBytes d.badObj (i / 8) 1 0 with
  | (s, .ok b) => (s, some (bitOf (leNat b) (i % 8)))
  | (s, .error _) => (s, Option.none)

/-- Permutation indices from `i` on whose samples are bad-listed are passed over. -/
def State.skipBad (d : SetDesc) : Nat → Nat → State → State × Option Nat
  | 0, i, s => (s, some i)
  | fuel + 1, i, s =>
    if d.n ≤ i then (s, some i)
    else match s.badSample d (perm i d.n d.seed d.epoch) with
      | (s, Option.none) => (s, Option.none)
      | (s, some true) => State.skipBad d fuel (i + 1) s
      | (s, some false) => (s, some i)

/-- The set looks for its next sample: with a full batch, or when the indices have run out, the batch waits to be written. -/
def State.seekSample (s : State) (e : Nat) (d : SetDesc) : State :=
  if d.b ≤ (s.theSet e).samples.length then s.modSet e (fun x => { x with ready := true })
  else match State.skipBad d (d.n + 1 - (s.theSet e).index) (s.theSet e).index s with
    | (s, Option.none) => s.failSet e 4
    | (s, some i) => s.modSet e (fun x => { x with index := i, ready := decide (d.n ≤ i) })

/-- A sample taken into the batch. -/
def State.takeSample (s : State) (e i : Nat) (image : List Byte) (partly : Bool) : State :=
  s.modSet e (fun x => { x with index := x.index + 1, samples := x.samples ++ [(i, image)], partials := x.partials + b2n partly })

/-- The image that the cache holds of sample `i` (R330). -/
def State.cached (s : State) (d : SetDesc) (i : Nat) : State × Option (List Byte) :=
  let n := if d.cacheEn then cacheEntries ((s.obj d.cacheObj).tiles * 4096) d.imageBytes else 0
  if n = 0 then (s, Option.none)
  else match s.objBytes d.cacheObj (4 * (i % n)) 4 0 with
    | (s, .ok t) =>
      if leNat t = i + 1 then
        match s.objBytes d.cacheObj (roundUp (4 * n) 4096 + i % n * d.imageBytes) d.imageBytes 0 with
        | (s, .ok b) => (s, some b)
        | (s, .error _) => (s, Option.none)
      else (s, Option.none)
    | (s, .error _) => (s, Option.none)

/-- A decoded image written into the cache, then its tag. -/
def State.cacheStore (s : State) (d : SetDesc) (i : Nat) (image : List Byte) : State :=
  let n := if d.cacheEn then cacheEntries ((s.obj d.cacheObj).tiles * 4096) d.imageBytes else 0
  if n = 0 then s
  else (s.objStore d.cacheObj (roundUp (4 * n) 4096 + i % n * d.imageBytes) image).objStore d.cacheObj (4 * (i % n)) (leBytes 4 (i + 1))

/-- A sample fails: its bad-list bit is set unless its bytes could not be read. -/
def State.failSample (s : State) (e : Nat) (d : SetDesc) (i : Nat) (unread : Bool) : State :=
  let s := (s.modSet e (fun x => { x with index := x.index + 1 })).evt Reg.IPL_EVT 3
  if unread then s
  else match s.objBytes d.badObj (i / 8) 1 0 with
    | (s, .ok b) => s.objStore d.badObj (i / 8) (leBytes 1 (setFld (leNat b) (i % 8) 1 1))
    | (s, .error _) => s.failSet e 4

/-- Sample `i` is decoded (R328 to R330). The accuracy of its values is the decoder's and the warper's own. -/
def State.decodeSample (s : State) (e : Nat) (d : SetDesc) (i rows : Nat) (corrupt : Bool) (symbols : Nat) : State :=
  match s.objBytes d.indexObj (8 * i) 8 0 with
  | (s, .error _) => s.failSet e 4
  | (s, .ok x) =>
    let (off, len) := (u32 x 0, u32 x 4)
    if len = 0 ∨ (s.obj d.dataObj).tiles * 4096 < off + len then s.failSample e d i false
    else match s.objBytes d.dataObj off len symbols with
      | (s, .error _) => s.failSample e d i true
      | (s, .ok file) =>
        match decodeEnd d file rows corrupt with
        | .good partly =>
          let image := (List.range d.imageBytes).map (fun k => BitVec.ofNat 8 (Config.freeFn 48 [s.fresh, k]))
          ((s.tickFresh.cacheStore d i image).takeSample e i image partly)
        | _ => s.failSample e d i false

/-- The next sample of set `e`: copied from the cache, decoded, or failed. -/
def State.nextSample (s : State) (e rows : Nat) (corrupt : Bool) (symbols : Nat) : State :=
  let x := s.theSet e
  if x.gone then s.failSet e 5
  else match s.readSet e x.owner with
    | (s, .error err) => s.failSet e err
    | (s, .ok d) =>
      let i := perm x.index d.n d.seed d.epoch
      let s := match s.cached d i with
        | (s, some image) => (s.count (Reg.IPL_SET_HITS e) 1).takeSample e i image false
        | (s, Option.none) => s.decodeSample e d i rows corrupt symbols
      if thas s.sets e then s.seekSample e d else s

/-- SAMPLE_DECODE_DONE (R326, R328 to R330). -/
def execSampleDecodeDone (set : Fin 8) (mcuRows : Nat) (corrupt : Bool) (symbols : Nat) (s : State) :
    Host.Outcome State Fault Refusal :=
  .next (if s.running 8 && thas s.sets set.val && !(s.theSet set.val).ready then s.nextSample set.val mcuRows corrupt symbols else s)

/-! ### Writing a batch (R327) -/

/-- The batch record of 128 bytes. -/
def batchRecord (d : SetDesc) (count partials : Nat) (last : Bool) : List Byte :=
  leBytes 4 d.epoch ++ leBytes 4 d.batch ++ leBytes 4 (count + b2n (decide (count < d.b)) * 2 ^ 16 + b2n last * 2 ^ 17)
    ++ leBytes 4 partials ++ leBytes 4 1 ++ List.replicate 108 0

/-- The bits set in the bad list (Table 15.9). -/
def State.badBits (s : State) (d : SetDesc) : State × Option Nat :=
  match s.objBytes d.badObj 0 (ceilDiv d.n 8) 0 with
  | (s, .ok b) => (s, some (popCount d.n (leNat b)))
  | (s, .error _) => (s, Option.none)

/-- The owner that waits for a batch is woken (R327). -/
def State.wakeOwner (s : State) (c : Nat) : State :=
  let k := s.ctx c
  if (k.state = .blocked ∨ k.state = .swappedBlocked) ∧ k.cause = 2 then (s.wakeCtx c).considerSwaps else s

/-- The set after its batch stands in the slot: the descriptor, the end of the epoch, and the owner's wake. -/
def State.afterBatch (s : State) (e : Nat) (d : SetDesc) (bad index : Nat) (last : Bool) : State :=
  let k := s.setDescObj e
  let cont := s.rb (Reg.IPL_SET_CTRL e) 1
  let owner := (s.theSet e).owner
  let s := s.objStore k 0x1C (leBytes 4 bad)
  let s := if last && cont then (s.objStore k 0x10 (leBytes 4 (d.epoch + 1))).objStore k 0x14 (List.replicate 8 0)
    else s.objStore k 0x14 (leBytes 4 index ++ leBytes 4 (d.batch + 1))
  let s := s.evt Reg.IPL_EVT 0
  let s := if s.rb (Reg.IPL_SET_CTRL e) 3 then s.wakeOwner owner else s
  if last && !cont then ((s.endSet e 0).setRf (Reg.IPL_SET_STATUS e) 1 1 1).evt Reg.IPL_EVT 1
  else
    let d := { d with epoch := if last then (d.epoch + 1) % 2 ^ 32 else d.epoch }
    (s.modSet e (fun x => { owner := x.owner, index := if last then 0 else x.index, gone := x.gone })).seekSample e d

/-- The batch of set `e` written into its slot, when the tenant has made room for it. -/
def State.batchWrite (s : State) (e : Nat) : State :=
  let x := s.theSet e
  if x.gone then s.failSet e 5
  else match s.readSet e x.owner with
    | (s, .error err) => s.failSet e err
    | (s, .ok d) =>
      if (d.batch + 1) % d.outSlots = s.rf (Reg.IPL_SET_ACK e) 0 4 then s
      else match s.badBits d with
        | (s, Option.none) => s.failSet e 4
        | (s, some bad) =>
          let last := decide (d.n ≤ x.index)
          let base := d.batch % d.outSlots * d.slotBytes
          let n := x.samples.length
          let s := s.objStore d.outObj (base + 128) (x.samples.flatMap (fun q => leBytes 4 q.1))
          let s := forRange n s (fun s j =>
            s.objStore d.outObj (base + 128 + roundUp (4 * d.b) 128 + j * d.imageBytes) (nth (0, []) x.samples j).2)
          let s := s.objStore d.outObj base (batchRecord d n x.partials last)
          s.afterBatch e d bad x.index last

/-- BATCH_WRITE (R327). -/
def execBatchWrite (set : Fin 8) (s : State) : Host.Outcome State Fault Refusal :=
  .next (if s.running 8 && thas s.sets set.val && (s.theSet set.val).ready then s.batchWrite set.val else s)

/-! ### Registers (R330, R331, Table 15.15) -/

/-- The tags of the decode cache cleared (R330). -/
def State.clearCache (s : State) (d : SetDesc) : State :=
  if d.cacheEn then
    s.objStore d.cacheObj 0 (List.replicate (4 * cacheEntries ((s.obj d.cacheObj).tiles * 4096) d.imageBytes) 0)
  else s

/-- A set is enabled by a write of its control register. -/
def State.openSet (s : State) (e : Nat) (clear : Bool) : State :=
  let owner := s.rf (Reg.IPL_SET_CTRL e) 16 7
  let k := s.ctx owner
  if !(decide (k.state = .stopped) || decide (k.state = .blocked) || decide (k.state = .ready) || decide (k.state = .running)) then
    s.failSet e 5
  else match s.readSet e owner with
    | (s, .error err) => s.failSet e err
    | (s, .ok d) =>
      let s := s.setReg (Reg.IPL_SET_STATUS e) 1
      let s := if clear then s.clearCache d else s
      ({ s with sets := tput s.sets e { owner := owner, index := d.cursor } }).seekSample e d

/-- A write of IPL_SET_CTRL_s: EN enables or disables the set; CACHE_CLEAR reads 0, and OWNER is taken when EN is written 1 to a
set that is not enabled. -/
def State.writeSetCtrl (s : State) (e : Nat) (kernel : Bool) (v : Nat) : State :=
  let on := thas s.sets e
  let was := s.rf (Reg.IPL_SET_CTRL e) 16 7
  let s := (s.storeReg kernel (Reg.IPL_SET_CTRL e) v).setRf (Reg.IPL_SET_CTRL e) 2 1 0
  if bitOf v 0 then (if on then s.setRf (Reg.IPL_SET_CTRL e) 16 7 was else s.openSet e (bitOf v 2))
  else if on then s.endSet e 0
  else s

/-- SET_ENABLE (R327, R331). -/
def execSetEnable (init : Initiator) (set : Fin 8) (value : Word) (s : State) : Host.Outcome State Fault Refusal :=
  .next (s.viaWrite init (Reg.IPL_SET_CTRL set.val) false (·.writeSetCtrl set.val (decide (init = .kernel)) value.toNat))

/-- IPL_SET_ACK (R327). -/
def execIplSetAck (init : Initiator) (set : Fin 8) (value : Word) (s : State) : Host.Outcome State Fault Refusal :=
  .next (s.viaWrite init (Reg.IPL_SET_ACK set.val) false (·.storeReg (decide (init = .kernel)) (Reg.IPL_SET_ACK set.val) value.toNat))

end Sys2Proof.Machine
end

