-- ==== Sys2Proof/Machine/Tock.lean ====
section
/-! DEFINITION. Tick boundaries and frame starts: what the tick generator, the wake cascade, the band cutter, the looking stream, the
ring and the standing lists do at one (R55 to R64, R257 to R266, R295, R319, R346, R347). -/
namespace Sys2Proof.Machine
open Sys2Proof

/-! ### Results of the ending tick -/

/-- Whether stream `i` started its lists in the ending tick and completed its result (R64). -/
def State.resultOk (s : State) (i : Nat) : Bool := bitOf s.tick.startedStreams i && !s.missing.contains i

/-- The stream of a kind in the current mode. -/
def State.streamId (s : State) (kind : Nat) : Option Nat := (s.thePlan.streamOfKind s.mode.cur kind).map (·.id)

/-- The wake logic's turn (R295, R296). -/
def State.listenBoundary (s : State) : State :=
  if !s.running 0 then s
  else match s.streamId 2 with
    | some i => s.wakeBoundary (bitOf s.tick.startedStreams i) (s.resultOk i)
    | Option.none => s.publish

/-- The payload of a STATUS flit (log entry 29). -/
def statusPayload (chip : Nat) (ok sent : Bool) (key : Nat) : List Byte :=
  leBytes 4 (chip % 4 + b2n ok * 2 ^ 8 + b2n sent * 2 ^ 9) ++ leBytes 4 key

/-- A control flit sent on port `p`. -/
def State.sendControl (s : State) (p type : Nat) (payload : List Byte) : State :=
  s.sendFlit p type { flitZero with plen := payload.length, payload := payload }

/-- The result of the band of the ending tick (R265, R266, R347): whether it completed, and the STATUS flit that says so. -/
def State.bandResult (s : State) : State :=
  match s.pic.tickBand with
  | Option.none => s
  | some key =>
    let ok := !s.pic.covered.contains key && (match s.picStream with | some i => s.resultOk i | Option.none => false)
    let sent := match s.streamId 4 with | some i => s.resultOk i | Option.none => false
    let s := if s.splitPicture && s.portOpen 1 then
        s.sendControl 1 6 (statusPayload s.chipId ok (sent && decide (s.chipId = 0)) key)
      else s
    let s := { s with pic.tickBand := Option.none }
    if ok then
      let s := { s with pic.done := s.pic.done ++ [key], pic.cover := false }
      if (match s.picParams with | some b => picFrc2 b | Option.none => false) then
        if key / 256 % 2 = 0 then { s with pic.feat0 := s.pic.feat0 ++ [key % 256] }
        else { s with pic.feat1 := s.pic.feat1 ++ [key % 256] }
      else s
    else s

/-! ### The band cutter (R258 to R261, R347) -/

/-- Source rows that must have been received before band `b` is released (R260). -/
def bandNeeds (p : List Byte) (b : Nat) : Nat := min ((b + 1) * picR p + picH p) (picDeclH p)

/-- The standing Groves that hold lists of the picture stream in the current mode, ascending. -/
def State.pictureGroves (s : State) : List Nat :=
  match s.picStream with
  | some i => (List.range 16).filter (fun g => decide (s.role g = .standing)
      && s.thePlan.lists.any (fun l => l.stream == i && l.mode == s.mode.cur && l.grove == g))
  | Option.none => []

/-- Whether band `b` of the frame in progress can be released: its rows are in the input ring, or on a device that the ring feeds the
root has said that its input was sent. -/
def State.bandReady (s : State) (p : List Byte) (b : Nat) : Bool :=
  decide (b < picNb p) && s.running 8 && s.running 2 && !s.mode.restart && !s.pwr.critical && decide (s.devState = 0)
    && (if s.fedByRing then s.pic.rootSent.contains (bandKey s.pic.frame b)
        else s.pic.cutting && !s.pic.lost && s.geomMatch && decide (bandNeeds p b ≤ s.pic.rows))

/-- With FRC 2, the release of a frame's band 0 begins the writing of a feature set, whose bits are cleared (R265). -/
def State.beginFeatures (s : State) (p : List Byte) (b : Nat) : State :=
  if !picFrc2 p || b ≠ 0 then s
  else if s.pic.frame % 2 = 0 then { s with pic.feat0 := [] } else { s with pic.feat1 := [] }

/-- Band `b` is released: the Groves of the stream get their slices' origins, and the band is covered where a mode change has
stopped lists of the stream (R50, R260). -/
def State.releaseBand (s : State) (p : List Byte) (b : Nat) : State :=
  let key := bandKey s.pic.frame b
  let gs := s.pictureGroves
  let x := if s.splitPicture then (s.thePlan.columns s.chipId).1 else 0
  let origins := (List.range gs.length).foldl (fun t i =>
    tput t (nth 0 gs i) (b * picR p + i * (picR p / picS p), x)) ([] : Tbl (Nat × Nat))
  let covered := decide (2 ≤ s.mode.step) && gs.any s.mode.changing.contains
  { s with pic.tickBand := some key, pic.nextBand := b + 1, pic.origins := origins, pic.width := picDeclW p, pic.height := picDeclH p,
           pic.covered := if covered then s.pic.covered ++ [key] else s.pic.covered }

/-- At a tick boundary the band cutter releases the next band, or none (R260, R261). -/
def State.cutBand (s : State) : State :=
  match s.picParams with
  | Option.none => { s with pic.origins := [] }
  | some p =>
    if s.bandReady p s.pic.nextBand then (s.beginFeatures p s.pic.nextBand).releaseBand p s.pic.nextBand
    else ({ s with pic.origins := [] }).count Reg.RCMP_IDLE_TICKS 1

/-! ### The looking stream (R319) -/

/-- Whether PRESENT is set, or the plan's GATE is clear. -/
def State.lookGate (s : State) : Bool :=
  s.cam.present || (match s.lookParams with | some b => !bitOf (u32 b 0) 24 | Option.none => true)

/-- At a tick boundary a delivered machine-vision frame is released to the looking stream, or the stream idles. -/
def State.releaseLook (s : State) : State :=
  if (s.streamId 3).isNone then { s with cam.lookTick := false }
  else if s.cam.lookValid && s.lookGate && s.running 2 && !s.mode.restart then
    { s with cam.lookTick := true, cam.lookValid := false }
  else ({ s with cam.lookTick := false }).count Reg.CAM_MV_IDLE 1

/-! ### The ring's tick (R346) -/

/-- The root's output frame start, as an offset from the boundary that begins the tick in progress. -/
def State.outputOffset (s : State) : Nat :=
  let t := s.tick
  if t.period = 0 then 0 else (t.frameStart + s.delayNs + t.period * (t.startNs / t.period + 1) - t.startNs) % t.period

/-- The root of a closed ring announces the tick in progress (R346; log entry 29). -/
def State.announceTick (s : State) : State :=
  if s.chipId = 0 ∧ s.portOpen 1 = true then
    let first := s.tick.locked && s.tick.j == 0
    s.sendControl 1 7 (leBytes 4 (s.rn Reg.TICK_COUNT_LO) ++ leBytes 4 (b2n first + s.pic.frame % 4 * 2 ^ 8 + s.tick.n % 65536 * 2 ^ 16)
      ++ leBytes 4 s.outputOffset)
  else s

/-! ### The boundary -/

/-- What ends with the standing restart (R296, R381, R382). -/
def State.endRestart (s : State) : State :=
  if s.restartEnds then ({ s with mode.restart := false, mode.restartReady := false }).checkStart else s

/-- A tick boundary, `next` beginning the new tick. -/
def State.boundary (s : State) (next : State → State) : State :=
  let s := (s.listenBoundary).bandResult
  let s := (next s.countTick).endRestart
  let s := (s.cutBand).releaseLook
  (s.boundaryLists).announceTick

/-- Whether the tick follows the TICK flits of the root (R346). -/
def State.followsRoot (s : State) : Bool := s.vil.following && decide (s.vil.ring = .closed) && decide (s.chipId ≠ 0)

/-- TICK_BOUNDARY (R60, R61, R63, R64): the tick in progress ends. On a device that follows the root, a TICK flit ends it. -/
def State.tickBoundary (s : State) : State :=
  if !s.running 1 || s.tick.stopped || s.followsRoot then s else s.boundary (fun s => s.beginTick s.tick.endNs)

/-- TICK_BOUNDARY (R63). -/
def execTickBoundary (s : State) : Host.Outcome State Fault Refusal := .next s.tickBoundary

/-! ### Frame starts -/

/-- What the picture path keeps of earlier frames as frame `f` starts. -/
def Picture.forFrame (p : Picture) (f : Nat) : Picture :=
  { p with frame := f, rows := 0, nextBand := 0, done := dropOld f p.done, covered := dropOld f p.covered,
           rootSent := dropOld f p.rootSent,
           peers := tdrop (fun k => !(dropOld f [k % 1024]).contains (k % 1024)) p.peers }

/-- A source frame starts: the band cutter begins at its band 0 (R260, R274). -/
def State.newFrame (s : State) (f : Nat) : State :=
  let s := { s with pic := s.pic.forFrame f }
  if s.pic.mutePending then { s with pic.mutePending := false, pic.firstFrame := f } else s

/-- A frame start of the HDMI input: it ends an input loss, and the frame is cut where the mode accepts its geometry. -/
def State.sourceFrame (s : State) : State :=
  let s := ({ s with pic.lost := false }).putF Reg.VIN_STATUS 12 1 1
  if s.fedByRing then s
  else
    let s := s.newFrame (s.pic.frame + 1)
    { s with pic.cutting := s.mayCut }

/-- HDMI_FRAME_START (R57, R260). -/
def execHdmiFrameStart (atNs : Nat) (s : State) : Host.Outcome State Fault Refusal :=
  .next (if s.running 8 && s.rb Reg.VIN_STATUS 2 then
      (if s.followsRoot then s else s.tickFrameStart atNs).sourceFrame
    else s)

/-- FRAME_START_TIMEOUT (R59). -/
def execFrameStartTimeout (s : State) : Host.Outcome State Fault Refusal :=
  .next (if s.followsRoot then s else s.frameStartTimeout)

/-- ALIVE_TIMER_TOGGLE (R61). -/
def execAliveTimerToggle (s : State) : Host.Outcome State Fault Refusal := .next s.aliveTimerToggle

end Sys2Proof.Machine
end

