-- ==== Sys2Proof/Machine/Vilva.lean ====
section
/-! DEFINITION. Vilva ports: training, the link's retry, ring formation, exchange flits, band status, the common tick and the loss of
a peer (chapter 16, R336 to R348). Flit payloads are laid out as log entry 29 says. -/
namespace Sys2Proof.Machine
open Sys2Proof

/-! ### The link (R336, R337) -/

/-- Port `p` receives: its domain runs and the port is trained. -/
def State.portLive (s : State) (p : Nat) : Bool := s.running (6 + p) && (s.port p).trained

/-- The flits of `us` that remain once `ack` is acknowledged: those after it, or all where it names none of them. -/
def afterAck (ack : Nat) (us : List (Nat × Flit)) : List (Nat × Flit) :=
  if us.any (fun e => e.2.seq == ack) then (us.dropWhile (fun e => e.2.seq != ack)).drop 1 else us

/-- The flits that `ack` acknowledges. -/
def ackedBy (ack : Nat) (us : List (Nat × Flit)) : List (Nat × Flit) := us.take (us.length - (afterAck ack us).length)

/-- An ACK is taken: what it acknowledges is no longer kept, and a write whose tag has become stale is dropped (R345). -/
def State.takeAck (s : State) (p ack : Nat) : State :=
  let us := (s.port p).unacked
  let acked := ackedBy ack us
  let stale := acked.filter (fun e => e.1 == 1 && e.2.last && e.2.gen != (s.dom 2).tag)
  let s := s.modPort p (fun x => { x with unacked := afterAck ack us, replays := if acked.isEmpty then x.replays else 0 })
  if stale.isEmpty then s else (s.count (Reg.VIL_DROPPED p) stale.length).count (Reg.LKT_DROPPED 2) stale.length

/-- Link failure (R337): the port's domain is reset. -/
def State.linkFailure (s : State) (p : Nat) : State := (s.evt (Reg.VIL_EVT p) 1).requestReset (6 + p) { requester := 3 }

/-- The flits kept are sent again, the oldest for the eighth time at most (R337). -/
def State.replay (s : State) (p : Nat) : State :=
  let x := s.port p
  let n := x.unacked.length
  if n = 0 then s
  else if 8 ≤ x.replays then s.linkFailure p
  else
    let s := s.modPort p (fun y => { y with replays := y.replays + 1 })
    let s := x.unacked.foldl (fun s e => s.logFlit p e.1 { e.2 with ack := x.rxSeq }) s
    let s := (s.count (Reg.VIL_REPLAYS p) n).evt (Reg.VIL_EVT p) 6
    if s.blockLive (0x28 + p) then s.incR64 (Reg.VIL_TX_FLITS_LO p) n else s

/-- A good flit counted, and its ACK and NAK taken. -/
def State.goodFlit (s : State) (p : Nat) (f : Flit) : State :=
  let s := if s.blockLive (0x28 + p) then s.incR64 (Reg.VIL_RX_FLITS_LO p) 1 else s
  let s := s.takeAck p f.ack
  if f.nak then s.replay p else s

/-- A flit that is not the next in order, or whose CRC is bad, is discarded and answered with NAK (R337). -/
def State.refuseFlit (s : State) (p : Nat) : State := s.sendIdle p true

/-- A numbered flit received on port `p`: accepted in order, `eff` being its effect, and then acknowledged (R337). -/
def State.receive (s : State) (p : Nat) (f : Flit) (eff : State → State) : State :=
  if !s.portLive p then s
  else if f.seq % 4096 ≠ ((s.port p).rxSeq + 1) % 4096 then s.refuseFlit p
  else
    let s := s.modPort p (fun x => { x with rxSeq := f.seq % 4096 })
    (eff (s.goodFlit p f)).sendIdle p false

/-- IDLE (R336). -/
def execFlitIdle (p : Fin 2) (flit : Flit) (s : State) : Host.Outcome State Fault Refusal :=
  .next (if s.portLive p.val then s.goodFlit p.val flit else s)

/-- BAD_FLIT (R337): a bad CRC, or a good one out of order. -/
def execBadFlit (p : Fin 2) (goodCrc : Bool) (_flit : Flit) (s : State) : Host.Outcome State Fault Refusal :=
  .next (if s.portLive p.val then (if goodCrc then s else s.count (Reg.VIL_CRC_ERRORS p.val) 1).refuseFlit p.val else s)

/-- A flit discarded after it was acknowledged. -/
def State.discardFlit (s : State) (p : Nat) : State := s.count (Reg.VIL_DISCARDS p) 1

/-- RESERVED_FLIT (R336). -/
def execReservedFlit (p : Fin 2) (_type : Nat) (flit : Flit) (s : State) : Host.Outcome State Fault Refusal :=
  .next (s.receive p.val flit (·.discardFlit p.val))

/-- REPLAY_TIMEOUT (R337): 4 µs without an acknowledgement. -/
def execReplayTimeout (p : Fin 2) (s : State) : Host.Outcome State Fault Refusal :=
  .next (if s.portLive p.val then s.replay p.val else s)

/-! ### Ring formation (R338 to R340) -/

/-- The plan whose ROLE section forms the ring: the admitted one, also before it replaces the ROM plan. -/
def State.ringPlan (s : State) : Plan := s.plan.next.getD s.thePlan

/-- Whether the ring is being formed and RING_WAIT_MS runs. -/
def State.ringForming (s : State) : Bool := s.running 1 && decide (s.vil.ring = .forming) && s.vil.waiting

/-- The payload of a HELLO flit: CHIP_ID, PART_NUMBER, SILICON_REV and the plan digest (Table 16.2). -/
def State.helloPayload (s : State) : List Byte :=
  leBytes 4 s.chipId ++ leBytes 4 0x7140 ++ leBytes 4 0x4101 ++ padTo 0 48 s.ringPlan.digest

/-- An attempt to train port `p` ends. -/
def State.trainPort (s : State) (p : Nat) (ok : Bool) : State :=
  let s := s.modPort p (fun x => { x with trained := ok, attempts := x.attempts + 1 })
  (if ok then s.sendControl p 4 s.helloPayload else s).showPorts

/-- PORT_TRAINING (R338, Table 16.3): the first attempt on a port, port 0 first. -/
def execPortTraining (p : Fin 2) (ok : Bool) (s : State) : Host.Outcome State Fault Refusal :=
  .next (if s.ringForming && s.running (6 + p.val) && (s.port p.val).attempts == 0 && (p.val == 0 || decide (1 ≤ (s.port 0).attempts)) then
      s.trainPort p.val ok
    else s)

/-- PORT_TRAIN_RETRY (R338): every 20 ms while RING_WAIT_MS runs. -/
def execPortTrainRetry (p : Fin 2) (ok : Bool) (s : State) : Host.Outcome State Fault Refusal :=
  .next (if s.ringForming && s.running (6 + p.val) && decide (1 ≤ (s.port p.val).attempts) && !(s.port p.val).trained then
      s.trainPort p.val ok
    else s)

/-- RING_WAIT_EXPIRY (R340). -/
def execRingWaitExpiry (s : State) : Host.Outcome State Fault Refusal :=
  .next (if s.ringForming then ({ s with vil.waiting := false }).goSolo else s)

/-- Why a HELLO holds its port (R339): `c`, `part` and `digest` are what it shows. -/
def State.helloBad (s : State) (p c part : Nat) (digest : List Byte) : Bool :=
  let plan := s.ringPlan
  let n := max 1 plan.devices
  part != 0x7140 || digest != padTo 0 48 plan.digest || c == s.chipId || (plan.roleRecord c).isNone
    || c != (if p = 0 then (s.chipId + n - 1) % n else (s.chipId + 1) % n)

/-- The payload of a RING flit: its close flag, its count, and the entries (Table 16.2). -/
def ringPayload (close : Bool) (es : List (List Byte)) : List Byte :=
  leBytes 4 (b2n close) ++ leBytes 4 es.length ++ es.flatMap (padTo 0 32)
def ringClose (f : Flit) : Bool := bitOf (u32 f.payload 0) 0
def ringEntries (f : Flit) : List (List Byte) := (List.range (min 4 (u32 f.payload 4))).map (fun i => slice f.payload (8 + 32 * i) 32)
/-- CHIP_ID of an entry (Table 16.6). -/
def entryChip (e : List Byte) : Nat := fld (u32 e 0) 0 2

/-- The token goes out of port 1 with this device's entry, now or once port 1 is up (Table 16.3, step 4). -/
def State.passToken (s : State) : State :=
  match s.vil.token with
  | some f =>
    if (s.port 1).up then
      ({ s with vil.token := Option.none }).sendControl 1 5 (ringPayload false (ringEntries f ++ [s.ownEntry s.ringPlan]))
    else s
  | Option.none => s

/-- The root starts the token once both its ports are up. -/
def State.startToken (s : State) : State :=
  if s.chipId = 0 ∧ (s.port 0).up = true ∧ (s.port 1).up = true then
    s.sendControl 1 5 (ringPayload false [s.ownEntry s.ringPlan])
  else s

/-- A HELLO received on port `p` (R339): the port is up, or held. -/
def State.hello (s : State) (p : Nat) (f : Flit) : State :=
  let x := s.port p
  if !s.ringForming || x.up || x.held then s
  else
    let c := u32 f.payload 0
    let s := s.put (Reg.VIL_PEER p) (c % 4 + 2 ^ 8)
    if s.helloBad p c (u32 f.payload 4) (slice f.payload 12 48) then
      (((s.modPort p (fun y => { y with held := true, peerHello := true })).evt (Reg.VIL_EVT p) 2).endPortXfers p).showPorts
    else
      let s := (s.modPort p (fun y => { y with up := true, peerHello := true })).evt (Reg.VIL_EVT p) 0
      ((s.showPorts).startToken).passToken

/-- HELLO (R339). -/
def execFlitHello (p : Fin 2) (flit : Flit) (s : State) : Host.Outcome State Fault Refusal :=
  .next (s.receive p.val flit (·.hello p.val flit))

/-- The entry of each CHIP_ID in turn. -/
def orderEntries (es : List (List Byte)) : List (List Byte) :=
  (List.range es.length).map (fun d => (es.find? (fun e => entryChip e == d)).getD [])

/-- Whether the token carries exactly the CHIP_IDs of the ROLE section, each once (R339). -/
def State.tokenFull (s : State) (es : List (List Byte)) : Bool :=
  es.length == s.ringPlan.devices && (List.range es.length).all (fun d => (es.filter (fun e => entryChip e == d)).length == 1)
    && es.all (fun e => (s.ringPlan.roleRecord (entryChip e)).isSome)

/-- CLOSE reaches the device (R339): the capability table is written and the ring is closed. The hop delays are the links' own. -/
def State.closeRing (s : State) (es : List (List Byte)) : State :=
  let s := s.capRing (orderEntries es)
  let s := { s with vil.ring := .closed, vil.waiting := false, vil.token := Option.none }
  let s := (s.put (Reg.VIL_HOP_NS 0) (s.freeVal 51 % 1500)).put (Reg.VIL_HOP_NS 1) (s.freeVal 52 % 1500)
  ((s.tickFresh).evt (Reg.VIL_EVT 0) 4).showPorts

/-- A RING flit received on port 0 of a device whose ring is forming. -/
def State.ringFlit (s : State) (p : Nat) (f : Flit) : State :=
  if p ≠ 0 ∨ s.ringForming = false then s
  else
    let es := ringEntries f
    if ringClose f then
      let s := s.closeRing es
      if s.chipId = 0 then s else s.sendControl 1 5 (ringPayload true es)
    else if s.chipId = 0 then
      (if s.tokenFull es then s.sendControl 1 5 (ringPayload true es) else s)
    else ({ s with vil.token := some f }).passToken

/-- RING (R339). -/
def execFlitRing (p : Fin 2) (flit : Flit) (s : State) : Host.Outcome State Fault Refusal :=
  .next (s.receive p.val flit (·.ringFlit p.val flit))

/-! ### Exchange flits (R342, R344, R345) -/

/-- The Canopy bytes that an exchange flit names, `n` of them: none where the plan does not give BUF to STREAM, or the port carries
no transfers. -/
def State.exchangeAt (s : State) (p : Nat) (f : Flit) (n : Nat) : Option Nat :=
  if !s.portOpen p then Option.none
  else match s.thePlan.bandBuffer f.buf with
    | some r => if r.stream = f.stream ∧ 2 * f.offset + n ≤ r.bytes then some (canopyBase + r.offset + 2 * f.offset) else Option.none
    | Option.none => Option.none

/-- A WRITE is stored in the neighbour's band buffer, or discarded. -/
def State.storeFlit (s : State) (p : Nat) (f : Flit) : State :=
  let bs := f.payload.take f.plen
  if !s.running 1 then s.discardFlit p
  else match s.exchangeAt p f bs.length with
    | some a => (s.plainWrite a bs).1
    | Option.none => s.discardFlit p

/-- WRITE (R344). -/
def execFlitWrite (p : Fin 2) (flit : Flit) (s : State) : Host.Outcome State Fault Refusal :=
  .next (s.receive p.val flit (·.storeFlit p.val flit))

/-- READ_DATA in answer to a READ_REQ, echoing its XID and GEN. -/
def State.replyData (s : State) (p : Nat) (f : Flit) (bs : List Byte) : State :=
  s.sendFlit p 3 { flitZero with stream := f.stream, last := f.last, xid := f.xid, gen := f.gen, buf := f.buf, offset := f.offset,
                                 plen := bs.length, payload := bs }

/-- A READ_REQ is answered: zeros while D1 is in reset (R342). What an uncorrectable line answers is not stated. -/
def State.answerRead (s : State) (p : Nat) (f : Flit) : State :=
  let n := f.plen
  if !s.running 1 then s.replyData p f (List.replicate n 0)
  else match s.exchangeAt p f n with
    | some a =>
      match s.plainRead a n 0 with
      | (s, .ok bs) => s.replyData p f bs
      | (s, .error _) => s.tickFresh.replyData p f ((List.range n).map (fun i => BitVec.ofNat 8 (Config.freeFn 49 [s.fresh, i])))
    | Option.none => s.discardFlit p

/-- READ_REQ (R344). -/
def execFlitReadReq (p : Fin 2) (flit : Flit) (s : State) : Host.Outcome State Fault Refusal :=
  .next (s.receive p.val flit (·.answerRead p.val flit))

/-- The transfer in flight that READ_DATA on port `p` answers. -/
def State.readFor (s : State) (p : Nat) (f : Flit) : Option Nat :=
  (s.dma.xfers.find? (fun t =>
    let d := descOf t.2.desc
    t.2.owner == .stream f.stream && t.2.xid == f.xid && d.port == some p && !d.isStore && t.2.tag == f.gen)).map (·.1)

/-- READ_DATA is stored, and its LAST completes the read; data whose GEN no longer matches is dropped (R345). -/
def State.takeData (s : State) (p : Nat) (f : Flit) : State :=
  match s.readFor p f with
  | some t =>
    let x := s.xfer t
    if s.stale x then (s.count (Reg.VIL_DROPPED p) 1).count (Reg.LKT_DROPPED 2) 1
    else
      let s := s.deliver x (2 * f.offset - (descOf x.desc).remoteStart) (f.payload.take f.plen)
      if f.last then s.modXfer t (fun y => { y with ended := true }) else s
  | Option.none => s.count (Reg.VIL_DROPPED p) 1

/-- READ_DATA (R345). -/
def execFlitReadData (p : Fin 2) (flit : Flit) (s : State) : Host.Outcome State Fault Refusal :=
  .next (s.receive p.val flit (·.takeData p.val flit))

/-! ### Band status (R347) -/

/-- Whether a flit that a device sent out of its port 1 goes on from this device: it is forwarded n − 1 hops in all. -/
def State.forwards (s : State) (origin : Nat) : Bool :=
  s.portLive 1 && (s.port 1).up && decide ((s.chipId + 1) % max 1 s.ringPlan.devices ≠ origin) && decide (origin ≠ s.chipId)

/-- A STATUS flit: what the peer's part of a band came to, whether the root has sent the band's input, and the flit forwarded. -/
def State.bandStatus (s : State) (p : Nat) (f : Flit) : State :=
  if p ≠ 0 ∨ s.vil.ring ≠ .closed then s.discardFlit p
  else
    let w := u32 f.payload 0
    let key := u32 f.payload 4 % 1024
    let origin := fld w 0 2
    let s := { s with pic.peers := tput s.pic.peers (origin * 1024 + key) (bitOf w 8) }
    let s := if bitOf w 9 && origin == 0 then { s with pic.rootSent := s.pic.rootSent ++ [key] } else s
    if s.forwards origin then s.sendControl 1 6 f.payload else s

/-- STATUS (R347). -/
def execFlitStatus (p : Fin 2) (flit : Flit) (s : State) : Host.Outcome State Fault Refusal :=
  .next (s.receive p.val flit (·.bandStatus p.val flit))

/-! ### The common tick (R346) -/

/-- The tick that a TICK flit begins: `first` says that it is tick 0 of an input frame, and `n` is the root's N. Its scheduled end
is that of a free tick. -/
def State.beginFollowed (s : State) (first : Bool) (n : Nat) : State :=
  let t := s.tick
  let slot := if t.slotZero || first then 0 else (t.slot + 1) % max 1 s.theMode.period
  let s := { s with tick.slotZero := false, tick.locked := decide (n ≠ 0), tick.n := n, tick.predicted := Option.none }
  let s := { s with tick.j := if first then 0 else t.j + 1, tick.slot := slot, tick.startNs := t.endNs }
  ({ s with tick.endNs := t.endNs + freeTickNs s.freeRate s.theMode, tick.frameTick := false }).showTick

/-- The frame that follows frame `f` and has a number of this remainder modulo 4. -/
def frameLike (f code : Nat) : Nat := f + 1 + (code + 4 - (f + 1) % 4) % 4

/-- A device that follows the root begins its own tick when the flit arrives. -/
def State.followTick (s : State) (f : Flit) : State :=
  let w := u32 f.payload 4
  let first := bitOf w 0
  if !s.running 1 || s.tick.stopped then s
  else
    let s := { s with vil.following := true }
    let s := if first && s.fedByRing then
        { (s.newFrame (frameLike s.pic.frame (fld w 8 2))) with pic.lost := false } else s
    s.boundary (fun s => s.beginFollowed first (fld w 16 16))

/-- A TICK flit: forwarded, and followed by every device but the root. -/
def State.tickFlit (s : State) (p : Nat) (f : Flit) : State :=
  if p ≠ 0 ∨ s.vil.ring ≠ .closed ∨ s.chipId = 0 then s.discardFlit p
  else
    let s := if s.forwards 0 then s.sendControl 1 7 f.payload else s
    s.followTick f

/-- TICK (R346). -/
def execFlitTick (p : Fin 2) (flit : Flit) (s : State) : Host.Outcome State Fault Refusal :=
  .next (s.receive p.val flit (·.tickFlit p.val flit))

/-- TICK_FLIT_TIMEOUT (R346): the device runs free from that moment. -/
def State.loseRootTick (s : State) : State :=
  if s.running 1 && !s.tick.stopped && s.followsRoot then
    (({ s with vil.following := false }).endLock).boundary (fun s => s.beginTick s.tick.endNs)
  else s

/-- TICK_FLIT_TIMEOUT (R346). -/
def execTickFlitTimeout (s : State) : Host.Outcome State Fault Refusal := .next s.loseRootTick

/-! ### Peer loss (R348, R371) -/

/-- Whether port `p` has a peer to lose: in a closed ring, or once it was trained. -/
def State.peerDue (s : State) (p : Nat) : Bool :=
  s.running 1 && s.running (6 + p) && (decide (s.vil.ring = .closed) || (s.port p).trained)

/-- Port `p` has lost its peer: its domain is reset and the ring is broken. -/
def State.losePeer (s : State) (p : Nat) : State :=
  let s := (s.lookout 5 (6 + p)).evt (Reg.VIL_EVT p) 3
  let s := s.report 0x0701 (0x28 + p) [p, s.rn (Reg.VIL_STATUS p)]
  (s.requestReset (6 + p) { requester := 2, lktCode := 5 }).breakRing

/-- PEER_TIMEOUT (R348). -/
def execPeerTimeout (p : Fin 2) (s : State) : Host.Outcome State Fault Refusal :=
  .next (if s.peerDue p.val then s.losePeer p.val else s)

end Sys2Proof.Machine
end

