-- ==== Sys2Proof/Machine/Events.lean ====
section
/-! DEFINITION. The event recorder's commands: records, summaries and readout (chapter 20, R411 to R418). -/
namespace Sys2Proof.Machine
open Sys2Proof

/-- EVENT_RECORD (R411): a block reports an event; 0x0000 is never a code. -/
def execEventRecord (event : EventReport) (s : State) : Host.Outcome State Fault Refusal :=
  .next (if !s.running 0 || event.code % 65536 == 0 then s
    else s.report (event.code % 65536) (event.src % 256) (event.args.map (· % 2 ^ 32)) (event.ctx.map (·.val)) (event.stream.map (·.val)))

/-- The summary of a code that was suppressed in the window that ends (R415). -/
def RateEntry.summary (e : RateEntry) : Record :=
  { e.first with summary := true, args := [e.suppressed % 2 ^ 32, e.firstTime, e.lastTime, 0] }

/-- The window ends: one summary for each code suppressed in it. -/
def State.endWindow (s : State) : State :=
  let es := s.evr.rates.filter (fun e => decide (0 < e.suppressed))
  let s := { s with evr.rates := [] }
  es.foldl (fun s e => (s.number e.summary).setRb Reg.EVR_EVT 3 true) s

/-- RATE_WINDOW_END (R415). -/
def execRateWindowEnd (s : State) : Host.Outcome State Fault Refusal := .next (if s.running 0 then s.endWindow else s)

/-- The eight words of a record (Table 20.1). -/
def Record.words (r : Record) : List Nat :=
  [r.seq, r.time, r.code + r.src * 2 ^ 16 + b2n r.summary * 2 ^ 24,
   r.gen + r.domain * 2 ^ 12 + (match r.ctx with | some c => c * 2 ^ 16 + 2 ^ 23 | Option.none => 0)
     + (match r.stream with | some i => i * 2 ^ 24 + 2 ^ 29 | Option.none => 0)] ++ padTo 0 4 r.args

/-- The words of a slot: zero where it names none or nothing was written (R413, R414, R417). -/
def State.slotWords (s : State) (first : Bool) (slot : Nat) : List Nat :=
  match (if first then (if slot < 256 then tfind s.evr.first slot else Option.none) else tfind s.evr.last slot) with
  | some r => r.words
  | Option.none => List.replicate 8 0

/-- A write of EVR_SEL_p copies the slot it selects. -/
def State.writeSel (s : State) (p : Nat) (kernel : Bool) (v : Nat) : State :=
  let s := s.storeReg kernel (Reg.EVR_SEL p) v
  let ws := s.slotWords (s.rb (Reg.EVR_SEL p) 16) (s.rf (Reg.EVR_SEL p) 0 10)
  forRange 8 s (fun s i => s.put (Reg.EVR_DATA p i) (nth 0 ws i))

/-- EVR_SEL (R417). -/
def execEvrSel (init : Initiator) (port : Fin 2) (value : Word) (s : State) : Host.Outcome State Fault Refusal :=
  .next (s.viaWrite init (Reg.EVR_SEL port.val) false (·.writeSel port.val (decide (init = .kernel)) value.toNat))

end Sys2Proof.Machine
end

