-- ==== Sys2Proof/Machine/Mailbox.lean ====
section
/-! DEFINITION. The kernel mailboxes and the services of Table 19.2 but for updates (chapter 19, R391 to R404; R65, R76, R191, R313,
R374, R386, R434). The arguments of a request stand one word each in the order of Table 19.2, an address as two words, the low half
first (log entry 28). -/
namespace Sys2Proof.Machine
open Sys2Proof

/-! ### Requests and responses (R391, R392) -/

/-- How a service ends: STATUS of Table 19.3 and the result words. -/
structure Reply where
  state : State
  status : Nat
  result : List Nat := []

def replyOk (s : State) (result : List Nat := []) : Reply := { state := s, status := 0, result := result }
def replyFail (s : State) (status : Nat) : Reply := { state := s, status := status }
/-- The first failing check's STATUS ends the service; else `run` gives the reply. -/
def replyIf (s : State) (checks : List (Bool × Nat)) (run : Reply) : Reply :=
  match checks.find? (fun c => !c.1) with
  | some c => replyFail s c.2
  | Option.none => run

/-- The services of Tables 19.2 and 21.5: OP, the mailboxes open to it as a mask, and the argument words it needs. -/
def mbxOps : List (Nat × Nat × Nat) :=
  [(0x01, 1, 8), (0x02, 1, 1), (0x03, 1, 2), (0x04, 1, 4), (0x05, 1, 1), (0x06, 1, 6), (0x07, 1, 16), (0x08, 1, 1), (0x09, 1, 2),
   (0x0A, 1, 1), (0x0B, 2, 4), (0x0C, 3, 11), (0x0D, 3, 2), (0x0E, 1, 7), (0x20, 1, 2), (0x21, 1, 4), (0x22, 1, 12), (0x23, 1, 1),
   (0x24, 1, 0), (0x25, 1, 0), (0x26, 1, 4), (0x27, 1, 4)]

/-- The row of an OP. -/
def mbxOp (op : Nat) : Option (Nat × Nat × Nat) := mbxOps.find? (fun r => r.1 == op)

/-- OP, LEN and TAG of the request in mailbox `b`. -/
def State.mbxOpCode (s : State) (b : Nat) : Nat := s.rf (Reg.MBX_REQ b 0) 0 16
def State.mbxLen (s : State) (b : Nat) : Nat := s.rf (Reg.MBX_REQ b 0) 16 8
def State.mbxTag (s : State) (b : Nat) : Nat := s.rf (Reg.MBX_REQ b 0) 24 8
/-- Argument word `i` of the request in mailbox `b`. -/
def State.mbxArg (s : State) (b i : Nat) : Nat := s.rn (Reg.MBX_REQ b i)
def State.mbxBusy (s : State) (b : Nat) : Bool := s.rb (Reg.MBX_STATUS b) 0

/-- A response written to mailbox `b`: the whole of it, then DONE (R391). -/
def Reply.respond (r : Reply) (b tag : Nat) : State :=
  let t := r.state
  let t := forRange r.result.length t (fun t i => t.put (Reg.MBX_RSP b (1 + i)) (nth 0 r.result i))
  let t := t.put (Reg.MBX_RSP b 0) (r.status + r.result.length % 256 * 2 ^ 16 + tag * 2 ^ 24)
  let t := t.put (Reg.MBX_STATUS b) 2
  { t with sec.lastTaken := b }

/-- Whether the kernel takes the request of mailbox `b` now: D1 runs, a request waits, and it is the mailbox's turn (R392). -/
def State.mbxDue (s : State) (b : Nat) : Bool :=
  s.running 1 && s.mbxBusy b && !(s.mbxBusy (1 - b) && s.sec.lastTaken == b)

/-- Service `op` on mailbox `b`: the kernel takes the request and runs it (R391, R392). A request whose OP has become one that
Table 19.2 does not hold is answered OP_BAD. -/
def State.serve (s : State) (b op : Nat) (run : State → Reply) : State :=
  if !s.mbxDue b then s
  else
    let have_ := s.mbxOpCode b
    match mbxOp have_ with
    | Option.none => (replyFail s 0x01).respond b (s.mbxTag b)
    | some (_, boxes, need) =>
      if have_ ≠ op then s
      else if bitOf boxes b = false then (replyFail s 0x02).respond b (s.mbxTag b)
      else if s.mbxLen b < need ∨ 63 < s.mbxLen b then (replyFail s 0x01).respond b (s.mbxTag b)
      else (run s).respond b (s.mbxTag b)

/-- A write of MBX_DOORBELL_b: it submits the request, or finds one pending; an unknown OP is answered at once. -/
def State.mbxDoorbell (s : State) (b : Nat) : State :=
  if s.mbxBusy b then s.evt Reg.SEC_EVT 0
  else if (mbxOp (s.mbxOpCode b)).isNone then (replyFail s 0x01).respond b (s.mbxTag b)
  else s.put (Reg.MBX_STATUS b) 1

/-- MBX_DOORBELL (R391). -/
def execMbxDoorbell (b : Fin 2) (init : Initiator) (_value : Word) (s : State) : Host.Outcome State Fault Refusal :=
  .next (s.viaWrite init (Reg.MBX_DOORBELL b.val) false (·.mbxDoorbell b.val))

/-! ### Contexts (R65, R397) -/

/-- Whether a Grove of a mask is open in no mode of the plan. -/
def Plan.neverOpen (p : Plan) (mask : Nat) : Bool :=
  (bitsOf 16 mask).any (fun g => p.modes.all (fun m => decide (m.role g ≠ .open)))

/-- The tenant slot record of a context, an empty one where there is none. -/
def Plan.slotOf (p : Plan) (c : Nat) : List Byte := (p.tenant c).getD []
/-- PRIO_CEIL, SEAL and MAX_SRAM_KIB of a tenant slot record (Table 19.6). -/
def tenantCeil (r : List Byte) : Nat := fld (u32 r 0) 12 3
def tenantSeal (r : List Byte) : Bool := bitOf (u32 r 0) 17
def tenantMaxKib (r : List Byte) : Nat := u32 r 8 % 65536

/-- Whether context `c` has a record whose entry is not FREE. -/
def State.hasCtx (s : State) (c : Nat) : Bool := (s.thePlan.tenant c).isSome && decide ((s.ctx c).state ≠ .free)

/-- The entry that a start writes (Table 3.3, Table 3.4): HEAD and TAIL begin at 0. -/
def Ctx.start (k : Ctx) (base order kib mask prio quantum : Nat) : Ctx :=
  { k with state := .swappedBlocked, cause := 0, resident := false, stopReq := false, waitMask := 0, ranCycles := 0,
           ringBase := base, ringOrder := order, head := 0, tail := 0, sramKib := kib, mask := mask, prio := prio,
           quantumUs := quantum, image := [], dirty := [] }

/-- A fresh sealing key for a context whose slot has SEAL (R404). -/
def State.makeSealKey (s : State) (c : Nat) : State :=
  if tenantSeal (s.thePlan.slotOf c) then
    ({ s with sec.sealKeys := tput s.sec.sealKeys c (leNat ((List.range 64).map (Config.randomByte s.fresh))) }).tickFresh
  else s

/-- CTX_START (R65, R397, R219, R404). -/
def State.ctxStart (b : Nat) (s : State) : Reply :=
  let a := s.mbxArg b
  let c := a 1
  let base := a 2 + 2 ^ 32 * a 3
  let (order, kib, mask, prio, quantum) := (a 4, a 5, a 6, a 7, a 8)
  let rec_ := s.thePlan.slotOf c
  replyIf s
    [(decide (c < 128) && decide (4 ≤ order) && decide (order ≤ 16) && decide (64 ≤ kib) && decide (kib ≤ 2048) && kib % 64 == 0
        && decide (mask < 65536) && decide (prio ≤ 7) && decide (10 ≤ quantum) && decide (quantum ≤ 10000) && base % 4096 == 0, 0x03),
     (s.hasCtx c, 0x04),
     (decide ((s.ctx c).state = .stopped), 0x0B),
     (decide (tenantCeil rec_ ≤ prio) && decide (kib ≤ tenantMaxKib rec_) && !s.thePlan.neverOpen mask, 0x05)]
    (if s.ddrFits c (kib / 4) then
      let s := s.makeSealKey c
      let s := { s with sec.packages := tdel s.sec.packages c }
      replyOk (s.modCtx c (fun k => k.start base order kib mask prio quantum))
    else replyFail (s.reportOwn 2 Reg.MODE_EVT 4 (some c)) 0x07)

/-- CTX_START (R397). -/
def execCtxStart (b : Fin 2) (s : State) : Host.Outcome State Fault Refusal := .next (s.serve b.val 0x01 (State.ctxStart b.val))

/-- CTX_STOP (R65): the stop takes effect at the context's next tile boundary. -/
def State.ctxStop (b : Nat) (s : State) : Reply :=
  let c := s.mbxArg b 1
  replyIf s [(decide (c < 128), 0x03), (s.hasCtx c, 0x04), (decide ((s.ctx c).state ≠ .stopped), 0x0B)]
    (replyOk (s.stopCtx c).considerSwaps)

/-- CTX_STOP (R65). -/
def execCtxStop (b : Fin 2) (s : State) : Host.Outcome State Fault Refusal := .next (s.serve b.val 0x02 (State.ctxStop b.val))

/-- CTX_PRIO (R65): one numerically below the ceiling is refused. -/
def State.ctxPrio (b : Nat) (s : State) : Reply :=
  let c := s.mbxArg b 1
  let p := s.mbxArg b 2
  replyIf s [(decide (c < 128) && decide (p ≤ 7), 0x03), (s.hasCtx c, 0x04), (decide (tenantCeil (s.thePlan.slotOf c) ≤ p), 0x05)]
    (replyOk (s.modCtx c (fun k => { k with prio := p })).considerSwaps)

/-- CTX_PRIO (R65). -/
def execCtxPrio (b : Fin 2) (s : State) : Host.Outcome State Fault Refusal := .next (s.serve b.val 0x03 (State.ctxPrio b.val))

/-! ### Windows (R394 to R396) -/

/-- A window entry's fields (Table 19.4). -/
structure WinEntry where
  w0 : Nat
  base : Nat
  size : Nat

def WinEntry.init (e : WinEntry) : Nat := fld e.w0 1 2
def WinEntry.isReg (e : WinEntry) : Bool := bitOf e.w0 4
def WinEntry.write (e : WinEntry) : Bool := bitOf e.w0 5
def WinEntry.objValid (e : WinEntry) : Bool := bitOf e.w0 7
def WinEntry.ctx (e : WinEntry) : Nat := fld e.w0 8 7
def WinEntry.obj (e : WinEntry) : Nat := fld e.w0 16 12
/-- The entry lies within `[lo, lo + n)`. -/
def WinEntry.inside (e : WinEntry) (lo n : Nat) : Bool := decide (lo ≤ e.base) && decide (e.base + e.size ≤ lo + n)

/-- Word 0 of an entry (Table 19.4). -/
def winWord (init : Nat) (isReg write objValid : Bool) (ctx obj : Nat) : Nat :=
  1 + init * 2 + b2n isReg * 2 ^ 4 + b2n write * 2 ^ 5 + b2n objValid * 2 ^ 7 + ctx * 2 ^ 8 + obj * 2 ^ 16

/-- A grant over a HOST object (R395). -/
def State.grantObject (s : State) (e : WinEntry) : Bool :=
  let o := s.obj e.obj
  e.objValid && !e.isReg && (e.init == 1 || e.init == 2) && s.hasObj e.obj && o.host && decide (o.state ≠ .draining)
    && e.ctx == o.owner && e.inside o.hostBase (o.tiles * 4096)
/-- A grant over a context's doorbell pair or an entry's registers (R395). -/
def State.grantRegs (s : State) (e : WinEntry) : Bool :=
  !e.objValid && e.isReg && (e.init == 1 || e.init == 2) && decide (e.ctx ≠ 0x7F) &&
  (e.inside (regAddr (Reg.SCH_DOORBELL e.ctx)) 8
    || (List.range 512).any (fun n => s.hasEntry n && (s.seqEntry n).owner == e.ctx && e.inside (regAddr (Reg.SEQ_SUBMIT n)) 12))
/-- A read-only grant over a Canopy band buffer (R395). -/
def State.grantBand (s : State) (e : WinEntry) : Bool :=
  !e.objValid && !e.isReg && e.init == 0 && !e.write
    && s.thePlan.regions.any (fun r => r.tier == 0 && r.band && e.inside (canopyBase + r.offset) r.bytes)
/-- A grant over a range of the outbound window (R395). -/
def grantOutbound (e : WinEntry) : Bool := !e.objValid && !e.isReg && e.init == 1 && e.inside outboundBase 0x10000000

/-- The free entry with the lowest index. -/
def State.freeWin (s : State) : Option Nat := (List.range 256).find? (fun w => !s.rb (Reg.SEC_WIN w 0) 0)
/-- Entry `w` written. -/
def State.putWin (s : State) (w : Nat) (e : WinEntry) : State :=
  let s := (s.put (Reg.SEC_WIN w 1) (e.base % 2 ^ 32)).put (Reg.SEC_WIN w 2) (e.base / 2 ^ 32)
  (s.put (Reg.SEC_WIN w 3) e.size).put (Reg.SEC_WIN w 0) e.w0
/-- Entry `w` revoked. -/
def State.dropWin (s : State) (w : Nat) : State := s.put (Reg.SEC_WIN w 0) 0

/-- WIN_GRANT (R395). -/
def State.winGrant (b : Nat) (s : State) : Reply :=
  let e : WinEntry := { w0 := s.mbxArg b 1, base := s.mbxArg b 2 + 2 ^ 32 * s.mbxArg b 3, size := s.mbxArg b 4 }
  let align := if e.isReg then 4 else 4096
  replyIf s
    [((e.w0 &&& 0x0FFF7FF7) == e.w0, 0x01), (decide (e.init ≤ 2), 0x03), (e.ctx == 0x7F || s.hasCtx e.ctx, 0x04),
     (bitOf e.w0 0 && !bitOf e.w0 6 && decide (0 < e.size) && e.base % align == 0 && e.size % align == 0
        && (s.grantObject e || s.grantRegs e || s.grantBand e || grantOutbound e), 0x06)]
    (match s.freeWin with
     | some w => replyOk (s.putWin w e) [w]
     | Option.none => replyFail s 0x07)

/-- WIN_GRANT (R395). -/
def execWinGrant (b : Fin 2) (s : State) : Host.Outcome State Fault Refusal := .next (s.serve b.val 0x04 (State.winGrant b.val))

/-- WIN_REVOKE (R396): dynamic entries only. -/
def State.winRevoke (b : Nat) (s : State) : Reply :=
  let w := s.mbxArg b 1
  replyIf s [(decide (w < 256), 0x03), (s.rb (Reg.SEC_WIN w 0) 0 && !s.rb (Reg.SEC_WIN w 0) 6, 0x06)] (replyOk (s.dropWin w))

/-- WIN_REVOKE (R396). -/
def execWinRevoke (b : Fin 2) (s : State) : Host.Outcome State Fault Refusal := .next (s.serve b.val 0x05 (State.winRevoke b.val))

/-! ### Serving groups (R191) -/

/-- SEQ_GROUP (R191): the group's registers written after the kernel's checks. -/
def State.setGroup (b : Nat) (s : State) : Reply :=
  let a := s.mbxArg b
  let (g, cfg, size, vocab, wl) := (a 1, a 2, a 3, a 4, a 5 + 2 ^ 32 * a 6)
  let server := fld cfg 8 7
  let iso := fld cfg 1 2
  let ticks := fld size 16 16
  let rows := fld size 0 10
  replyIf s
    [((cfg &&& 0x00FF7F0F) == cfg && (size &&& 0xFFFF03FF) == size && decide (vocab < 2 ^ 24), 0x01),
     (decide (g < 16) && (iso == 1 || iso == 2) && decide (1 ≤ rows) && decide (rows ≤ 512) && decide (fld cfg 16 8 ≠ 0)
        && wl % 4096 == 0, 0x03),
     (s.hasCtx server, 0x04),
     (iso == (s.ctx server).iso && !(bitOf cfg 3 && iso == 2) && (if iso = 2 then decide (ticks ≠ 0) else ticks == 0), 0x03),
     (s.tenantWindow server wl (roundUp (0x40 + 36 * rows) 4096), 0x06)]
    (if s.seqt.entries.any (fun e => e.2.group == g) then replyFail (s.reportOwn 2 Reg.SEQ_EVT 1) 0x0B
     else
      let s := ((s.put (Reg.SEQ_GRP_CFG g) cfg).put (Reg.SEQ_GRP_SIZE g) size).put (Reg.SEQ_GRP_VOCAB g) vocab
      replyOk (if s.blockLive 8 then s.setR64 (Reg.SEQ_WL_LO g) wl else s))

/-- SEQ_GROUP (R191). -/
def execSeqGroup (b : Fin 2) (s : State) : Host.Outcome State Fault Refusal := .next (s.serve b.val 0x06 (State.setGroup b.val))

/-! ### Weight packages (R402, R403) -/

/-- The loaded packages of a context. -/
def State.packagesOf (s : State) (c : Nat) : List Package := tget [] s.sec.packages c

/-- PKG_LOAD (R402, R403). -/
def State.pkgLoad (b : Nat) (s : State) : Reply :=
  let a := s.mbxArg b
  let (owner, src, off, dst) := (a 1, a 2, a 3, a 4)
  let digest := (List.range 12).flatMap (fun i => leBytes 4 (a (5 + i)))
  let o := s.obj src
  let d := s.obj dst
  let area := o.tiles * 4096
  let bytes := s.rdLE (o.hostBase + off + 8) 4
  let pkg := s.rdBytes (o.hostBase + off) bytes
  let tiles := ceilDiv (pkgPayload pkg) 4096
  replyIf s
    [(s.sec.seed, 0x0C), (decide (owner < 128) && decide (src < 4096) && decide (dst < 4096), 0x03), (s.hasCtx owner, 0x04),
     (s.hasObj src && o.host && decide (off + 0x100 ≤ area) && decide (0x100 ≤ bytes) && decide (off + bytes ≤ area), 0x03),
     (decide ((s.packagesOf owner).length < 64), 0x05),
     (sha384 pkg == digest, 0x08),
     (pkgHeaderOk pkg && pkgTarget pkg == 0, 0x03),
     (s.hasObj dst && d.owner == owner && !d.host && !d.sealed && decide (tiles ≤ d.tiles), 0x03),
     (decide (d.state = .ready) && !s.objBusy dst, 0x0B)]
    (match openPackage s.sec.keys pkg digest with
     | .error 0x0A => replyFail (s.modObj dst (fun d => { d with home := [], copy := [], dirty := [] })) 0x0A
     | .error e => replyFail s e
     | .ok plain =>
       let ts := payloadTiles dst d.width d.compress plain
       let s := s.modObj dst (fun d => { d with home := ts, copy := if d.place = 1 then ts else [], dirty := [],
                                                lastUse := s.rn Reg.TICK_COUNT_LO })
       let p : Package := { kind := pkgKind pkg, object := dst, digest := digest }
       replyOk { s with sec.packages := tput s.sec.packages owner (s.packagesOf owner ++ [p]) })

/-- PKG_LOAD (R403). -/
def execPkgLoad (b : Fin 2) (s : State) : Host.Outcome State Fault Refusal := .next (s.serve b.val 0x07 (State.pkgLoad b.val))

/-! ### Resets, swap rate, tests (R76, R374, R386) -/

/-- RESET (R374): bit d of the mask requests a reset of D2, D3 or D4. -/
def State.resetService (b : Nat) (s : State) : Reply :=
  let m := s.mbxArg b 1
  replyIf s [((m &&& 0x1C) == m, 0x03)] (replyOk (s.domainReq m))

/-- RESET (R374). -/
def execMbxReset (b : Fin 2) (s : State) : Host.Outcome State Fault Refusal := .next (s.serve b.val 0x08 (State.resetService b.val))

/-- SWAP_RATE (R76). -/
def State.swapRateService (b : Nat) (s : State) : Reply :=
  let g := s.mbxArg b 1
  let v := s.mbxArg b 2
  replyIf s [(decide (g < 16) && decide (500 ≤ v) && decide (v ≤ 4000), 0x03)]
    (if s.swapRateOk g v then replyOk (s.setSwapRate g v) else replyFail (s.setSwapRate g v) 0x03)

/-- SWAP_RATE (R76). -/
def execSwapRate (b : Fin 2) (s : State) : Host.Outcome State Fault Refusal := .next (s.serve b.val 0x09 (State.swapRateService b.val))

/-- TEST (R386): the kernel writes LKT_TEST_REQ; a refused test answers STATE. -/
def State.testService (b : Nat) (s : State) : Reply :=
  replyIf s [(s.mbxArg b 1 == 1, 0x03)]
    (if s.testRefusal.isSome then replyFail s.requestTest 0x0B else replyOk s.requestTest)

/-- TEST (R386). -/
def execMbxTest (b : Fin 2) (s : State) : Host.Outcome State Fault Refusal := .next (s.serve b.val 0x0A (State.testService b.val))

/-! ### Camera rings (R313) -/

/-- The requester's initiator: the service core for mailbox 0, the application cores for mailbox 1. -/
def mbxInit (b : Nat) : Initiator := if b = 0 then .service else .app 0

/-- The ring registers of an output, or of the statistics ring (2), written by the kernel, which keeps the values for the next
release of D8 (R332). -/
def State.setRing (s : State) (o base pitch : Nat) : State :=
  let s := { s with cam.rings := tput s.cam.rings o (base, pitch) }
  if o = 2 then (s.setR64 Reg.CAM_STATS_BASE_LO base).put Reg.CAM_STATS_SLOTS pitch
  else (s.setR64 (Reg.CAM_OUT_BASE_LO o) base).put (Reg.CAM_OUT_PITCH o) pitch

/-- CAM_RING (R313, R317): the ring lies wholly inside a DDR5 window of the application OS or inside the outbound window. -/
def State.camRing (b : Nat) (s : State) : Reply :=
  let (o, base, pitch) := (s.mbxArg b 1, s.mbxArg b 2 + 2 ^ 32 * s.mbxArg b 3, s.mbxArg b 4)
  let n := if o = 2 then pitch * 8192 else pitch * s.rf (Reg.CAM_OUT_CFG o) 4 4
  let shape := if o = 2 then base % 8192 == 0 && decide (3 ≤ pitch) && decide (pitch ≤ 16)
    else decide (o ≤ 1) && base % 4096 == 0 && pitch % 4096 == 0
  let inDdr := decide (ddrBase ≤ base) && s.windowOk (mbxInit b) false true base n
  let inOut := decide (outboundBase ≤ base) && decide (base + n ≤ outboundBase + 0x10000000)
  replyIf s [(shape, 0x03), (s.running 8, 0x0B), (inDdr || inOut, 0x06)] (replyOk (s.setRing o base pitch))

/-- CAM_RING (R313). -/
def execCamRing (b : Fin 2) (s : State) : Host.Outcome State Fault Refusal := .next (s.serve b.val 0x0B (State.camRing b.val))

/-! ### Attestation (R400, R401) -/

/-- A writable window of the requester holds `[a, a + n)`. -/
def State.reqWrites (s : State) (b a n : Nat) : Bool := s.windowOk (mbxInit b) false true a n
/-- Bytes written by the kernel on behalf of a requester: outbound they leave the device (R433). -/
def State.kernelWrite (s : State) (a : Nat) (bs : List Byte) : State :=
  if regionOf a = .outbound then
    (if s.outboundOpen then { s with pci.outbound := some (s.r64 Reg.PCI_OB_BASE_LO + (a - outboundBase), leNat bs) } else s)
  else (s.plainWrite a bs).1

/-- The entries of a report (R401, R402): of a device report, the packages of the WEIGHT section under their streams' owner codes;
of a context report, those loaded since its last start. -/
def State.reportEntries (s : State) (scope : Nat) : List (Nat × Package) :=
  if scope = 0xFF then
    let p := s.thePlan
    let first := 3840 + (p.standingObjects.length - p.packages.length)
    (List.range p.packages.length).map (fun i =>
      let k := nth { stream := 0, place := 0, pkg := [] } p.packages i
      (0x80 + k.stream, { kind := pkgKind k.pkg, object := first + i, digest := sha384 k.pkg }))
  else (s.packagesOf scope).map (fun k => (scope, k))

/-- One entry of a report (Table 19.8). -/
def reportEntry (e : Nat × Package) : List Byte :=
  leBytes 4 (e.1 + e.2.kind * 2 ^ 8) ++ leBytes 4 e.2.object ++ List.replicate 8 0 ++ padTo 0 48 e.2.digest

/-- The report of Table 19.8, before its signature block. -/
def State.reportBody (s : State) (scope : Nat) (nonce : List Byte) : List Byte :=
  let es := s.reportEntries scope
  let p := s.thePlan
  leBytes 4 0x52545441 ++ leBytes 4 0x00010000 ++ leBytes 4 (0x110 + 64 * es.length + 256) ++ leBytes 4 (scope + es.length * 2 ^ 16)
    ++ s.devId ++ padTo 0 32 nonce ++ leBytes 4 s.emmc.bootCount ++ leBytes 4 p.version ++ leBytes 4 0x4101
    ++ leBytes 4 (s.rf Reg.PLAN_STATUS 0 2) ++ romDigest ++ imageDigest s.boot.patch ++ imageDigest s.boot.service
    ++ padTo 0 48 p.digest ++ es.flatMap reportEntry

/-- A signed report; none where the attestation key is absent. -/
def State.attestation (s : State) (scope : Nat) (nonce : List Byte) : Option (List Byte) :=
  s.sec.attestKey.map (fun d => signed d s.fresh (s.reportBody scope nonce))

/-- ATTEST (R401). -/
def State.attestService (b : Nat) (s : State) : Reply :=
  let scope := s.mbxArg b 1
  let nonce := (List.range 8).flatMap (fun i => leBytes 4 (s.mbxArg b (2 + i)))
  let dst := s.mbxArg b 10 + 2 ^ 32 * s.mbxArg b 11
  let n := 0x110 + 64 * (s.reportEntries (scope % 256)).length + 256
  replyIf s
    [(s.sec.seed && s.sec.attestKey.isSome, 0x0C), (scope == 0xFF || decide (scope < 128), 0x03), (scope == 0xFF || s.hasCtx scope, 0x04),
     (s.reqWrites b dst n, 0x06)]
    (replyOk ((s.kernelWrite dst ((s.attestation scope nonce).getD [])).tickFresh))

/-- ATTEST (R401). -/
def execMbxAttest (b : Fin 2) (s : State) : Host.Outcome State Fault Refusal := .next (s.serve b.val 0x0C (State.attestService b.val))

/-- The certificate of R400, then the identity public key of 112 bytes. -/
def State.certBytes (s : State) : List Byte := s.sec.certificate ++ padTo 0 112 (publicKey s.sec.keys.identity)

/-- CERT (R400). -/
def State.certService (b : Nat) (s : State) : Reply :=
  let dst := s.mbxArg b 1 + 2 ^ 32 * s.mbxArg b 2
  replyIf s [(s.sec.seed && !s.sec.certificate.isEmpty, 0x0C), (s.reqWrites b dst (608 + 112), 0x06)]
    (replyOk (s.kernelWrite dst s.certBytes))

/-- CERT (R400). -/
def execMbxCert (b : Fin 2) (s : State) : Host.Outcome State Fault Refusal := .next (s.serve b.val 0x0D (State.certService b.val))

/-! ### Queue pairs (R434) -/

/-- Bytes of both rings. -/
def qpBytes (sq cq : Nat) : Nat := 64 * (2 ^ sq + 2 ^ cq)
/-- The ring area of a service target: the kernel places it in the service region (log entry 18). -/
def State.svcRing (s : State) (q n : Nat) : Nat :=
  s.r64 Reg.SEC_SVC_BASE_LO + 4096 * (Config.slotIndex 5 q 0 % max 1 ((s.r64 Reg.SEC_SVC_BYTES_LO - n) / 4096))

/-- Word 0 of QP_CFG_q (Table 22.8). -/
def qpCfg (target ctx sq cq : Nat) : Nat := 1 + target * 2 + ctx * 2 ^ 8 + sq * 2 ^ 16 + cq * 2 ^ 20

/-- Queue pair `q` bound to a ring area with its windows; the indices begin at 0. -/
def State.bindQp (s : State) (q cfg base : Nat) (mem reg : WinEntry) : Option State :=
  match s.freeWin with
  | Option.none => Option.none
  | some w =>
    let s := s.putWin w mem
    match s.freeWin with
    | Option.none => Option.none
    | some v =>
      let s := s.putWin v reg
      let s := s.setR64 (Reg.QP_BASE_LO q) base
      let s := [Reg.QP_SQ q, Reg.QP_SQ_HEAD q, Reg.QP_CQ_TAIL q, Reg.QP_CQ q].foldl (fun s k => s.setReg k 0) s
      some (s.setReg (Reg.QP_CFG q) cfg)

/-- The first valid dynamic window with this initiator and range revoked. -/
def State.dropWindowOf (s : State) (init : Nat) (isReg : Bool) (base : Nat) : State :=
  match (List.range 256).find? (fun w =>
    let w0 := s.rn (Reg.SEC_WIN w 0)
    bitOf w0 0 && !bitOf w0 6 && fld w0 1 2 == init && bitOf w0 4 == isReg
      && s.rn (Reg.SEC_WIN w 1) + 2 ^ 32 * s.rn (Reg.SEC_WIN w 2) == base) with
  | some w => s.dropWin w
  | Option.none => s

/-- Queue pair `q` unbound, its windows revoked. -/
def State.unbindQp (s : State) (q : Nat) : State :=
  let target := s.rf (Reg.QP_CFG q) 1 1
  let s := s.setRf (Reg.QP_CFG q) 0 1 0
  (s.dropWindowOf 2 false (s.r64 (Reg.QP_BASE_LO q))).dropWindowOf target true (regAddr (Reg.QP_SQ_HEAD q))

/-- QP_BIND (R434). -/
def State.qpBind (b : Nat) (s : State) : Reply :=
  let a := s.mbxArg b
  let (q, en, target, c, k, sq, cq) := (a 1, a 2, a 3, a 4, a 5, a 6, a 7)
  let on := s.rb (Reg.QP_CFG q) 0
  if 128 ≤ q ∨ 2 ≤ en then replyFail s 0x03
  else if en = 0 then (if on then replyOk (s.unbindQp q) else replyFail s 0x0B)
  else
    let o := s.obj k
    let n := qpBytes sq cq
    let ring := s.svcRing q n
    let regWin (init ctx : Nat) : WinEntry := { w0 := winWord init true true false ctx 0, base := regAddr (Reg.QP_SQ_HEAD q), size := 8 }
    replyIf s
      [(decide (target ≤ 1) && (target == 0 || (decide (c < 128) && decide (k < 4096))) && decide (4 ≤ sq) && decide (sq ≤ 12)
          && decide (4 ≤ cq) && decide (cq ≤ 12), 0x03),
       (target == 0 || s.hasCtx c, 0x04), (!on, 0x0B),
       (if target = 1 then s.hasObj k && o.host && o.owner == c && decide (o.state ≠ .draining) && decide (n ≤ o.tiles * 4096)
        else decide (roundUp n 4096 ≤ s.r64 Reg.SEC_SVC_BYTES_LO), 0x06)]
      (match (if target = 1 then
          s.bindQp q (qpCfg 1 c sq cq) o.hostBase
            { w0 := winWord 2 false true true c k, base := o.hostBase, size := o.tiles * 4096 } (regWin 1 c)
        else
          s.bindQp q (qpCfg 0 0 sq cq) ring
            { w0 := winWord 2 false true false 0x7F 0, base := ring, size := roundUp n 4096 } (regWin 0 0x7F)) with
       | some t => replyOk t
       | Option.none => replyFail s 0x07)

/-- QP_BIND (R434). -/
def execQpBind (b : Fin 2) (s : State) : Host.Outcome State Fault Refusal := .next (s.serve b.val 0x0E (State.qpBind b.val))

end Sys2Proof.Machine
end

