-- ==== Sys2Proof/Machine/Pcie.lean ====
section
/-! DEFINITION. The PCIe link, its resets, the outbound base, queue pair pages and queue pair indices (chapter 22, R430 to R440,
R443). -/
namespace Sys2Proof.Machine
open Sys2Proof

/-! ### Link and resets (R431, R439) -/

/-- Every queue pair disabled (R431, R437). -/
def State.disableQps (s : State) : State :=
  forRange 128 s (fun s q => s.putF (Reg.QP_CFG q) 0 1 0)

/-- The link drops: its rate and width are gone, and so are the accesses that it still had in flight. -/
def State.loseLink (s : State) : State :=
  let up := s.pci.linkUp
  let held := s.pci.heldAccesses.filter (fun a => decide (a.1 ≠ .pcie))
  let s := { s with pci := { s.pci with linkUp := false, rate := 0, width := 0, heldAccesses := held } }
  if up then s.pciEvent 1 else s

/-- What PERST# and FLR reset (R431): the link, every QP_CFG_q.EN and the MSI-X table, and no reset domain. -/
def State.endpointReset (s : State) : State :=
  let s := (s.loseLink).disableQps
  ({ s with pci := { s.pci with msix := [], msixPending := 0 } }).showLink

/-- PERST (R431). -/
def execPerst (s : State) : Host.Outcome State Fault Refusal := .next ((s.endpointReset).pciEvent 2)

/-- FLR (R431): it comes over the link. -/
def execFlr (s : State) : Host.Outcome State Fault Refusal := .next (if s.acts .pcie then s.endpointReset else s)

/-- PCIE_LINK_DOWN (R439, R440): the queue pairs' registers stay; the host treats them as lost. -/
def execPcieLinkDown (s : State) : Host.Outcome State Fault Refusal := .next ((s.loseLink).showLink)

/-- Whether the link can train: D0 runs and the device is not in S3 (Table 22.5). -/
def State.linkCanTrain (s : State) : Bool := s.running 0 && decide ((s.dom 1).power ≠ .off) && !s.pci.linkUp

/-- PCIE_LINK_UP (R430, R439): the link trains at a rate of 1 to 4 and a width of 1 or 2 that the device does not choose. -/
def execPcieLinkUp (s : State) : Host.Outcome State Fault Refusal :=
  if s.linkCanTrain then
    let n := s.freeVal 61
    let s := { s.tickFresh with pci := { s.pci with linkUp := true, rate := 1 + n % 4, width := 1 + n / 4 % 2 } }
    .next ((s.showLink).pciEvent 0)
  else .next s

/-! ### MSI-X (R432) -/

/-- A host write of word `i` of the MSI-X table: unmasking a pending vector sends it. -/
def State.msixWrite (s : State) (i v : Nat) : State :=
  let s := { s with pci.msix := tput s.pci.msix i (BitVec.ofNat 32 v) }
  let n := i / 4
  if i % 4 = 3 ∧ bitOf v 0 = false ∧ bitOf s.pci.msixPending n = true then s.msixSend n else s

/-! ### Queue pairs (R435, R436) -/

/-- Messages of the submission and completion rings of queue pair `q` (R434). -/
def State.sqSize (s : State) (q : Nat) : Nat := 2 ^ s.rf (Reg.QP_CFG q) 16 4
def State.cqSize (s : State) (q : Nat) : Nat := 2 ^ s.rf (Reg.QP_CFG q) 20 4
def State.qpOn (s : State) (q : Nat) : Bool := s.rb (Reg.QP_CFG q) 0

/-- An index write discarded (R435). -/
def State.doorbellBad (s : State) : State := (s.count Reg.PCI_DENIED 1).pciEvent 3

/-- A write of QPP_SQ_TAIL of an enabled queue pair's page: SQ_TAIL, and its bit of PCI_SQ_PEND (R435, R436). -/
def State.sqTail (s : State) (q v : Nat) : State :=
  if s.qpOn q && decide (v % 65536 < s.sqSize q) then
    (s.putF (Reg.QP_SQ q) 0 16 (v % 65536)).putF (Reg.PCI_SQ_PEND (q / 32)) (q % 32) 1 1
  else s.doorbellBad

/-- A write of QPP_CQ_HEAD (R435). -/
def State.cqHead (s : State) (q v : Nat) : State :=
  if s.qpOn q && decide (v % 65536 < s.cqSize q) then s.putF (Reg.QP_CQ q) 0 16 (v % 65536) else s.doorbellBad

/-- A write of QP_SQ_HEAD_q by the target (R435). -/
def State.sqHead (s : State) (kernel : Bool) (q v : Nat) : State :=
  if v % 65536 < s.sqSize q then
    (s.storeReg kernel (Reg.QP_SQ_HEAD q) v).putF (Reg.QP_SQ q) 16 16 (v % 65536)
  else s.doorbellBad

/-- A write of QP_CQ_TAIL_q by the target: MSI-X vector q follows it (R435, R436). -/
def State.cqTail (s : State) (kernel : Bool) (q v : Nat) : State :=
  if v % 65536 < s.cqSize q then (s.storeReg kernel (Reg.QP_CQ_TAIL q) v).msixSignal q else s.doorbellBad

/-- A host access to a register of the PCI block: it reaches the block while D1 runs; else a write is dropped (R376). -/
def State.hostWrite (s : State) (eff : State → State) : State :=
  if !s.acts .pcie then s
  else if s.blockLive 0x2B then (eff s).answer .done
  else s.answer .done

/-- QPP_SQ_TAIL (R436). -/
def execQppSqTail (q : Fin 128) (value : Word) (s : State) : Host.Outcome State Fault Refusal :=
  .next (s.hostWrite (·.sqTail q.val value.toNat))
/-- QPP_CQ_HEAD (R435). -/
def execQppCqHead (q : Fin 128) (value : Word) (s : State) : Host.Outcome State Fault Refusal :=
  .next (s.hostWrite (·.cqHead q.val value.toNat))
/-- QP_SQ_HEAD (R435). -/
def execQpSqHead (init : Initiator) (q : Fin 128) (value : Word) (s : State) : Host.Outcome State Fault Refusal :=
  .next (s.viaWrite init (Reg.QP_SQ_HEAD q.val) false (·.sqHead (decide (init = .kernel)) q.val value.toNat))
/-- QP_CQ_TAIL (R436). -/
def execQpCqTail (init : Initiator) (q : Fin 128) (value : Word) (s : State) : Host.Outcome State Fault Refusal :=
  .next (s.viaWrite init (Reg.QP_CQ_TAIL q.val) false (·.cqTail (decide (init = .kernel)) q.val value.toNat))

/-! ### PCI_SQ_PEND and the outbound base (R433, R436) -/

/-- The bits of PCI_SQ_PEND_i that an initiator may clear: queue pairs with a context target for cores 0 to 6, with a service
target for the service core, and none for any other (R436). -/
def State.pendMask (s : State) (init : Initiator) (i : Nat) : Nat :=
  let target (t : Nat) : Nat := maskOf ((List.range 32).map (fun j => s.rf (Reg.QP_CFG (32 * i + j)) 1 1 == t))
  match init with
  | .app _ => target 1
  | .service => target 0
  | _ => 0

/-- A write of PCI_SQ_PEND_i (R436). -/
def State.sqPend (s : State) (init : Initiator) (i v : Nat) : State :=
  let k := Reg.PCI_SQ_PEND i
  s.put k (s.rn k - (s.rn k &&& v &&& s.pendMask init i))

/-- PCI_SQ_PEND (R436). -/
def execPciSqPend (init : Initiator) (i : Fin 4) (value : Word) (s : State) : Host.Outcome State Fault Refusal :=
  .next (s.viaWrite init (Reg.PCI_SQ_PEND i.val) false (·.sqPend init i.val value.toNat))

/-- PCI_OB_BASE (R433): the host page writes a half of the pair (R6). -/
def execPciObBase (high : Bool) (value : Word) (s : State) : Host.Outcome State Fault Refusal :=
  .next (s.hostWrite (·.storePair false (if high then Reg.PCI_OB_BASE_HI else Reg.PCI_OB_BASE_LO) value.toNat))

end Sys2Proof.Machine
end

