-- ==== Sys2Proof/Machine/Update.lean ====
section
/-! DEFINITION. Staging, commit and the OS data area (chapter 21, R427, R428, Table 21.5). -/
namespace Sys2Proof.Machine
open Sys2Proof

/-! ### Staging (R427) -/

/-- Whether the inactive slot `n` of component `c` holds an image selected at the last cold start (R427): the slot that the directory
named then, or, for a patch or firmware whose named slot failed, the other (R420). -/
def State.slotSelected (s : State) (c n : Nat) : Bool :=
  let named := activeSlot s.boot.bootActive c
  let img := s.slotBytes c n
  let taken := if c = 1 then s.boot.patch else s.boot.service
  let fromNamed := decide ((s.slotBytes c named).take taken.length = taken)
  !img.isEmpty &&
  (if c = 1 ∨ c = 2 then !taken.isEmpty && (if n = named then fromNamed else !fromNamed) else n == named)

/-- The slot of component `c` that the directory does not name. -/
def State.inactiveSlot (s : State) (c : Nat) : Nat := 1 - activeSlot s.flash.dir.active c

/-- UPD_OPEN: the inactive slot is erased, and what it had staged is gone. -/
def State.openStaging (s : State) (c bytes : Nat) : Reply :=
  replyIf s
    [(decide (1 ≤ c) && decide (c ≤ 4) && decide (bytes ≤ s.slotSize c), 0x03),
     (s.boot.staging.isNone && decide (s.emmc.commit = .idle) && !s.slotSelected c (s.inactiveSlot c), 0x0B)]
    (replyOk { (s.setSlot c (s.inactiveSlot c) []) with
      boot.staging := some { component := c, bytes := bytes }, boot.staged := setFld s.boot.staged (c - 1) 1 0 })

/-- UPD_WRITE: bytes programmed into the staged slot. -/
def State.writeStaging (s : State) (off : Nat) (bs : List Byte) : State :=
  match s.boot.staging with
  | Option.none => s
  | some g =>
    let n := s.inactiveSlot g.component
    s.setSlot g.component n (overlay (padTo 0xFF g.bytes (s.slotBytes g.component n)) off bs)

/-- Whether `len` bytes at `off` may be programmed. -/
def State.stagingRange (s : State) (off len : Nat) : Bool :=
  match s.boot.staging with
  | some g => len % 256 == 0 && decide (len ≤ 2 ^ 20) && decide (off + len ≤ g.bytes)
  | Option.none => false

/-- Whether a staged image passes the rules of its component (R420; a plan against its enrolled key and rollback counter). -/
def State.stagedOk (s : State) (c : Nat) (img : List Byte) : Bool :=
  match c with
  | 4 => true
  | 3 =>
    let key := nth [] s.emmc.planKeys (u32 (img.drop (u32 img 0x10 - 256)) 4)
    let plan := img.take (u32 img 0x10)
    decide (512 ≤ u32 img 0x10) && decide (u32 img 0x10 ≤ img.length) && u32 img 0 == 0x4E414C50 && s.sec.seed && !key.isEmpty
      && blockClean (plan.drop (plan.length - 256)) && blockVerifies key plan && decide (s.emmc.planRb ≤ u32 img 0x14)
  | c => s.imageAccepted c img

/-- UPD_CLOSE: the image's digest and signature checked, and the slot marked STAGED or left empty. -/
def State.finishStaging (s : State) (digest : List Byte) : Reply :=
  match s.boot.staging with
  | Option.none => replyFail s 0x0B
  | some g =>
    let c := g.component
    let n := s.inactiveSlot c
    let img := padTo 0xFF g.bytes (s.slotBytes c n)
    let t := { s with boot.staging := Option.none }
    if sha384 img ≠ digest then replyFail (t.setSlot c n []) 0x08
    else if !s.stagedOk c img then replyFail (t.setSlot c n []) 0x0A
    else
      let t := t.setSlot c n img
      replyOk { t with boot.staged := setFld t.boot.staged (c - 1) 1 1, boot.stagedDigests := t.boot.stagedDigests.set (c - 1) digest }

/-- UPD_ABORT: the session closes and its slot becomes empty. -/
def State.abortStaging (s : State) : Reply := if s.boot.staging.isNone then replyFail s 0x0B else replyOk s.closeStaging

/-- CommitState as block 1 holds it (Table 21.4). -/
def CommitState.code : CommitState → Nat
  | .idle => 0 | .pending => 1 | .committed => 2

/-- UPD_STATUS: the open component, the STAGED mask and the commit STATE. -/
def State.stagingStatus (s : State) : Reply :=
  replyOk s [match s.boot.staging with | some g => g.component | Option.none => 0, s.boot.staged, s.emmc.commit.code]

/-! ### Commit (R428) -/

/-- The staged slots of a component mask still match their digests (Table 21.6, step 1). -/
def State.stagedMatch (s : State) (mask : Nat) : Bool :=
  (bitsOf 4 mask).all (fun i => sha384 (s.slotBytes (i + 1) (s.inactiveSlot (i + 1))) == nth [] s.boot.stagedDigests i)

/-- Step 2 of Table 21.6: block 1 written with TARGET and the new versions and digests. -/
def State.writePending (s : State) (mask : Nat) : State :=
  let d := s.flash.dir
  let version (i : Nat) : Nat :=
    let img := s.slotBytes (i + 1) (s.inactiveSlot (i + 1))
    if !bitOf mask i then 0 else if i = 2 then u32 img 0x14 else if i = 3 then 0 else imageVersion img
  { s with emmc.commit := .pending, emmc.target := d.active ^^^ (mask % 16), emmc.newVersions := (List.range 4).map version
           emmc.newDigests := (List.range 3).map (fun i => if bitOf mask i then nth [] s.boot.stagedDigests i else nth [] d.digests i) }

/-- UPD_COMMIT (R428): the steps of Table 21.6 for every component of the mask, each of which is STAGED. -/
def State.commitStaged (s : State) (mask : Nat) : Reply :=
  replyIf s
    [(decide (mask < 16), 0x03), ((mask &&& s.boot.staged) == mask && decide (s.emmc.commit = .idle) && s.emmc.readable, 0x0B),
     (s.stagedMatch mask, 0x08)]
    (let t := (((s.writePending mask).commitDirectory).commitCounters).commitFinish
     replyOk { t with boot.staged := t.boot.staged - (t.boot.staged &&& mask) })

/-! ### The OS data area (R426, R427) -/

/-- The first sector of the OS data area: above the two OS slots. -/
def State.dataStart (s : State) : Nat := 2 * s.flash.dir.osSlotMib * 2048
/-- The 512 bytes of a sector; one never written holds free bytes. -/
def State.sector (s : State) (n : Nat) : List Byte :=
  match tfind s.emmc.osData n with
  | some b => padTo 0 512 b
  | Option.none => (List.range 512).map (fun i => BitVec.ofNat 8 (Config.freeFn 32 [n, i]))
/-- Sectors read. -/
def State.sectors (s : State) (n count : Nat) : List Byte := (List.range count).flatMap (fun i => s.sector (n + i))
/-- Sectors written. -/
def State.putSectors (s : State) (n : Nat) : List (List Byte) → State
  | [] => s
  | b :: bs => { s with emmc.osData := tput s.emmc.osData n b }.putSectors (n + 1) bs

/-- Whether sectors lie in the OS data area. -/
def State.sectorsOk (s : State) (n count : Nat) : Bool := decide (count ≤ 2048) && decide (s.dataStart ≤ n)

/-- A window of the requester lets it read `[a, a + n)`. -/
def State.reqReads (s : State) (b a n : Nat) : Bool := s.windowOk (mbxInit b) false false a n
/-- Bytes read by the kernel on behalf of a requester: from outbound they are the host's, and free. -/
def State.kernelRead (s : State) (a n : Nat) : List Byte :=
  if regionOf a = .outbound then (List.range n).map (fun i => BitVec.ofNat 8 (Config.freeFn 33 [s.fresh, i])) else s.rdBytes a n

/-! ### The mailbox operations -/

/-- UPD_OPEN (R427). -/
def execUpdOpen (b : Fin 2) (s : State) : Host.Outcome State Fault Refusal :=
  .next (s.serve b.val 0x20 (fun s => s.openStaging (s.mbxArg b.val 1) (s.mbxArg b.val 2)))

/-- UPD_WRITE from a window of the requester. -/
def State.updWrite (b : Nat) (s : State) : Reply :=
  let (off, src, len) := (s.mbxArg b 1, s.mbxArg b 2 + 2 ^ 32 * s.mbxArg b 3, s.mbxArg b 4)
  replyIf s [(s.boot.staging.isSome, 0x0B), (s.stagingRange off len, 0x03), (s.reqReads b src len, 0x06)]
    (replyOk ((s.writeStaging off (s.kernelRead src len)).tickFresh))

/-- UPD_WRITE (R427). -/
def execUpdWrite (b : Fin 2) (s : State) : Host.Outcome State Fault Refusal := .next (s.serve b.val 0x21 (State.updWrite b.val))
/-- UPD_CLOSE (R427). -/
def execUpdClose (b : Fin 2) (s : State) : Host.Outcome State Fault Refusal :=
  .next (s.serve b.val 0x22 (fun s => s.finishStaging ((List.range 12).flatMap (fun i => leBytes 4 (s.mbxArg b.val (1 + i))))))
/-- UPD_COMMIT (R428). -/
def execUpdCommit (b : Fin 2) (s : State) : Host.Outcome State Fault Refusal :=
  .next (s.serve b.val 0x23 (fun s => s.commitStaged (s.mbxArg b.val 1)))
/-- UPD_ABORT (R427). -/
def execUpdAbort (b : Fin 2) (s : State) : Host.Outcome State Fault Refusal := .next (s.serve b.val 0x24 State.abortStaging)
/-- UPD_STATUS (R427). -/
def execUpdStatus (b : Fin 2) (s : State) : Host.Outcome State Fault Refusal := .next (s.serve b.val 0x25 State.stagingStatus)

/-- OS_READ: sectors into a writable window of the requester. -/
def State.osRead (b : Nat) (s : State) : Reply :=
  let (n, count, dst) := (s.mbxArg b 1, s.mbxArg b 2, s.mbxArg b 3 + 2 ^ 32 * s.mbxArg b 4)
  replyIf s [(s.sectorsOk n count, 0x03), (s.emmc.readable, 0x0B), (s.reqWrites b dst (512 * count), 0x06)]
    (replyOk (s.kernelWrite dst (s.sectors n count)))

/-- OS_READ (R427). -/
def execOsRead (b : Fin 2) (s : State) : Host.Outcome State Fault Refusal := .next (s.serve b.val 0x26 (State.osRead b.val))

/-- OS_WRITE: sectors from a window of the requester. -/
def State.osWrite (b : Nat) (s : State) : Reply :=
  let (n, count, src) := (s.mbxArg b 1, s.mbxArg b 2, s.mbxArg b 3 + 2 ^ 32 * s.mbxArg b 4)
  replyIf s [(s.sectorsOk n count, 0x03), (s.emmc.readable, 0x0B), (s.reqReads b src (512 * count), 0x06)]
    (replyOk ((s.putSectors n (chunks 512 count (s.kernelRead src (512 * count)))).tickFresh))

/-- OS_WRITE (R427). -/
def execOsWrite (b : Fin 2) (s : State) : Host.Outcome State Fault Refusal := .next (s.serve b.val 0x27 (State.osWrite b.val))

end Sys2Proof.Machine
end

