-- ==== Sys2Proof/Machine/MgmtPort.lean ====
section
/-! DEFINITION. The management network: the port's link, ARP and ICMP echo, sessions and their requests (chapter 22, R441, R442,
R444; R405). The layouts of bodies stand in log entry 31. -/
namespace Sys2Proof.Machine
open Sys2Proof

/-! ### The port (R441, R444) -/

/-- The MGT registers show the port after a change (Table 22.9). -/
def State.mgmtChanged (s : State) (bit : Nat) : State := (s.showMgmt).evt Reg.MGT_EVT bit

/-- MGT_LINK_UP (R444). -/
def execMgtLinkUp (s : State) : Host.Outcome State Fault Refusal :=
  .next (if s.running 0 && !s.mgt.link then ({ s with mgt.link := true }).mgmtChanged 0 else s)

/-- MGT_LINK_DOWN (R444): a session stays until it times out. -/
def execMgtLinkDown (s : State) : Host.Outcome State Fault Refusal :=
  .next (if s.mgt.link then ({ s with mgt.link := false }).mgmtChanged 1 else s)

/-- Whether frames arrive: the kernel runs and the link is up. -/
def State.mgmtHears (s : State) : Bool := s.running 1 && s.mgt.link

/-- Bytes sent. -/
def State.send (s : State) (bs : List Byte) : State := { s with mgt.sent := bs }

/-- The MAC address: DEVICE_ID bytes 0 to 5, bit 1 of the first octet set and bit 0 cleared (R441). -/
def State.macAddress (s : State) : List Byte :=
  (s.devId.take 6).modifyHead (fun b => (b ||| 2) &&& 0xFE)

/-- ARP_REQUEST: the reply of the ARP protocol over Ethernet and IPv4, when the request names the address in use (R441). -/
def execArpRequest (senderMac senderIp targetIp : Nat) (s : State) : Host.Outcome State Fault Refusal :=
  .next (if s.mgmtHears && decide (targetIp = s.ipv4) then
    s.send ([0, 1, 8, 0, 6, 4, 0, 2] ++ s.macAddress ++ beBytes 4 s.ipv4 ++ beBytes 6 senderMac ++ beBytes 4 senderIp)
  else s)

/-- The Internet checksum of a message. -/
def inetSum : List Byte → Nat
  | [] => 0
  | [a] => a.toNat * 256
  | a :: b :: r => (fun t => t % 65536 + t / 65536) (a.toNat * 256 + b.toNat + inetSum r)
def inetChecksum (bs : List Byte) : Nat := 0xFFFF - inetSum bs

/-- ICMP_ECHO_REQUEST: the echo reply with the request's identifier, sequence number and data (R441). -/
def execIcmpEchoRequest (targetIp : Nat) (rest : List Byte) (s : State) : Host.Outcome State Fault Refusal :=
  .next (if s.mgmtHears && decide (targetIp = s.ipv4) then
    s.send ([0, 0] ++ beBytes 2 (inetChecksum ([0, 0, 0, 0] ++ rest)) ++ rest)
  else s)

/-! ### Datagrams (R442, Table 22.6) -/

/-- A response datagram. -/
def mgmtResponse (type seq status : Nat) (body : List Byte) : List Byte :=
  leBytes 4 0x474D5A4F ++ leBytes 4 (type + 256 + status * 2 ^ 16) ++ leBytes 4 seq ++ leBytes 4 body.length ++ body

/-- A failed authentication counts (R442, Table 22.9). -/
def State.authFail (s : State) : State := (s.count Reg.MGT_AUTH_FAIL 1).evt Reg.MGT_EVT 4

/-- A request answered outside a session. -/
def State.answerPlain (s : State) (type : Nat) (d : Datagram) (status : Nat) (body : List Byte := []) : State :=
  s.send (mgmtResponse type d.seq status body)

/-- A datagram of R442: its body holds at most 1,280 bytes; any other is no management datagram. -/
def State.mgmtTakes (s : State) (d : Datagram) : Bool := s.mgmtHears && decide (d.payload.length ≤ 1280)

/-- Words of a body. -/
def mgmtWord (d : Datagram) (i : Nat) : Nat := leNat ((d.payload.drop (4 * i)).take 4)

/-- The credential that the kernel can read: none while the identity is lost (R399, R405). -/
def State.credential (s : State) : List Byte := if s.sec.seed && s.emmc.readable then s.emmc.credential else []

/-! ### Opening and closing (R405, R442) -/

/-- MGT_HELLO (R442): DEVICE_ID, ID_STATE and a fresh challenge; STATE while a session is open. -/
def execMgtHello (d : Datagram) (s : State) : Host.Outcome State Fault Refusal :=
  .next (if !s.mgmtTakes d then s
    else if s.mgt.session.isSome then s.answerPlain 0x01 d 0x0B
    else
      let c := (List.range 32).map (Config.randomByte s.fresh)
      let t := ({ s with mgt.challenge := some c }).tickFresh
      t.answerPlain 0x01 d 0 (t.devId ++ leBytes 4 s.idState ++ c))

/-- A session opened with the challenge that the peer has signed. -/
def State.openSession (s : State) (d : Datagram) (c : List Byte) : State :=
  let r := mgmtResponse 0x02 d.seq 0 []
  let s := { s with mgt.challenge := Option.none, mgt.session := some { challenge := c, lastSeq := d.seq, lastResponse := r } }
  (((s.count Reg.MGT_SESSIONS 1).mgmtChanged 2)).send r

/-- Whether an OPEN carries SEQ 1 and the signature of R405. -/
def State.openVerifies (s : State) (d : Datagram) (c : List Byte) : Bool :=
  d.seq == 1 && !s.credential.isEmpty && ecdsaVerify s.credential (c ++ s.devId) (beNat (slice d.payload 0 48)) (beNat (slice d.payload 48 48))

/-- OPEN (R405, R442). -/
def execMgtOpen (d : Datagram) (s : State) : Host.Outcome State Fault Refusal :=
  .next (if !s.mgmtTakes d then s
    else match s.mgt.session with
      | some x => if d.seq = x.lastSeq then s.send x.lastResponse else (s.authFail).answerPlain 0x02 d 0x0B
      | Option.none =>
        match s.mgt.challenge with
        | some c => if s.openVerifies d c then s.openSession d c else (s.authFail).answerPlain 0x02 d 0x0B
        | Option.none => (s.authFail).answerPlain 0x02 d 0x0B)

/-- A public key as R389 encodes it. -/
def keyWellFormed (b : List Byte) : Bool := decide (b.length = 97) && (readKey b).isSome

/-- A change of the credential or of a plan key, recorded as an event (R405): the code of its kind is open. -/
def State.mgmtChange (s : State) (kind slot : Nat) : State :=
  let s := (s.showIdentity).evt Reg.SEC_EVT 4
  s.report 0x0A04 0x01 [Config.freeFn 60 [kind] % 2 ^ 32, slot]

/-- ENROLL (R405): accepted while no credential is enrolled, with the MGT_ENROLL ball sampled high. -/
def State.enroll (s : State) (d : Datagram) : State :=
  if !s.pins.mgtEnroll || s.mgt.session.isSome || !s.emmc.credential.isEmpty then s.answerPlain 0x03 d 0x0B
  else if !(s.sec.seed && s.emmc.readable) then s.answerPlain 0x03 d 0x0C
  else if !keyWellFormed d.payload then s.answerPlain 0x03 d 0x03
  else (({ s with emmc.credential := d.payload }).mgmtChange 0 0).answerPlain 0x03 d 0

/-- ENROLL (R405). -/
def execMgtEnroll (d : Datagram) (s : State) : Host.Outcome State Fault Refusal :=
  .next (if s.mgmtTakes d then s.enroll d else s)

/-- The session closes (R442). -/
def State.closeSession (s : State) : State :=
  if s.mgt.session.isNone then s else ({ s with mgt.session := Option.none }).mgmtChanged 3

/-- SESSION_TIMEOUT (R442): 30 s have passed without a valid request. -/
def execSessionTimeout (s : State) : Host.Outcome State Fault Refusal := .next s.closeSession

/-! ### Requests of a session (R442, Table 22.7) -/

/-- What a request signs. -/
def State.signedBytes (s : State) (x : Session) (d : Datagram) : List Byte :=
  x.challenge ++ s.devId ++ leBytes 4 d.seq ++ d.payload

/-- Whether a request carries the next SEQ and a signature that verifies against the credential. -/
def State.requestValid (s : State) (x : Session) (d : Datagram) : Bool :=
  d.seq == x.lastSeq + 1 && !s.credential.isEmpty && ecdsaVerify s.credential (s.signedBytes x d) d.sigR d.sigS

/-- A request of type `type`: repeated, refused, or run with its response kept (R442). -/
def State.request (s : State) (type : Nat) (d : Datagram) (run : State → State × Nat × List Byte) : State :=
  if !s.mgmtTakes d then s
  else match s.mgt.session with
    | Option.none => (s.authFail).answerPlain type d 0x0B
    | some x =>
      if d.seq = x.lastSeq then s.send x.lastResponse
      else if !s.requestValid x d then (s.authFail).answerPlain type d 0x0B
      else
        let (t, status, body) := run s
        let r := mgmtResponse type d.seq status body
        { t with mgt.session := t.mgt.session.map (fun y => { y with lastSeq := d.seq, lastResponse := r }), mgt.sent := r }

/-- A mailbox-like service as a request's effect, its result words as the body. -/
def ofReply (r : Reply) : State × Nat × List Byte := (r.state, r.status, r.result.flatMap (leBytes 4))

/-- CLOSE (R442). -/
def execMgtClose (d : Datagram) (s : State) : Host.Outcome State Fault Refusal :=
  .next (s.request 0x0F d (fun s => (s.closeSession, 0, [])))

/-! ### Log readout (R416) -/

/-- One record read by the kernel through readout port 1; none where the slot does not hold SEQ `seq`. -/
def State.readRecord (s : State) (first : Bool) (seq : Nat) : State × List Byte :=
  let slot := if first then min seq 1023 else seq % 1024
  let s := s.writeSel 1 true (slot + b2n first * 2 ^ 16)
  let ws := s.slotWords first slot
  (s, if nth 0 ws 0 = seq ∧ nth 0 ws 2 % 65536 ≠ 0 then ws.flatMap (leBytes 4) else [])

/-- Records in ascending SEQ. -/
def State.readRecords (s : State) (first : Bool) (start : Nat) : Nat → State × List Byte
  | 0 => (s, [])
  | n + 1 =>
    let (s, b) := s.readRecord first (start % 2 ^ 32)
    let (s, bs) := s.readRecords first (start + 1) n
    (s, b ++ bs)

/-- LOG_READ: AREA, start SEQ and count of 1 to 36. -/
def State.logRead (d : Datagram) (s : State) : State × Nat × List Byte :=
  if d.payload.length < 12 then (s, 0x01, [])
  else if 2 ≤ mgmtWord d 0 ∨ mgmtWord d 2 = 0 ∨ 36 < mgmtWord d 2 then (s, 0x03, [])
  else
    let (s, bs) := s.readRecords (mgmtWord d 0 == 1) (mgmtWord d 1) (mgmtWord d 2)
    (s, 0, bs)

/-- LOG_READ (R416). -/
def execMgtLogRead (d : Datagram) (s : State) : Host.Outcome State Fault Refusal := .next (s.request 0x10 d (State.logRead d))

/-! ### Reports and certificates (R400, R401) -/

/-- Up to 1,024 bytes from an offset. -/
def window1024 (bs : List Byte) (off : Nat) : List Byte := slice bs off (min 1024 (bs.length - off))

/-- MGT_ATTEST: SCOPE, nonce and offset. -/
def State.mgtAttest (d : Datagram) (s : State) : State × Nat × List Byte :=
  let scope := mgmtWord d 0
  if d.payload.length < 40 then (s, 0x01, [])
  else if !(s.sec.seed && s.sec.attestKey.isSome) then (s, 0x0C, [])
  else if scope ≠ 0xFF ∧ 128 ≤ scope then (s, 0x03, [])
  else if scope ≠ 0xFF ∧ s.hasCtx scope = false then (s, 0x04, [])
  else (s.tickFresh, 0, window1024 ((s.attestation scope (slice d.payload 4 32)).getD []) (mgmtWord d 9))

/-- MGT_ATTEST (R401). -/
def execMgtAttest (d : Datagram) (s : State) : Host.Outcome State Fault Refusal := .next (s.request 0x11 d (State.mgtAttest d))

/-- MGT_CERT: the certificate and the identity public key from an offset. -/
def State.mgtCert (d : Datagram) (s : State) : State × Nat × List Byte :=
  if d.payload.length < 4 then (s, 0x01, [])
  else if !s.sec.seed || s.sec.certificate.isEmpty then (s, 0x0C, [])
  else (s, 0, window1024 s.certBytes (mgmtWord d 0))

/-- MGT_CERT (R400). -/
def execMgtCert (d : Datagram) (s : State) : Host.Outcome State Fault Refusal := .next (s.request 0x12 d (State.mgtCert d))

/-! ### Resets, the test and updates (R374, R386, R427) -/

/-- MGT_RESET: a mask of D2 to D5 and D8. -/
def State.mgtReset (d : Datagram) (s : State) : State × Nat × List Byte :=
  if d.payload.length < 4 then (s, 0x01, [])
  else if (mgmtWord d 0 &&& 0x13C) ≠ mgmtWord d 0 then (s, 0x03, [])
  else (s.domainReq (mgmtWord d 0), 0, [])

/-- MGT_RESET (R374). -/
def execMgtReset (d : Datagram) (s : State) : Host.Outcome State Fault Refusal := .next (s.request 0x20 d (State.mgtReset d))

/-- MGT_TEST: the KIND of R386; a refused test answers STATE. -/
def State.mgtTest (d : Datagram) (s : State) : State × Nat × List Byte :=
  if d.payload.length < 4 then (s, 0x01, [])
  else if mgmtWord d 0 ≠ 1 then (s, 0x03, [])
  else (s.requestTest, if s.testRefusal.isSome then 0x0B else 0, [])

/-- MGT_TEST (R386). -/
def execMgtTest (d : Datagram) (s : State) : Host.Outcome State Fault Refusal := .next (s.request 0x21 d (State.mgtTest d))

/-- UPD_WRITE with its data in the body: offset, length and at most 1,024 bytes. -/
def State.updateData (d : Datagram) (s : State) : State × Nat × List Byte :=
  let n := mgmtWord d 2
  if d.payload.length < 12 + n then (s, 0x01, [])
  else if s.boot.staging.isNone then (s, 0x0B, [])
  else if 1024 < n ∨ s.stagingRange (mgmtWord d 1) n = false then (s, 0x03, [])
  else (s.writeStaging (mgmtWord d 1) (slice d.payload 12 n), 0, [])

/-- UPDATE: an OP of Table 21.5 with its arguments; the OS data area needs a window, which this network has not. -/
def State.mgtUpdate (d : Datagram) (s : State) : State × Nat × List Byte :=
  let n := d.payload.length
  match mgmtWord d 0 with
  | 0x20 => if n < 12 then (s, 0x01, []) else ofReply (s.openStaging (mgmtWord d 1) (mgmtWord d 2))
  | 0x21 => if n < 12 then (s, 0x01, []) else s.updateData d
  | 0x22 => if n < 52 then (s, 0x01, []) else ofReply (s.finishStaging (slice d.payload 4 48))
  | 0x23 => if n < 8 then (s, 0x01, []) else ofReply (s.commitStaged (mgmtWord d 1))
  | 0x24 => ofReply s.abortStaging
  | 0x25 => ofReply s.stagingStatus
  | 0x26 => (s, 0x06, [])
  | 0x27 => (s, 0x06, [])
  | _ => (s, 0x01, [])

/-- UPDATE (R427). -/
def execMgtUpdate (d : Datagram) (s : State) : Host.Outcome State Fault Refusal := .next (s.request 0x30 d (State.mgtUpdate d))

/-! ### Keys (R405) -/

/-- Whether the kernel can write the replay-protected memory block. -/
def State.rpmbOpen (s : State) : Bool := s.sec.seed && s.emmc.readable

/-- CRED_SET: the credential replaced. -/
def State.credSet (d : Datagram) (s : State) : State × Nat × List Byte :=
  if !s.rpmbOpen then (s, 0x0C, [])
  else if !keyWellFormed d.payload then (s, 0x03, [])
  else (({ s with emmc.credential := d.payload }).mgmtChange 1 0, 0, [])

/-- CRED_SET (R405). -/
def execMgtCredSet (d : Datagram) (s : State) : Host.Outcome State Fault Refusal := .next (s.request 0x40 d (State.credSet d))

/-- PLANKEY: a slot with its key, or with none to revoke it. -/
def State.planKey (d : Datagram) (s : State) : State × Nat × List Byte :=
  let slot := mgmtWord d 0
  let key := d.payload.drop 4
  if d.payload.length < 4 then (s, 0x01, [])
  else if !s.rpmbOpen then (s, 0x0C, [])
  else if 4 ≤ slot ∨ (key ≠ [] ∧ keyWellFormed key = false) then (s, 0x03, [])
  else
    let t := { s with emmc.planKeys := (padTo [] 4 s.emmc.planKeys).set slot key }
    (t.mgmtChange (if key.isEmpty then 3 else 2) slot, 0, [])

/-- PLANKEY (R405). -/
def execMgtPlankey (d : Datagram) (s : State) : Host.Outcome State Fault Refusal := .next (s.request 0x41 d (State.planKey d))

end Sys2Proof.Machine
end

