-- ==== Sys2Proof/Machine/TapPort.lean ====
section
/-! DEFINITION. The test access port (chapter 23, R458, Table 23.11). -/
namespace Sys2Proof.Machine
open Sys2Proof

/-- The instruction that acts: with TEST_EN sampled low, EXTEST, CLAMP and HIGHZ act as BYPASS, and the part runs normally. -/
def State.tapActs (s : State) (i : TapInstr) : TapInstr :=
  if s.pins.testEn then i
  else match i with
    | .samplePreload => .samplePreload
    | .idcode => .idcode
    | _ => .bypass

/-- What drives the balls of the chain under an instruction. -/
def tapDrives : TapInstr → BallDrive
  | .extest => .boundary
  | .clamp => .boundary
  | .highz => .highImpedance
  | _ => .device

/-- What the data register of an instruction reads: the balls' levels, the identification code, or the bypass bit. -/
def State.tapReads (s : State) : TapInstr → Nat
  | .extest => s.pins.balls
  | .samplePreload => s.pins.balls
  | .idcode => 0x17140E6F
  | _ => 0

/-- An instruction loaded. -/
def State.tapLoad (s : State) (i : TapInstr) : State :=
  let act := s.tapActs i
  { s with tap.instr := i, tap.drive := tapDrives act, tap.data := s.tapReads act }

/-- EXTEST (R458). -/
def execTapExtest (s : State) : Host.Outcome State Fault Refusal := .next (s.tapLoad .extest)
/-- SAMPLE_PRELOAD (R458): the balls' levels are captured in the boundary register. -/
def execTapSamplePreload (s : State) : Host.Outcome State Fault Refusal :=
  .next { s.tapLoad .samplePreload with tap.boundary := s.pins.balls }
/-- IDCODE (R458). -/
def execTapIdcode (s : State) : Host.Outcome State Fault Refusal := .next (s.tapLoad .idcode)
/-- TAP_CLAMP (R458). -/
def execTapClamp (s : State) : Host.Outcome State Fault Refusal := .next (s.tapLoad .clamp)
/-- HIGHZ (R458). -/
def execTapHighz (s : State) : Host.Outcome State Fault Refusal := .next (s.tapLoad .highz)
/-- BYPASS (R458): every code outside Table 23.11 acts so too. -/
def execTapBypass (s : State) : Host.Outcome State Fault Refusal := .next (s.tapLoad .bypass)

end Sys2Proof.Machine
end

