-- ==== Sys2Proof/Machine/RegAccess.lean ====
section
/-! DEFINITION. Accesses by address: what each register reads as and what a write of it does, the other access sizes, plain
memory, and the BARs of the PCIe endpoint (R5 to R9, R19, R376, R394, R432, R443). -/
namespace Sys2Proof.Machine
open Sys2Proof

/-! ### What a register reads as -/

/-- GRV_STATUS (Table 4.12): an off Grove reads zero. -/
def State.grvStatus (s : State) (g : Nat) : Nat :=
  let x := s.grove g
  let role := match x.role with | .off => 0 | .standing => 1 | .open => 2
  match x.run with
  | some e =>
    role + 2 ^ 4 + e.op % 256 * 2 ^ 24 + (match x.role, e.ctx with | .open, some c => c * 2 ^ 16 + 2 ^ 23 | _, _ => 0)
  | Option.none => role
/-- GRV_SKID_VALID (Table 4.11). -/
def State.skidValid (s : State) (g : Nat) : Nat :=
  maskOf ((List.range 16).map (fun n => match tfind (s.grove g).skid n with | some e => e.complete | Option.none => false))

/-- Canopy KiB of a mode's BUFFER regions, stored tiles with their headers (Table 11.16; log entry 33). -/
def Plan.canopyKib (p : Plan) (m : Nat) : Nat :=
  ceilDiv (((p.regionsIn m).filter (·.tier == 0)).map (fun r => if r.band then r.bytes else storedSize r.bytes)).sum 1024

/-- Canopy offset of the open pool's first slot: within the top range of the Canopy, whose order of headers and slots is open
(R206, R221; log entry 18). -/
def Plan.poolBase (p : Plan) : Nat :=
  if p.cnpOpen = 0 then 0 else 0x2000000 - p.cnpOpen * 4128 + Config.freeFn 62 [p.cnpOpen] % (p.cnpOpen * 32 + 1)

/-- The mask of the Groves with a role. -/
def State.rolesMask (s : State) (r : Role) : Nat := maskOf ((List.range 16).map (fun g => decide (s.role g = r)))

/-- PCI_HOST_STATUS (Table 22.8): queue pairs may be bound while the service core runs beside a layout of DDR5 (log entry 34). -/
def State.hostStatus (s : State) : Nat :=
  b2n (s.running 1 && s.running 5 && s.hasLayout && !s.ddrHeld) + (s.dom 1).tag % 4096 * 2 ^ 16

/-- Registers of the scheduler's block that show other state (Table 3.11). -/
def State.schRead (s : State) (k : Nat) : Nat :=
  let o := k % 0x10000
  if k = Reg.SCH_STATUS then s.rolesMask .open + s.rolesMask .standing * 2 ^ 16
  else if 0x8000 ≤ o ∧ o % 0x100 = 4 then
    (s.ctx ((o - 0x8000) / 0x100)).state.code + s.shownCause ((o - 0x8000) / 0x100) * 2 ^ 4 + (s.ctx ((o - 0x8000) / 0x100)).head * 2 ^ 16
  else s.rn k

/-- Registers of the tier manager, the page pool, the DMA and the Canopy that show other state (Tables 8.10, 11.12, 11.14 and 11.16); which engines are
busy at an instant is open. -/
def State.tierRead (s : State) (k : Nat) : Nat :=
  if k = Reg.TIER_STATUS then s.tiers.objs.length
  else if k = Reg.TIER_DDR_OPEN then s.thePlan.ddrOpen
  else if k = Reg.TIER_DDR_FREE then s.ddrPoolFree
  else if k = Reg.PAGE_POOL_CFG then s.pages.pageTiles + (s.pages.lists.filter (·.2.feature)).length * 2 ^ 8
  else if k = Reg.PAGE_POOL_FRAMES then s.pages.frames
  else if k = Reg.PAGE_FREE then s.freeFrames
  else if k = Reg.PAGE_SHARED then s.sharedFrames
  else if k = Reg.DMA_STATUS then (if s.dma.xfers.isEmpty then 0 else Config.freeFn 63 [s.fresh] % 65536)
  else if k = Reg.CNP_POOL_BASE then s.thePlan.poolBase
  else if k = Reg.CNP_POOL_TILES then s.thePlan.cnpOpen
  else if k = Reg.CNP_FREE_TILES then s.cnpFree
  else if k = Reg.CNP_BORROWED then s.cnpBorrowed
  else if k = Reg.CNP_AGE_TICKS then s.thePlan.ageTicks
  else if Reg.CNP_STANDING_KIB 0 ≤ k ∧ k ≤ Reg.CNP_STANDING_KIB 7 ∧ k % 4 = 0 then
    s.thePlan.canopyKib ((k - Reg.CNP_STANDING_KIB 0) / 4)
  else s.rn k

/-- SEQ_STATUS and SEQ_ESTAT_e (Table 10.7). -/
def State.seqRead (s : State) (k : Nat) : Nat :=
  let o := k % 0x10000
  if k = Reg.SEQ_STATUS then s.seqStatus
  else if 0x8000 ≤ o ∧ o % 0x40 = 8 then s.seqEstat ((o - 0x8000) / 0x40)
  else s.rn k

/-- Registers of the system block that show other state (Table 1.9). -/
def State.sysRead (s : State) (k : Nat) : Nat :=
  if k = Reg.SYS_STRAPS then s.pins.straps
  else if k = Reg.SYS_DOMAIN_RESET then maskOf ((List.range 9).map s.inReset)
  else if k = Reg.SYS_DOMAIN_REQ then 0
  else if Reg.SYS_GEN_TAG 0 ≤ k ∧ k ≤ Reg.SYS_GEN_TAG 8 ∧ k % 4 = 0 then (s.dom ((k - Reg.SYS_GEN_TAG 0) / 4)).tag
  else s.rn k

/-- The registers that read zero whatever was written. -/
def readsZero (k : Nat) : Bool :=
  k == Reg.LKT_KICK_K || k == Reg.LKT_KICK_S || k == Reg.MBX_DOORBELL 0 || k == Reg.MBX_DOORBELL 1

/-- The value that a read of register `k` returns: a reserved offset reads as zero (R9). -/
def State.regRead (s : State) (k : Nat) : Nat :=
  if (findRow k).isNone || readsZero k then 0
  else match k / 0x10000 with
    | 0x00 => s.sysRead k
    | 0x02 => if k = Reg.PWR_DOMAIN then s.powerDomain else s.rn k
    | 0x05 => s.schRead k
    | 0x06 => s.tierRead k
    | 0x07 => s.tierRead k
    | 0x08 => s.seqRead k
    | 0x09 => s.tierRead k
    | 0x2A =>
      if k = Reg.DDR_CTRL then s.pins.population % 2 + s.pins.density % 4 * 2 ^ 4 + s.pins.maxSpeed % 4 * 2 ^ 8 else s.rn k
    | 0x2B => if k = Reg.PCI_HOST_STATUS then s.hostStatus else s.rn k
    | b =>
      if 0x10 ≤ b ∧ b ≤ 0x1F then
        (if k = Reg.GRV_STATUS (b - 0x10) then s.grvStatus (b - 0x10)
         else if k = Reg.GRV_SKID_VALID (b - 0x10) then s.skidValid (b - 0x10)
         else s.rn k)
      else s.rn k

/-- A 32-bit read of register `k` with what it captures (R6). -/
def State.readReg (s : State) (k : Nat) : State × Nat :=
  let (s, v) := s.readPair k (s.regRead k) (s.regRead (k + 4))
  (if k = Reg.DMA_STATUS then s.tickFresh else s, v)

/-! ### What a write of a register does -/

/-- A write with no other effect than on its fields. -/
def State.plainStore (s : State) (init : Initiator) (k v : Nat) : State := s.storePair (decide (init = .kernel)) k v

/-- The lookout's registers. -/
def State.lktWrite (s : State) (init : Initiator) (k v : Nat) : State :=
  if k = Reg.LKT_KICK_K then s
  else if k = Reg.LKT_KICK_S then s.kickService
  else if k = Reg.LKT_TILE_NS then s.setTileNs v
  else if k = Reg.LKT_TEST_REQ then s.testReq v
  else s.plainStore init k v

/-- The scheduler's block, with the plan and mode registers. -/
def State.schWrite (s : State) (init : Initiator) (k v : Nat) : State :=
  let o := k % 0x10000
  if k = Reg.MODE_REQ then s.modeReq (decide (init = .kernel)) v
  else if k = Reg.SCH_CTX_SEL then s.schCtxSel v
  else if 0x100 ≤ o ∧ o < 0x140 then s.setSwapRate ((o - 0x100) / 4) v
  else if 0x8000 ≤ o ∧ o % 0x100 = 0 then s.doorbell ((o - 0x8000) / 0x100) v
  else s.plainStore init k v

/-- The tier manager's block, with the page pool's registers. -/
def State.tierWrite (s : State) (init : Initiator) (k v : Nat) : State :=
  if k = Reg.TIER_OBJ_OP then s.tierOp v
  else if k = Reg.PAGE_OP then s.pageOp v
  else if k = Reg.TIER_OBJ_SEL then s.tierObjSel v
  else if k = Reg.TIER_QUOTA_SEL then s.tierQuotaSel v
  else s.plainStore init k v

/-- The active sequence table's block: a group's registers cannot change while an entry names the group (R191). -/
def State.seqWrite (s : State) (init : Initiator) (k v : Nat) : State :=
  let o := k % 0x10000
  let g := (o - 0x100) / 0x20
  let e := (o - 0x8000) / 0x40
  if k = Reg.SEQ_OP then s.seqOp v
  else if k = Reg.SEQ_ENT_SEL then s.seqEntSel v
  else if 0x100 ≤ o ∧ o < 0x300 then
    (if o % 0x20 = 0x14 then s.grpGo g v
     else if o % 0x20 < 0x14 ∧ (s.seqt.entries.any (fun e => e.2.group == g)) = true then s.reportOwn 2 Reg.SEQ_EVT 1
     else s.plainStore init k v)
  else if 0x8000 ≤ o ∧ o % 0x40 = 0 then (s.storeReg false k v).submitTail e (fld v 0 16)
  else if 0x8000 ≤ o ∧ o % 0x40 = 4 then (s.storeReg false k v).outAck e (fld v 0 16)
  else s.plainStore init k v

/-- The PCI block by the kernel, the cores and the service core: the host page alone writes its RW fields outside PCI_SQ_PEND and
the queue pair registers (R433, R443). -/
def State.pciWrite (s : State) (init : Initiator) (k v : Nat) : State :=
  let o := k % 0x10000
  let q := (o - 0x1000) / 0x20
  if 0x20 ≤ o ∧ o < 0x30 then s.sqPend init ((o - 0x20) / 4) v
  else if o < 0x100 then s
  else if 0x1000 ≤ o ∧ o < 0x2000 ∧ o % 0x20 = 0x10 then s.sqHead (decide (init = .kernel)) q v
  else if 0x1000 ≤ o ∧ o < 0x2000 ∧ o % 0x20 = 0x14 then s.cqTail (decide (init = .kernel)) q v
  else s.plainStore init k v

/-- PWR_TIMER runs from the write that sets MS (R354). -/
def State.timerWrite (s : State) (init : Initiator) (v : Nat) : State :=
  let s := s.plainStore init Reg.PWR_TIMER v
  { s with pwr.timerRun := s.rf Reg.PWR_TIMER 0 24 != 0 }

/-- The power sequencer's block. -/
def State.pwrWrite (s : State) (init : Initiator) (k v : Nat) : State :=
  if k = Reg.PWR_STATE_REQ then (s.plainStore init k v).requestState (v % 4)
  else if k = Reg.PWR_TIMER then s.timerWrite init v
  else if Reg.PWR_VOTE 0 ≤ k ∧ k ≤ Reg.PWR_VOTE 3 ∧ k % 4 = 0 then s.writeVote ((k - Reg.PWR_VOTE 0) / 4) v
  else s.plainStore init k v

/-- MIC_BIAS written: an output that a fault switched off comes back (R284). -/
def State.biasWrite (s : State) (init : Initiator) (v : Nat) : State :=
  let s := s.plainStore init Reg.MIC_BIAS v
  ({ s with mic.biasOff := 0 }).showMic

/-- The microphones, the Dawn domain and the camera. -/
def State.sensorWrite (s : State) (init : Initiator) (k v : Nat) : State :=
  let o := k % 0x10000
  if k = Reg.MIC_BIAS then s.biasWrite init v
  else if k = Reg.MIC_CFG then (s.plainStore init k v).showMic
  else if k = Reg.MIC_MUTE then s.writeMute (decide (init = .kernel)) v
  else if k = Reg.DAWN_HOST_WAKE then (if bitOf v 0 then s.releaseWake else s)
  else if k = Reg.IPL_COMMIT then s.iplCommit (decide (init = .kernel)) v
  else if k / 0x10000 = 0x25 ∧ 0x800 ≤ o ∧ o < 0x900 ∧ o % 0x20 = 0 then s.writeSetCtrl ((o - 0x800) / 0x20) (decide (init = .kernel)) v
  else s.plainStore init k v

/-- DDR_ERR_INFO: clearing VALID clears OVERFLOW (Table 12.5). -/
def State.errInfoWrite (s : State) (init : Initiator) (v : Nat) : State :=
  let s := s.plainStore init Reg.DDR_ERR_INFO v
  if bitOf v 31 then s.setRb Reg.DDR_ERR_INFO 30 false else s

/-- The effect of a 32-bit write of register `k` that has reached it. -/
def State.regEffect (s : State) (init : Initiator) (k v : Nat) : State :=
  match k / 0x10000 with
  | 0x00 => if k = Reg.SYS_DOMAIN_REQ then s.domainReq v else s.plainStore init k v
  | 0x01 =>
    if k = Reg.MBX_DOORBELL 0 then s.mbxDoorbell 0
    else if k = Reg.MBX_DOORBELL 1 then s.mbxDoorbell 1
    else s.plainStore init k v
  | 0x02 => s.pwrWrite init k v
  | 0x03 =>
    if k = Reg.EVR_SEL 0 then s.writeSel 0 (decide (init = .kernel)) v
    else if k = Reg.EVR_SEL 1 then s.writeSel 1 (decide (init = .kernel)) v
    else s.plainStore init k v
  | 0x04 => s.lktWrite init k v
  | 0x05 => s.schWrite init k v
  | 0x07 => s.tierWrite init k v
  | 0x08 => s.seqWrite init k v
  | 0x20 => if k = Reg.VIN_HPD then (s.plainStore init k v).showHpd else s.plainStore init k v
  | 0x24 => s.sensorWrite init k v
  | 0x25 => s.sensorWrite init k v
  | 0x26 => s.sensorWrite init k v
  | 0x27 => s.sensorWrite init k v
  | 0x2A => if k = Reg.DDR_ERR_INFO then s.errInfoWrite init v else s.plainStore init k v
  | 0x2B => s.pciWrite init k v
  | _ => s.plainStore init k v

/-- Whether only the kernel writes register `k` (R7): every field is RK, or its row says so for this register. -/
def rkReg (k : Nat) : Bool := regIsRk k || k == Reg.PWR_VOTE 0

/-- A 32-bit write of register `k` by an initiator that reaches it (R7, R9). -/
def State.writeReg (s : State) (init : Initiator) (k v : Nat) : State :=
  if rkReg k && decide (init ≠ .kernel) then s.denyRk init k
  else if (findRow k).isNone then s
  else s.regEffect init k (v % 2 ^ 32)

/-! ### Access sizes (R5) -/

/-- An access to a space of 32-bit words at offset `o`: `rd` and `wr` are its aligned 32-bit read and write. -/
def State.wordAccess (s : State) (kind : AccessKind) (o size value : Nat) (rd : State → Nat → State × Nat)
    (wr : State → Nat → Nat → State) : State :=
  match kind with
  | .read =>
    if size = 0 ∨ o % size ≠ 0 then s.answer (.data 0)
    else if size = 4 then
      let (s, v) := rd s o
      s.answer (.data v)
    else if size = 8 then
      let (s, lo) := rd s o
      let (s, hi) := rd s (o + 4)
      s.answer (.data (lo + 2 ^ 32 * hi))
    else if size = 1 ∨ size = 2 then s.answer (.data (fld (rd s (o / 4 * 4)).2 (8 * (o % 4)) (8 * size)))
    else s.answer (.data 0)
  | .write =>
    if size = 4 ∧ o % 4 = 0 then (wr s o (value % 2 ^ 32)).answer .done
    else if size = 8 ∧ o % 8 = 0 then (wr (wr s o (value % 2 ^ 32)) (o + 4) (value / 2 ^ 32 % 2 ^ 32)).answer .done
    else s.answer .done

/-- What a block that is in reset or off answers: zero, and writes ignored (R21, R376). -/
def State.deadAnswer (s : State) (kind : AccessKind) : State :=
  s.answer (match kind with | .read => .data 0 | .write => .done)

/-- The 32-bit words that an access touches, as the gate sees them: one of another size than R5 gives a meaning counts as its word. -/
def wordSpan (addr size : Nat) : Nat × Nat :=
  if size = 8 ∧ addr % 8 = 0 then (addr, 8) else (addr / 4 * 4, 4)

/-- An access to a register by address. -/
def State.registerAccess (s : State) (init : Initiator) (kind : AccessKind) (addr size value : Nat) : State :=
  let span := wordSpan addr size
  match s.gate init span.1 span.2 (kind == .write) with
  | .pass => s.wordAccess kind (addr - regBase) size value State.readReg (fun s k v => s.writeReg init k v)
  | .denied => s.denyAccess init addr (kind == .write)
  | .silent => s.deadAnswer kind
  | .held => s.deadAnswer kind

/-! ### Accesses by address (R17 to R20, R394) -/

/-- An access by an initiator that can issue one: to a register, or to memory with `symbols` erroneous symbols in its line. -/
def State.access (s : State) (init : Initiator) (kind : AccessKind) (addr size value symbols : Nat) : State :=
  if !s.acts init || size == 0 then s
  else match regionOf addr with
    | .registers _ => s.registerAccess init kind addr size value
    | _ =>
      match s.gate init addr size (kind == .write) with
      | .pass => s.memAccess init kind addr size value symbols
      | .denied => s.denyAccess init addr (kind == .write)
      | .silent => s.deadAnswer kind
      | .held => s.hold init kind addr size value

/-- REGISTER_WRITE (R5). -/
def execRegisterWrite (init : Initiator) (addr size value : Nat) (s : State) : Host.Outcome State Fault Refusal :=
  .next (s.access init .write addr size value 0)

/-- MEMORY_ACCESS (R394). -/
def execMemoryAccess (init : Initiator) (kind : AccessKind) (addr size value symbols : Nat) (s : State) :
    Host.Outcome State Fault Refusal :=
  .next (s.access init kind addr size value symbols)

/-! ### The BARs (R432, Table 22.2) -/

/-- A word of queue pair page `q` (Table 22.4). -/
def State.pageRead (s : State) (q o : Nat) : Nat :=
  match o with
  | 0x0 => s.rf (Reg.QP_SQ q) 0 16
  | 0x4 => s.rf (Reg.QP_CQ q) 0 16
  | 0x8 => b2n (s.qpOn q) + s.rf (Reg.QP_SQ q) 16 16 * 2 ^ 16
  | 0xC => s.rf (Reg.QP_CQ_TAIL q) 0 16
  | _ => 0
/-- A write to queue pair page `q`: any is bad while the queue pair is disabled (R435). -/
def State.pageWrite (s : State) (q o v : Nat) : State :=
  if o = 0 then s.sqTail q v
  else if o = 4 then s.cqHead q v
  else if s.qpOn q then s
  else s.doorbellBad

/-- A word of the MSI-X pending bit array. -/
def State.pbaWord (s : State) (o : Nat) : Nat := fld s.pci.msixPending (8 * o) 32

/-- A write through the host page: the RW fields of the PCI block but PCI_SQ_PEND (R443). -/
def State.hostPageWrite (s : State) (o v : Nat) : State :=
  if 0x20 ≤ o ∧ o < 0x30 then s else s.storePair false (0x2B0000 + o) v

/-- Unsupported Request: a write is discarded and counted (R432). -/
def State.unsupported (s : State) (kind : AccessKind) : State :=
  match kind with
  | .read => s.answer .unsupportedRequest
  | .write => (s.count Reg.PCI_DENIED 1).answer .discarded

/-- An access to the endpoint's own space of BAR0 at offset `o` from 0x30_0000 on. -/
def State.endpointAccess (s : State) (kind : AccessKind) (o size value : Nat) : State :=
  if o < 0x380000 then
    (if !s.blockLive 0x2B then s.deadAnswer kind
     else s.wordAccess kind o size value (fun s o => (s, s.pageRead ((o - 0x300000) / 0x1000) (o % 0x1000)))
      (fun s o v => s.pageWrite ((o - 0x300000) / 0x1000) (o % 0x1000) v))
  else if o < 0x380820 then
    s.wordAccess kind o size value (fun s o => (s, s.msixWord ((o - 0x380000) / 4))) (fun s o v => s.msixWrite ((o - 0x380000) / 4) v)
  else if 0x381000 ≤ o ∧ o < 0x381018 then
    s.wordAccess kind o size value (fun s o => (s, s.pbaWord (o - 0x381000))) (fun s _ _ => s)
  else if 0x382000 ≤ o ∧ o < 0x382100 then
    (if !s.blockLive 0x2B then s.deadAnswer kind
     else s.wordAccess kind o size value (fun s o => s.readReg (0x2B0000 + (o - 0x382000))) (fun s o v => s.hostPageWrite (o - 0x382000) v))
  else s.unsupported kind

/-- PCIE_INBOUND_ACCESS (R432): BAR0, BAR2, or a BAR that the endpoint does not have. -/
def execPcieInboundAccess (bar : Fin 3) (kind : AccessKind) (offset size value : Nat) (s : State) : Host.Outcome State Fault Refusal :=
  .next (if !s.acts .pcie || size == 0 then s
    else if bar.val = 0 then
      (if offset < 0x300000 then s.access .pcie kind (regBase + offset) size value 0 else s.endpointAccess kind offset size value)
    else if bar.val = 2 ∧ offset < 0x1000000000 then s.access .pcie kind (ddrBase + offset) size value 0
    else s.unsupported kind)

end Sys2Proof.Machine
end

