-- ==== Sys2Proof/Machine/Dispatch.lean ====
section
/-! DEFINITION. The dispatch of a command to its meaning: one arm for each row of the opcode table. -/
namespace Sys2Proof.Machine
open Sys2Proof

/-- The effect of command `i` on everything but the queue. -/
def exec (i : Instr) (s : State) : Host.Outcome State Fault Refusal :=
  match i with
  | .registerWrite init addr size value => Sys2Proof.Machine.execRegisterWrite init addr size value s
  | .memoryAccess init kind addr size value symbols => Sys2Proof.Machine.execMemoryAccess init kind addr size value symbols s
  | .sysDomainReq init value => Sys2Proof.Machine.execSysDomainReq init value s
  | .domainReset d => Sys2Proof.Machine.execDomainReset d s
  | .domainRelease d => Sys2Proof.Machine.execDomainRelease d s
  | .powerOnReset => Sys2Proof.Machine.execPowerOnReset s
  | .externalReset pulseNs => Sys2Proof.Machine.execExternalReset pulseNs s
  | .coldStart step => Sys2Proof.Machine.execColdStart step s
  | .ddrTraining speeds => Sys2Proof.Machine.execDdrTraining speeds s
  | .ddrTrainingEnd => Sys2Proof.Machine.execDdrTrainingEnd s
  | .ddrRestore ok speeds => Sys2Proof.Machine.execDdrRestore ok speeds s
  | .planAdmission => Sys2Proof.Machine.execPlanAdmission s
  | .planReplacesRom => Sys2Proof.Machine.execPlanReplacesRom s
  | .planReadmission => Sys2Proof.Machine.execPlanReadmission s
  | .modeReq init value => Sys2Proof.Machine.execModeReq init value s
  | .modeChangeTake => Sys2Proof.Machine.execModeChangeTake s
  | .modeWeightsResident => Sys2Proof.Machine.execModeWeightsResident s
  | .modeSwitch => Sys2Proof.Machine.execModeSwitch s
  | .tickBoundary => Sys2Proof.Machine.execTickBoundary s
  | .hdmiFrameStart atNs => Sys2Proof.Machine.execHdmiFrameStart atNs s
  | .frameStartTimeout => Sys2Proof.Machine.execFrameStartTimeout s
  | .aliveTimerToggle => Sys2Proof.Machine.execAliveTimerToggle s
  | .doorbellWrite init ctx value => Sys2Proof.Machine.execDoorbellWrite init ctx value s
  | .tileBoundary g => Sys2Proof.Machine.execTileBoundary g s
  | .swapComplete g elapsedUs => Sys2Proof.Machine.execSwapComplete g elapsedUs s
  | .windowBoundary g ctx begins => Sys2Proof.Machine.execWindowBoundary g ctx begins s
  | .groveIdle g => Sys2Proof.Machine.execGroveIdle g s
  | .schCtxSel init value => Sys2Proof.Machine.execSchCtxSel init value s
  | .schSwapMbps init g value => Sys2Proof.Machine.execSchSwapMbps init g value s
  | .nop g => Sys2Proof.Machine.execNop g s
  | .matmul g => Sys2Proof.Machine.execMatmul g s
  | .conv g => Sys2Proof.Machine.execConv g s
  | .poolMax g => Sys2Proof.Machine.execPoolMax g s
  | .poolAvg g => Sys2Proof.Machine.execPoolAvg g s
  | .argmax g => Sys2Proof.Machine.execArgmax g s
  | .ew g => Sys2Proof.Machine.execEw g s
  | .scan g => Sys2Proof.Machine.execScan g s
  | .attn g => Sys2Proof.Machine.execAttn g s
  | .moveBytes g => Sys2Proof.Machine.execMoveBytes g s
  | .xfer g => Sys2Proof.Machine.execXfer g s
  | .waitXfers g => Sys2Proof.Machine.execWaitXfers g s
  | .tally g => Sys2Proof.Machine.execTally g s
  | .commandComplete g cycles => Sys2Proof.Machine.execCommandComplete g cycles s
  | .capStop g => Sys2Proof.Machine.execCapStop g s
  | .transferPiece symbols => Sys2Proof.Machine.execTransferPiece symbols s
  | .transferComplete t => Sys2Proof.Machine.execTransferComplete t s
  | .copyOnWrite t symbols => Sys2Proof.Machine.execCopyOnWrite t symbols s
  | .frameDrainEnd frame => Sys2Proof.Machine.execFrameDrainEnd frame s
  | .listNew init value => Sys2Proof.Machine.execListNew init value s
  | .listFree init value => Sys2Proof.Machine.execListFree init value s
  | .listAppend init value => Sys2Proof.Machine.execListAppend init value s
  | .listTruncate init value => Sys2Proof.Machine.execListTruncate init value s
  | .listFork init value => Sys2Proof.Machine.execListFork init value s
  | .listPublish init value => Sys2Proof.Machine.execListPublish init value s
  | .poolAudit init value => Sys2Proof.Machine.execPoolAudit init value s
  | .seqAdmit init value => Sys2Proof.Machine.execSeqAdmit init value s
  | .seqRetire init value => Sys2Proof.Machine.execSeqRetire init value s
  | .seqHold init value => Sys2Proof.Machine.execSeqHold init value s
  | .seqRelease init value => Sys2Proof.Machine.execSeqRelease init value s
  | .seqPrio init value => Sys2Proof.Machine.execSeqPrio init value s
  | .seqEntSel init value => Sys2Proof.Machine.execSeqEntSel init value s
  | .seqSubmit init e value => Sys2Proof.Machine.execSeqSubmit init e value s
  | .seqOutack init e value => Sys2Proof.Machine.execSeqOutack init e value s
  | .stepBuild grp => Sys2Proof.Machine.execStepBuild grp s
  | .seqGrpGo init grp value => Sys2Proof.Machine.execSeqGrpGo init grp value s
  | .stepCompletion t => Sys2Proof.Machine.execStepCompletion t s
  | .scheduledBoundary grp => Sys2Proof.Machine.execScheduledBoundary grp s
  | .objNew init value => Sys2Proof.Machine.execObjNew init value s
  | .objFree init value => Sys2Proof.Machine.execObjFree init value s
  | .objPlace init value => Sys2Proof.Machine.execObjPlace init value s
  | .objFlush init value => Sys2Proof.Machine.execObjFlush init value s
  | .objectMoveDone obj => Sys2Proof.Machine.execObjectMoveDone obj s
  | .objectDrainEnd obj => Sys2Proof.Machine.execObjectDrainEnd obj s
  | .ageEviction => Sys2Proof.Machine.execAgeEviction s
  | .tierObjSel init value => Sys2Proof.Machine.execTierObjSel init value s
  | .tierQuotaSel init value => Sys2Proof.Machine.execTierQuotaSel init value s
  | .scrubLine symbols => Sys2Proof.Machine.execScrubLine symbols s
  | .hdmiLinkLock timing => Sys2Proof.Machine.execHdmiLinkLock timing s
  | .hdmiLinkLoss => Sys2Proof.Machine.execHdmiLinkLoss s
  | .inputLost => Sys2Proof.Machine.execInputLost s
  | .timingChange timing => Sys2Proof.Machine.execTimingChange timing s
  | .inputRow samples errors => Sys2Proof.Machine.execInputRow samples errors s
  | .bandDecision => Sys2Proof.Machine.execBandDecision s
  | .outputFrameStart => Sys2Proof.Machine.execOutputFrameStart s
  | .dpLinkTrain sinkRates trains preferred => Sys2Proof.Machine.execDpLinkTrain sinkRates trains preferred s
  | .dpTrainRetry trains => Sys2Proof.Machine.execDpTrainRetry trains s
  | .dpSinkIrq trains => Sys2Proof.Machine.execDpSinkIrq trains s
  | .voutMute init value => Sys2Proof.Machine.execVoutMute init value s
  | .bypCtrl init value => Sys2Proof.Machine.execBypCtrl init value s
  | .vinHpd init value => Sys2Proof.Machine.execVinHpd init value s
  | .micFrame samples => Sys2Proof.Machine.execMicFrame samples s
  | .dawnHop score => Sys2Proof.Machine.execDawnHop score s
  | .biasFault n => Sys2Proof.Machine.execBiasFault n s
  | .micMute init value => Sys2Proof.Machine.execMicMute init value s
  | .followTimeout => Sys2Proof.Machine.execFollowTimeout s
  | .cascadeVoteTimeout => Sys2Proof.Machine.execCascadeVoteTimeout s
  | .hostWakeHoldExpiry => Sys2Proof.Machine.execHostWakeHoldExpiry s
  | .dawnHostWake init value => Sys2Proof.Machine.execDawnHostWake init value s
  | .camVsync => Sys2Proof.Machine.execCamVsync s
  | .camFrameEnd rows => Sys2Proof.Machine.execCamFrameEnd rows s
  | .camNoSignal => Sys2Proof.Machine.execCamNoSignal s
  | .iplCommit init value => Sys2Proof.Machine.execIplCommit init value s
  | .presenceMark => Sys2Proof.Machine.execPresenceMark s
  | .presenceScore score => Sys2Proof.Machine.execPresenceScore score s
  | .setEnable init set value => Sys2Proof.Machine.execSetEnable init set value s
  | .sampleDecodeDone set mcuRows corrupt symbols => Sys2Proof.Machine.execSampleDecodeDone set mcuRows corrupt symbols s
  | .batchWrite set => Sys2Proof.Machine.execBatchWrite set s
  | .iplSetAck init set value => Sys2Proof.Machine.execIplSetAck init set value s
  | .portTraining p ok => Sys2Proof.Machine.execPortTraining p ok s
  | .portTrainRetry p ok => Sys2Proof.Machine.execPortTrainRetry p ok s
  | .ringWaitExpiry => Sys2Proof.Machine.execRingWaitExpiry s
  | .flitIdle p flit => Sys2Proof.Machine.execFlitIdle p flit s
  | .flitWrite p flit => Sys2Proof.Machine.execFlitWrite p flit s
  | .flitReadReq p flit => Sys2Proof.Machine.execFlitReadReq p flit s
  | .flitReadData p flit => Sys2Proof.Machine.execFlitReadData p flit s
  | .flitHello p flit => Sys2Proof.Machine.execFlitHello p flit s
  | .flitRing p flit => Sys2Proof.Machine.execFlitRing p flit s
  | .flitStatus p flit => Sys2Proof.Machine.execFlitStatus p flit s
  | .flitTick p flit => Sys2Proof.Machine.execFlitTick p flit s
  | .reservedFlit p type flit => Sys2Proof.Machine.execReservedFlit p type flit s
  | .replayTimeout p => Sys2Proof.Machine.execReplayTimeout p s
  | .tickFlitTimeout => Sys2Proof.Machine.execTickFlitTimeout s
  | .peerTimeout p => Sys2Proof.Machine.execPeerTimeout p s
  | .pwrStateReq init value => Sys2Proof.Machine.execPwrStateReq init value s
  | .pwrVote init client value => Sys2Proof.Machine.execPwrVote init client value s
  | .s1Entry => Sys2Proof.Machine.execS1Entry s
  | .s2Entry => Sys2Proof.Machine.execS2Entry s
  | .s2Exit => Sys2Proof.Machine.execS2Exit s
  | .s3Entry => Sys2Proof.Machine.execS3Entry s
  | .s3Exit => Sys2Proof.Machine.execS3Exit s
  | .wakeInRise heldUs => Sys2Proof.Machine.execWakeInRise heldUs s
  | .wakeTimerExpiry => Sys2Proof.Machine.execWakeTimerExpiry s
  | .pmbusPowerGood => Sys2Proof.Machine.execPmbusPowerGood s
  | .pmbusTimeout => Sys2Proof.Machine.execPmbusTimeout s
  | .pmbusRetry => Sys2Proof.Machine.execPmbusRetry s
  | .thermalSample temps => Sys2Proof.Machine.execThermalSample temps s
  | .thermalDwellExpiry => Sys2Proof.Machine.execThermalDwellExpiry s
  | .thermalHoldExpiry => Sys2Proof.Machine.execThermalHoldExpiry s
  | .pgFail ret lowUs => Sys2Proof.Machine.execPgFail ret lowUs s
  | .pgTimeout ret => Sys2Proof.Machine.execPgTimeout ret s
  | .tileTimerExpiry g => Sys2Proof.Machine.execTileTimerExpiry g s
  | .lktGroveStuck g => Sys2Proof.Machine.execLktGroveStuck g s
  | .lktDmaTimeout swap n written => Sys2Proof.Machine.execLktDmaTimeout swap n written s
  | .lktKernelWd => Sys2Proof.Machine.execLktKernelWd s
  | .lktServiceWd => Sys2Proof.Machine.execLktServiceWd s
  | .lktVideoStall => Sys2Proof.Machine.execLktVideoStall s
  | .lktMissLimit stream => Sys2Proof.Machine.execLktMissLimit stream s
  | .lktKickK init value => Sys2Proof.Machine.execLktKickK init value s
  | .lktKickS init value => Sys2Proof.Machine.execLktKickS init value s
  | .lktTileNs init value => Sys2Proof.Machine.execLktTileNs init value s
  | .standingImageRewrite => Sys2Proof.Machine.execStandingImageRewrite s
  | .testTile g delay good => Sys2Proof.Machine.execTestTile g delay good s
  | .lktTestReq init value => Sys2Proof.Machine.execLktTestReq init value s
  | .testEnd failed abandoned => Sys2Proof.Machine.execTestEnd failed abandoned s
  | .mbxDoorbell b init value => Sys2Proof.Machine.execMbxDoorbell b init value s
  | .ctxStart b => Sys2Proof.Machine.execCtxStart b s
  | .ctxStop b => Sys2Proof.Machine.execCtxStop b s
  | .ctxPrio b => Sys2Proof.Machine.execCtxPrio b s
  | .winGrant b => Sys2Proof.Machine.execWinGrant b s
  | .winRevoke b => Sys2Proof.Machine.execWinRevoke b s
  | .seqGroup b => Sys2Proof.Machine.execSeqGroup b s
  | .pkgLoad b => Sys2Proof.Machine.execPkgLoad b s
  | .mbxReset b => Sys2Proof.Machine.execMbxReset b s
  | .swapRate b => Sys2Proof.Machine.execSwapRate b s
  | .mbxTest b => Sys2Proof.Machine.execMbxTest b s
  | .camRing b => Sys2Proof.Machine.execCamRing b s
  | .mbxAttest b => Sys2Proof.Machine.execMbxAttest b s
  | .mbxCert b => Sys2Proof.Machine.execMbxCert b s
  | .qpBind b => Sys2Proof.Machine.execQpBind b s
  | .updOpen b => Sys2Proof.Machine.execUpdOpen b s
  | .updWrite b => Sys2Proof.Machine.execUpdWrite b s
  | .updClose b => Sys2Proof.Machine.execUpdClose b s
  | .updCommit b => Sys2Proof.Machine.execUpdCommit b s
  | .updAbort b => Sys2Proof.Machine.execUpdAbort b s
  | .updStatus b => Sys2Proof.Machine.execUpdStatus b s
  | .osRead b => Sys2Proof.Machine.execOsRead b s
  | .osWrite b => Sys2Proof.Machine.execOsWrite b s
  | .eventRecord event => Sys2Proof.Machine.execEventRecord event s
  | .rateWindowEnd => Sys2Proof.Machine.execRateWindowEnd s
  | .evrSel init port value => Sys2Proof.Machine.execEvrSel init port value s
  | .perst => Sys2Proof.Machine.execPerst s
  | .flr => Sys2Proof.Machine.execFlr s
  | .pcieLinkDown => Sys2Proof.Machine.execPcieLinkDown s
  | .pcieInboundAccess bar kind offset size value => Sys2Proof.Machine.execPcieInboundAccess bar kind offset size value s
  | .pciObBase high value => Sys2Proof.Machine.execPciObBase high value s
  | .qppSqTail q value => Sys2Proof.Machine.execQppSqTail q value s
  | .qppCqHead q value => Sys2Proof.Machine.execQppCqHead q value s
  | .qpSqHead init q value => Sys2Proof.Machine.execQpSqHead init q value s
  | .qpCqTail init q value => Sys2Proof.Machine.execQpCqTail init q value s
  | .pciSqPend init group value => Sys2Proof.Machine.execPciSqPend init group value s
  | .mgtHello d => Sys2Proof.Machine.execMgtHello d s
  | .mgtOpen d => Sys2Proof.Machine.execMgtOpen d s
  | .mgtEnroll d => Sys2Proof.Machine.execMgtEnroll d s
  | .mgtClose d => Sys2Proof.Machine.execMgtClose d s
  | .mgtLogRead d => Sys2Proof.Machine.execMgtLogRead d s
  | .mgtAttest d => Sys2Proof.Machine.execMgtAttest d s
  | .mgtCert d => Sys2Proof.Machine.execMgtCert d s
  | .mgtReset d => Sys2Proof.Machine.execMgtReset d s
  | .mgtTest d => Sys2Proof.Machine.execMgtTest d s
  | .mgtUpdate d => Sys2Proof.Machine.execMgtUpdate d s
  | .mgtCredSet d => Sys2Proof.Machine.execMgtCredSet d s
  | .mgtPlankey d => Sys2Proof.Machine.execMgtPlankey d s
  | .sessionTimeout => Sys2Proof.Machine.execSessionTimeout s
  | .tapExtest => Sys2Proof.Machine.execTapExtest s
  | .tapSamplePreload => Sys2Proof.Machine.execTapSamplePreload s
  | .tapIdcode => Sys2Proof.Machine.execTapIdcode s
  | .tapClamp => Sys2Proof.Machine.execTapClamp s
  | .tapHighz => Sys2Proof.Machine.execTapHighz s
  | .tapBypass => Sys2Proof.Machine.execTapBypass s
  | .powerUp => Sys2Proof.Machine.execPowerUp s
  | .powerGoodRise ret => Sys2Proof.Machine.execPowerGoodRise ret s
  | .pmbAlert => Sys2Proof.Machine.execPmbAlert s
  | .pcieLinkUp => Sys2Proof.Machine.execPcieLinkUp s
  | .mgtLinkUp => Sys2Proof.Machine.execMgtLinkUp s
  | .mgtLinkDown => Sys2Proof.Machine.execMgtLinkDown s
  | .arpRequest senderMac senderIp targetIp => Sys2Proof.Machine.execArpRequest senderMac senderIp targetIp s
  | .icmpEchoRequest targetIp rest => Sys2Proof.Machine.execIcmpEchoRequest targetIp rest s
  | .infoframeCapture drm bytes => Sys2Proof.Machine.execInfoframeCapture drm bytes s
  | .badFlit p goodCrc flit => Sys2Proof.Machine.execBadFlit p goodCrc flit s

end Sys2Proof.Machine
end

