-- ==== Sys2Proof/Machine/Step.lean ====
section
/-! DEFINITION. One step of the device: the command at the front of the queue takes effect; on an empty queue a microsecond
of the device's time passes. -/
namespace Sys2Proof.Machine
open Sys2Proof

/-- A block that is commanded nothing: the microsecond counter of D0 moves on (R411, R57; log entry 1). -/
def State.idle (s : State) : State := { s with timeUs := s.timeUs + 1 }

/-- Take the command at the front of the queue and run it with the queue's rest; idle on an empty queue. -/
def step (s : State) : Host.Outcome State Fault Refusal :=
  match s.pending with
  | [] => .next s.idle
  | c :: rest => exec c { s with pending := rest }

/-- `s` with the command that a word of the opcode table spells at the front of its queue; the table gives no row bits, so
no word spells one and `s` is unchanged. -/
def State.withFetchWord (s : State) (nbits w : Nat) : State :=
  match decodeTableWord nbits w with
  | some c => { s with pending := c :: s.pending }
  | Option.none => s

end Sys2Proof.Machine
end

