-- ==== Sys2Proof/Safety.lean ====
section
/-! DEFINITION. What every state of a run keeps: the canonical form of memory and of the register file, legal generation tags, resets
that imply each other, the bounds of the recorder's queue and of the check cache, and the test access port's hold on the balls. -/
namespace Sys2Proof.Machine
open Sys2Proof

/-- The register file in canonical form: numbers rising, no entry at its reset value. -/
def State.regsCanonical (s : State) : Bool := tsorted 0 s.regs && tnoDefault regReset s.regs

/-- Every generation tag is 12 bits wide and never 0x000 (R28). -/
def State.tagsLegal (s : State) : Bool := s.domains.all (fun e => decide (1 ≤ e.2.tag) && decide (e.2.tag ≤ 4095))

/-- A reset of D0 implies every other, a reset of D1 implies D2 and D3 (R27), and a part whose TEST_EN was sampled high holds D1 to
D8 in reset (R458). -/
def State.resetsImply (s : State) : Prop :=
  (s.inReset 0 = true → ∀ d, s.inReset d = true)
    ∧ (s.inReset 1 = true → s.inReset 2 = true ∧ s.inReset 3 = true)
    ∧ (s.pins.testEn = true → ∀ d, 1 ≤ d → s.inReset d = true)

/-- SEQ is a 32-bit number and the queue of D0 holds at most 16 records (R411, R414). -/
def State.recorderBounded (s : State) : Prop := s.evr.seq < 2 ^ 32 ∧ s.evr.queue.length ≤ 16

/-- The check cache holds the check lines of at most 2,048 blocks (R243). -/
def State.cacheBounded (s : State) : Prop := s.ddr.checkDirty.length ≤ 2048

/-- With TEST_EN sampled low the device drives its own balls (R458). -/
def State.ballsOwned (s : State) : Prop := s.pins.testEn = false → s.tap.drive = .device

/-- What every step keeps. -/
structure State.Inv (s : State) : Prop where
  memory : Memory.wf s.mem = true
  registers : s.regsCanonical = true
  tags : s.tagsLegal = true
  resets : s.resetsImply
  recorder : s.recorderBounded
  cache : s.cacheBounded
  balls : s.ballsOwned

/-! ### What the statements about commands say -/

/-- Command `c` completes from `s`: it answers a next state, of which `P` holds. -/
def Completes (c : Instr) (s : State) (P : State → Prop) : Prop := ∃ t, exec c s = .next t ∧ P t

/-- The parts of the state, each named as its field. -/
inductive Part where
  | pending | timeUs | fresh | epoch | bus | regs | staged | captured | written | mem | lost | badLines
  | cap | evr | domains | groves | ctxs | plan | mode | tick | ddr | pages | tiers | dma | seqt | pic | mic
  | cam | sets | vil | pwr | lkt | sec | flash | emmc | boot | pci | mgt | tap | pins
  deriving DecidableEq, Repr

/-- Part `p` is in `t` as in `s`. -/
def Part.same (s t : State) : Part → Prop
  | .pending => t.pending = s.pending
  | .timeUs => t.timeUs = s.timeUs
  | .fresh => t.fresh = s.fresh
  | .epoch => t.epoch = s.epoch
  | .bus => t.bus = s.bus
  | .regs => t.regs = s.regs
  | .staged => t.staged = s.staged
  | .captured => t.captured = s.captured
  | .written => t.written = s.written
  | .mem => t.mem = s.mem
  | .lost => t.lost = s.lost
  | .badLines => t.badLines = s.badLines
  | .cap => t.cap = s.cap
  | .evr => t.evr = s.evr
  | .domains => t.domains = s.domains
  | .groves => t.groves = s.groves
  | .ctxs => t.ctxs = s.ctxs
  | .plan => t.plan = s.plan
  | .mode => t.mode = s.mode
  | .tick => t.tick = s.tick
  | .ddr => t.ddr = s.ddr
  | .pages => t.pages = s.pages
  | .tiers => t.tiers = s.tiers
  | .dma => t.dma = s.dma
  | .seqt => t.seqt = s.seqt
  | .pic => t.pic = s.pic
  | .mic => t.mic = s.mic
  | .cam => t.cam = s.cam
  | .sets => t.sets = s.sets
  | .vil => t.vil = s.vil
  | .pwr => t.pwr = s.pwr
  | .lkt => t.lkt = s.lkt
  | .sec => t.sec = s.sec
  | .flash => t.flash = s.flash
  | .emmc => t.emmc = s.emmc
  | .boot => t.boot = s.boot
  | .pci => t.pci = s.pci
  | .mgt => t.mgt = s.mgt
  | .tap => t.tap = s.tap
  | .pins => t.pins = s.pins

/-- The frame of a command: no part of the state changes but those listed. -/
def ChangesOnly (ps : List Part) (s t : State) : Prop := ∀ p, p ∉ ps → p.same s t

/-- A 32-bit write of register `k` by initiator `i` arrives (R20, R394): the initiator's domain runs, and its access passes. -/
abbrev State.reaches (s : State) (i : Initiator) (k : Nat) : Prop := s.acts i = true ∧ s.gate i (regAddr k) 4 true = .pass

/-- Every byte of memory reads in `t` as in `s`. -/
def SameMemory (s t : State) : Prop := ∀ a, t.rd8 a = s.rd8 a

/-- Every register reads in `t` as in `s`, but for those that `p` names. -/
def SameRegsBut (p : Nat → Prop) (s t : State) : Prop := ∀ k, ¬ p k → t.rn k = s.rn k

/-- The non-volatile storage, the straps and levels of the balls and the test access port are in `t` as in `s`. -/
def SameOutside (s t : State) : Prop := t.flash = s.flash ∧ t.emmc = s.emmc ∧ t.pins = s.pins ∧ t.tap = s.tap

/-- Tile command `c` issues `f` (R83, R86, R102, R106): where its checks `k` find no fault and the Skid slots it reads are resident, it
begins execution with the writes `w`, leaves its list or its ring position, and is counted; memory is as it was. -/
def Issues (c : Instr) (s : State) (f : Fetched) (k : IssueCheck) (w : List (Nat × List Byte)) : Prop :=
  f.firstFault k = none → s.missingSlots f k.regions = [] →
  Completes c s fun t =>
    (∃ e, (t.grove f.grove).run = some e ∧ e.op = opcodeOf f.cmd ∧ e.cmd = f.cmd ∧ e.owner = f.owner ∧ e.index = f.index
      ∧ e.cap = capOf f.cmd ∧ e.cycles = k.cycles ∧ e.writes = w ∧ e.issues = none)
    ∧ (t.grove f.grove).todo = (s.grove f.grove).todo.drop 1
    ∧ (∀ c, f.owner = .ctx c → (t.ctx c).head = ((s.ctx c).head + 1) % 2 ^ (s.ctx c).ringOrder)
    ∧ (s.blockLive (0x10 + f.grove) = true →
        t.r64 (Reg.GRV_ISSUED_LO f.grove) = (s.r64 (Reg.GRV_ISSUED_LO f.grove) + 1) % 2 ^ 64)
    ∧ (∀ h, h ≠ f.grove → t.grove h = s.grove h) ∧ ChangesOnly [.fresh, .regs, .groves, .ctxs] s t

/-- The registers in which mailbox `b` answers: its status and the first words of its response. -/
def mbxRegs (b k : Nat) : Prop := k = Reg.MBX_STATUS b ∨ ∃ i, i < 4 ∧ k = Reg.MBX_RSP b i

/-- The kernel takes the request of mailbox `b` now (R392), its OP is `op`, and LEN is within the service's and the mailbox's. -/
abbrev State.asked (s : State) (b op need : Nat) : Prop :=
  s.mbxDue b = true ∧ s.mbxOpCode b = op ∧ need ≤ s.mbxLen b ∧ s.mbxLen b ≤ 63

/-- Mailbox `b` is answered (R391): STATUS, the result words with their number, the request's TAG, and DONE. -/
def Answered (b : Nat) (s t : State) (status : Nat) (result : List Nat) : Prop :=
  t.rn (Reg.MBX_RSP b 0) = status + result.length * 2 ^ 16 + s.mbxTag b * 2 ^ 24
    ∧ (∀ i, i < result.length → t.rn (Reg.MBX_RSP b (1 + i)) = nth 0 result i % 2 ^ 32)
    ∧ t.rn (Reg.MBX_STATUS b) = 2 ∧ t.sec.lastTaken = b

/-- The services of Tables 19.2 and 21.5 on mailbox `b`: each with its OP, the mailboxes open to it and the words it needs. -/
def services (b : Fin 2) : List (Instr × Nat × Nat × Nat) :=
  [(.ctxStart b, 0x01, 1, 8), (.ctxStop b, 0x02, 1, 1), (.ctxPrio b, 0x03, 1, 2), (.winGrant b, 0x04, 1, 4), (.winRevoke b, 0x05, 1, 1),
   (.seqGroup b, 0x06, 1, 6), (.pkgLoad b, 0x07, 1, 16), (.mbxReset b, 0x08, 1, 1), (.swapRate b, 0x09, 1, 2), (.mbxTest b, 0x0A, 1, 1),
   (.camRing b, 0x0B, 2, 4), (.mbxAttest b, 0x0C, 3, 11), (.mbxCert b, 0x0D, 3, 2), (.qpBind b, 0x0E, 1, 7), (.updOpen b, 0x20, 1, 2),
   (.updWrite b, 0x21, 1, 4), (.updClose b, 0x22, 1, 12), (.updCommit b, 0x23, 1, 1), (.updAbort b, 0x24, 1, 0),
   (.updStatus b, 0x25, 1, 0), (.osRead b, 0x26, 1, 4), (.osWrite b, 0x27, 1, 4)]

/-- The requests of Table 22.7, each with its TYPE. -/
def mgmtRequests (d : Datagram) : List (Instr × Nat) :=
  [(.mgtClose d, 0x0F), (.mgtLogRead d, 0x10), (.mgtAttest d, 0x11), (.mgtCert d, 0x12), (.mgtReset d, 0x20), (.mgtTest d, 0x21),
   (.mgtUpdate d, 0x30), (.mgtCredSet d, 0x40), (.mgtPlankey d, 0x41)]

end Sys2Proof.Machine
end

