-- ==== Sys2Proof/Certificates/Slice0/Obligations.lean ====
section
/-! DEFINITION. The statements about the machine, one definition each. A clause that rests on a convention of the model names its log
entry in the docstring or in NOTES.md. -/
open Sys2Proof Sys2Proof.Machine

/-! ### The queue, the invariant and the reset -/

/-- A step runs the command at the front of the queue, with the queue's rest (the model's form of a block; log entry 1). -/
def Obligations.StepRunsFront : Prop := ∀ (c : Instr) (rest : List Instr) (s : State), s.pending = c :: rest →
  step s = exec c { s with pending := rest }

/-- With no command waiting, a step completes, and only the microsecond counter of D0 moves on (the model's choice, log entry 1). No
command changes the queue, whichever command it is. No command stops: every command answers a next state from every state (the
model's choice, log entry 2). -/
def Obligations.QueueDiscipline : Prop :=
  (∀ s : State, s.pending = [] → step s = .next { s with timeUs := s.timeUs + 1 })
  ∧ (∀ (c : Instr) (s t : State), exec c s = .next t → t.pending = s.pending)
  ∧ (∀ (c : Instr) (s : State), ∃ t, exec c s = .next t)

/-- What every state of a run keeps: from any state in which memory and the register file are canonical, the generation tags are legal,
the resets imply each other (R27, R28), the recorder's queue and the check cache are within their bounds (R411, R414, R243) and the
balls are the device's own (R458), every step leads to such a state. -/
def Obligations.StepKeepsInvariant : Prop := ∀ s t : State, s.Inv → step s = .next t → t.Inv

/-- The state after reset meets the invariant. -/
def Obligations.ResetMeetsInvariant : Prop := State.reset.Inv

/-- What reset leaves: D0 released and D1 to D8 held in reset with tag 1 (R27, R28), the ROM plan with Grove 0 standing (R31), every
register at its reset value, and SEQ at 0 (R411). -/
def Obligations.ResetState : Prop :=
  State.reset.inReset 0 = false ∧ (∀ d, 1 ≤ d → d ≤ 8 → State.reset.inReset d = true) ∧ (∀ d, (State.reset.dom d).tag = 1)
    ∧ State.reset.plan.running = romPlan ∧ State.reset.role 0 = .standing ∧ (∀ g, 1 ≤ g → State.reset.role g = .off)
    ∧ (∀ k, State.reset.reg k = regReset k) ∧ State.reset.evr.seq = 0 ∧ State.reset.evr.queue = [] ∧ State.reset.pending = []

/-! ### Registers and memory -/

/-- R6: a pair of registers. A write of `_LO` stages the value and changes no register; a write of `_HI` commits both halves; a read of
`_LO` captures `_HI`, and the next read of `_HI` returns what was captured, whatever `_HI` has become. -/
def Obligations.RegisterPairs : Prop :=
  (∀ (s : State) (kernel : Bool) (k v : Nat), isLo k = true →
    (∀ j, (s.storePair kernel k v).rn j = s.rn j) ∧ tfind (s.storePair kernel k v).staged k = some (BitVec.ofNat 32 v))
  ∧ (∀ (s : State) (kernel : Bool) (k v : Nat) (w : Word), isLo k = true → isLo (k + 4) = false → tfind s.staged k = some w →
      (∀ j, (s.storePair kernel (k + 4) v).rn j = ((s.storeReg kernel k w.toNat).storeReg kernel (k + 4) v).rn j)
        ∧ tfind (s.storePair kernel (k + 4) v).staged k = none)
  ∧ (∀ (s t : State) (k v hi v' hi' : Nat), isLo k = true → isLo (k + 4) = false → hi < 2 ^ 32 →
      t.captured = (s.readPair k v hi).1.captured →
      (s.readPair k v hi).2 = v ∧ (t.readPair (k + 4) v' hi').2 = hi
        ∧ tfind (t.readPair (k + 4) v' hi').1.captured (k + 4) = none)

/-- A byte stored above the control ROM reads as it was stored, and every other byte of memory reads as before. R4: a number stored in
memory is little-endian, whatever its size, and reads back as its low bytes. -/
def Obligations.MemoryBytes : Prop :=
  (∀ (s : State) (a : Nat) (bs : List Byte), 0x3FFFF < a →
    (∀ i, i < bs.length → (s.wrBytes a bs).rd8 (a + i) = nth 0 bs i)
      ∧ (∀ x, x < a ∨ a + bs.length ≤ x → (s.wrBytes a bs).rd8 x = s.rd8 x))
  ∧ (∀ (s : State) (a n v : Nat), 0x3FFFF < a →
    (∀ i, i < n → (s.wrLE a n v).rd8 (a + i) = BitVec.ofNat 8 (v / 256 ^ i)) ∧ (s.wrLE a n v).rdLE a n = v % 256 ^ n)

/-! ### The test access port -/

/-- R458: what each TAP instruction drives and reads. With TEST_EN sampled low, EXTEST, CLAMP and HIGHZ act as BYPASS. No other state
of the device changes. -/
def Obligations.TapInstructions : Prop := ∀ s : State,
  let keeps (t : State) : Prop := ChangesOnly [.tap] s t
  Completes .tapExtest s (fun t => t.tap.instr = .extest ∧ t.tap.drive = (if s.pins.testEn then .boundary else .device)
      ∧ t.tap.data = (if s.pins.testEn then s.pins.balls else 0) ∧ t.tap.boundary = s.tap.boundary ∧ keeps t)
  ∧ Completes .tapSamplePreload s (fun t => t.tap.instr = .samplePreload ∧ t.tap.drive = .device ∧ t.tap.data = s.pins.balls
      ∧ t.tap.boundary = s.pins.balls ∧ keeps t)
  ∧ Completes .tapIdcode s (fun t => t.tap.instr = .idcode ∧ t.tap.drive = .device ∧ t.tap.data = 0x17140E6F
      ∧ t.tap.boundary = s.tap.boundary ∧ keeps t)
  ∧ Completes .tapClamp s (fun t => t.tap.instr = .clamp ∧ t.tap.drive = (if s.pins.testEn then .boundary else .device)
      ∧ t.tap.data = 0 ∧ t.tap.boundary = s.tap.boundary ∧ keeps t)
  ∧ Completes .tapHighz s (fun t => t.tap.instr = .highz ∧ t.tap.drive = (if s.pins.testEn then .highImpedance else .device)
      ∧ t.tap.data = 0 ∧ t.tap.boundary = s.tap.boundary ∧ keeps t)
  ∧ Completes .tapBypass s (fun t => t.tap.instr = .bypass ∧ t.tap.drive = .device ∧ t.tap.data = 0
      ∧ t.tap.boundary = s.tap.boundary ∧ keeps t)

/-! ### The event recorder -/

/-- R411, R413, R414: an event is numbered and recorded. While D1 runs, its record is in slot SEQ mod 1,024 of the last area, and in
slot SEQ of the first area while SEQ is below 256 and has not wrapped; while D1 is in reset it waits last in the queue of D0, which
holds at most 16. SEQ moves on, EVR_HEAD shows it, and no register of another block and no byte of memory changes. R414: with the
queue full while the last area cannot be written, an event is lost and counted, and SEQ does not move. R415: a window of the rate
limit ends with one summary record for each code suppressed in it, and counting starts again. -/
def Obligations.EventRecorder : Prop :=
  (∀ (e : EventReport) (s : State),
    s.running 0 = true → e.code % 65536 ≠ 0 → codeLimited (e.code % 65536) = false →
    s.recorderOpen = true ∨ s.evr.queue.length < 16 →
    Completes (.eventRecord e) s fun t => ∃ r : Record,
      r.seq = s.evr.seq ∧ r.time = s.timeUs % 2 ^ 32 ∧ r.code = e.code % 65536 ∧ r.src = e.src % 256 ∧ r.summary = false
      ∧ r.args = padTo 0 4 (e.args.map (· % 2 ^ 32))
      ∧ (if s.recorderOpen then tfind t.evr.last (s.evr.seq % 1024) = some r ∧ t.evr.queue = s.evr.queue
         else t.evr.queue = s.evr.queue ++ [r] ∧ t.evr.last = s.evr.last)
      ∧ (s.evr.seq < 256 ∧ s.evr.wrapped = false → tfind t.evr.first s.evr.seq = some r)
      ∧ t.evr.seq = (s.evr.seq + 1) % 2 ^ 32 ∧ t.rn Reg.EVR_HEAD = t.evr.seq
      ∧ SameRegsBut (fun k => k / 0x10000 = 3) s t ∧ SameMemory s t ∧ SameOutside s t ∧ t.domains = s.domains)
  ∧ (∀ (e : EventReport) (s : State),
    s.running 0 = true → e.code % 65536 ≠ 0 → codeLimited (e.code % 65536) = false →
    s.recorderOpen = false → 16 ≤ s.evr.queue.length →
    Completes (.eventRecord e) s fun t => t.evr.seq = s.evr.seq ∧ t.evr.queue = s.evr.queue ∧ t.evr.last = s.evr.last
      ∧ t.evr.first = s.evr.first ∧ t.rn Reg.EVR_LOST = satAdd32 (s.rn Reg.EVR_LOST) 1 ∧ t.rb Reg.EVR_EVT 2 = true
      ∧ SameRegsBut (fun k => k / 0x10000 = 3) s t ∧ SameMemory s t)
  ∧ (∀ s : State, s.running 0 = true → s.recorderOpen = true → s.evr.seq < 2 ^ 32 →
    Completes .rateWindowEnd s fun t => t.evr.rates = []
      ∧ t.evr.seq = (s.evr.seq + (s.evr.rates.filter (fun x => decide (0 < x.suppressed))).length) % 2 ^ 32
      ∧ SameRegsBut (fun k => k / 0x10000 = 3) s t ∧ SameMemory s t ∧ SameOutside s t)

/-- R417: a write of EVR_SEL_p copies the eight words of the slot it selects into EVR_DATA_p, a slot of the first area where AREA is 1,
else of the last; with AREA 1 a SLOT from 256 on names no slot, and EVR_DATA_p is zero. The areas do not change. -/
def Obligations.EventReadout : Prop := ∀ (s : State) (i : Initiator) (p : Fin 2) (v : Word), s.reaches i (Reg.EVR_SEL p.val) →
  Completes (.evrSel i p v) s fun t =>
    let slot := fld v.toNat 0 10
    let area := if bitOf v.toNat 16 then s.evr.first else s.evr.last
    (∀ r, tfind area slot = some r → (bitOf v.toNat 16 = true → slot < 256) →
      ∀ n, n < 8 → t.rn (Reg.EVR_DATA p.val n) = nth 0 r.words n % 2 ^ 32)
    ∧ (tfind area slot = none ∨ (bitOf v.toNat 16 = true ∧ 256 ≤ slot) → ∀ n, n < 8 → t.rn (Reg.EVR_DATA p.val n) = 0)
    ∧ t.rf (Reg.EVR_SEL p.val) 0 10 = slot ∧ t.rb (Reg.EVR_SEL p.val) 16 = bitOf v.toNat 16
    ∧ SameRegsBut (fun k => k = Reg.EVR_SEL p.val ∨ ∃ n, n < 8 ∧ k = Reg.EVR_DATA p.val n) s t ∧ t.evr = s.evr
    ∧ ChangesOnly [.bus, .regs, .written] s t

/-! ### Resets -/

/-- R28, R29: a request merges nothing by itself: SYS_DOMAIN_REQ appends one request to each domain that bits 1 to 8 name, and no
domain enters reset. The kernel alone reaches it. R27 to R29: a domain whose reset is requested enters reset, its requests merge,
and its tag steps once, never to 0x000; a reset of D1 takes D2 and D3 with it, each with its own step, and leaves the ROM plan with
no context and no sequence entry. The tags of the other domains do not change, and none of them enters or leaves reset. R29, R375:
a domain that nothing holds in reset leaves it, and its requests with it; D1 releases D2 and D3, and the local fields of the
capability table become valid (R24). -/
def Obligations.DomainResets : Prop :=
  (∀ (s : State) (v : Word), s.reaches .kernel Reg.SYS_DOMAIN_REQ →
    Completes (.sysDomainReq .kernel v) s fun t =>
      (∀ d, (t.dom d).requests = (s.dom d).requests ++ (if 1 ≤ d ∧ d ≤ 8 ∧ bitOf v.toNat d = true then [{ requester := 1 }] else []))
      ∧ (∀ d, t.inReset d = s.inReset d ∧ (t.dom d).tag = (s.dom d).tag) ∧ t.regs = s.regs ∧ SameMemory s t ∧ SameOutside s t)
  ∧ (∀ (s : State) (d : Fin 9), d.val ≠ 0 → s.inReset d.val = false →
    (s.dom d.val).requests ≠ [] → (d.val = 1 → s.inReset 2 = false ∧ s.inReset 3 = false) →
    Completes (.domainReset d) s fun t =>
      t.inReset d.val = true ∧ (t.dom d.val).requests = []
      ∧ (∀ e, e ≠ 0 → (t.dom e).tag = (if e = d.val ∨ (d.val = 1 ∧ (e = 2 ∨ e = 3)) then nextTag (s.dom e).tag else (s.dom e).tag))
      ∧ (d.val = 1 → t.inReset 2 = true ∧ t.inReset 3 = true ∧ t.plan.running = romPlan ∧ t.ctxs = [] ∧ t.seqt.entries = [])
      ∧ (∀ e, e ≠ d.val → ¬ (d.val = 1 ∧ (e = 2 ∨ e = 3)) → t.inReset e = s.inReset e) ∧ ChangesOnly [.epoch, .regs, .staged,
        .captured, .written, .mem, .lost, .badLines, .cap, .evr, .domains, .groves, .ctxs, .plan, .mode, .tick, .ddr, .pages, .tiers,
        .dma, .seqt, .pic, .cam, .sets, .vil, .pwr, .lkt, .sec, .flash, .emmc, .boot, .pci, .mgt, .pins] s t)
  ∧ (∀ (s : State) (d : Fin 9), s.inReset d.val = true → (s.dom d.val).power ≠ .off →
    s.heldInReset d.val = false →
    Completes (.domainRelease d) s fun t => t.inReset d.val = false ∧ (t.dom d.val).requests = []
      ∧ (∀ e, (t.dom e).tag = (s.dom e).tag)
      ∧ (d.val = 1 → bitOf (t.capWord 0x10) 0 = true ∧ ((s.dom 2).power ≠ .off → t.inReset 2 = false)
          ∧ ((s.dom 3).power ≠ .off → t.inReset 3 = false)))

/-- R452: a power-on reset holds D0 and every domain in reset, puts every register at its reset value, and loses what RAM held (log
entry 4), not what flash and eMMC hold. An external reset pulse of 1 µs or longer resets D0 likewise; one shorter than 100 ns is
ignored. -/
def Obligations.DeviceReset : Prop :=
  (∀ s : State, s.boot.staging = none → Completes .powerOnReset s fun t =>
    (∀ d, t.inReset d = true) ∧ (∀ k, t.reg k = regReset k) ∧ t.mem = [] ∧ t.plan.running = romPlan ∧ t.evr.seq = 0
    ∧ t.flash = s.flash ∧ t.emmc = s.emmc ∧ t.tap = s.tap)
  ∧ (∀ (s : State) (ns : Nat), ns < 100 → exec (.externalReset ns) s = .next s)
  ∧ (∀ (s : State) (ns : Nat), 1000 ≤ ns → s.boot.staging = none → Completes (.externalReset ns) s fun t =>
      t.inReset 0 = s.inReset 0 ∧ (∀ d, 1 ≤ d → t.inReset d = true) ∧ (∀ k, t.reg k = regReset k) ∧ t.mem = []
      ∧ t.plan.running = romPlan ∧ t.evr.seq = 0 ∧ t.flash = s.flash ∧ t.emmc = s.emmc ∧ t.tap = s.tap)

/-! ### Start-up and DDR5 -/

/-- R419, Table 21.1: a step of the cold start that is due is taken; step 2 releases D1, step 4 releases D8 and step 6 starts the
output. -/
def Obligations.ColdStartSteps : Prop := ∀ (s : State) (n : Nat), s.stepDue n = true →
  Completes (.coldStart n) s fun t => bitOf t.boot.steps n = true
    ∧ (∀ m, m ≠ n → bitOf t.boot.steps m = bitOf s.boot.steps m)
    ∧ (n = 2 → s.pins.testEn = false → (s.dom 1).power ≠ .off → t.inReset 1 = false)
    ∧ (n = 4 → s.pins.testEn = false → (s.dom 8).power ≠ .off → t.inReset 8 = false)
    ∧ (n = 5 → s.blockLive 0x26 = true → t.rb Reg.MIC_STATUS 0 = true)
    ∧ (n = 6 → t.pic.outRunning = true)

/-- R239, R240: a training that is due tries each speed from the strap's on down, keeps the channels it finds, and DDR_STATUS shows
them; its end writes the DDR fields of the capability table and sets DDR_VALID. Memory does not change. R241, R376: after a reset
of D1 the trained values are restored, RESTORED shows it, DDR_VALID is set, and no access stays held; with none held, memory is as
it was. R249: the patrol scrub reads the next line and moves on by one; a line without an error changes no byte of memory. -/
def Obligations.DdrController : Prop :=
  ((∀ (s : State) (oks : List Nat), s.running 1 = true → s.boot.cold = true → bitOf s.boot.steps 2 = true → s.ddr.trainDone = false →
      s.pins.density < 3 → s.pins.maxSpeed < 3 → s.blockLive 0x2A = true →
      Completes (.ddrTraining oks) s fun t =>
        let r := trainSearch s.populated s.pins.maxSpeed oks
        t.ddr.trainDone = true ∧ t.ddr.trainSpeed = r.1 ∧ t.ddr.trainMask = r.2.1 ∧ t.ddr.savedSpeed = r.1 ∧ t.ddr.savedMask = r.2.1
        ∧ t.rn Reg.DDR_STATUS = b2n (r.2.1 != 0) + r.1 * 4 + r.2.1 * 256
        ∧ SameRegsBut (fun k => k / 0x10000 = 0x2A ∨ k / 0x10000 = 3) s t ∧ SameMemory s t ∧ SameOutside s t)
    ∧ (∀ (pop speed : Nat) (oks : List Nat), oks.headD 0 &&& pop = pop → trainSearch pop speed oks = (speed, pop, false))
    ∧ (∀ s : State, s.running 1 = true → s.ddr.trainDone = true → s.ddrValid = false → s.ddr.trainMask < 2 ^ 8 →
      Completes .ddrTrainingEnd s fun t => t.ddrValid = true ∧ t.capWord 0x3C = s.ddr.trainMask
        ∧ t.capWord 0x48 + 2 ^ 32 * t.capWord 0x4C = s.ddrUsable % 2 ^ 64
        ∧ t.regs = s.regs ∧ SameMemory s t ∧ SameOutside s t))
  ∧ (∀ (s : State) (oks : List Nat), s.running 1 = true → s.boot.cold = false →
    s.ddr.trainDone = false → s.ddr.savedMask ≠ 0 → s.ddr.savedMask < 2 ^ 8 → s.ddr.savedSpeed < 4 → s.pci.heldAccesses = [] →
    s.blockLive 0x2A = true →
    Completes (.ddrRestore true oks) s fun t => t.ddr.trainDone = true ∧ t.ddr.trainSpeed = s.ddr.savedSpeed
      ∧ t.ddr.trainMask = s.ddr.savedMask ∧ t.ddrValid = true ∧ t.rb Reg.DDR_STATUS 1 = true ∧ t.pci.heldAccesses = []
      ∧ SameRegsBut (fun k => k = Reg.DDR_STATUS) s t ∧ SameMemory s t ∧ SameOutside s t)
  ∧ (∀ s : State, s.running 1 = true → s.ddr.trainDone = true → s.rf Reg.PWR_STATUS 0 2 ≠ 2 →
    s.badLines = [] →
    Completes (.scrubLine 0) s fun t => t.ddr.scrubTier = (s.seekScrub 20).ddr.scrubTier
      ∧ t.ddr.scrubUnit = (s.seekScrub 20).ddr.scrubUnit ∧ t.ddr.scrubLine = (s.seekScrub 20).ddr.scrubLine + 1
      ∧ SameRegsBut (fun k => k = Reg.DDR_SCRUB_PASSES ∨ k = Reg.DDR_EVT) s t ∧ SameMemory s t ∧ SameOutside s t)

/-! ### Plans and modes -/

/-- R49, R51, R52: a request that names no mode of the running plan changes no mode, sets REQ_BAD and records an event; while a thermal
hold keeps a cooler mode, or the device is away from S0, it only updates the held target; else it is requested, and one that names
the current mode while no change is in progress leaves no request. -/
def Obligations.ModeRequest : Prop := ∀ (s : State) (i : Initiator) (v : Word), s.reaches i Reg.MODE_REQ →
  Completes (.modeReq i v) s fun t =>
    let m := v.toNat % 8
    (s.thePlan.hasMode m = false → t.mode = s.mode ∧ t.rb Reg.MODE_EVT 1 = true)
    ∧ (s.thePlan.hasMode m = false → s.recorderOpen = true → t.evr.seq = (s.evr.seq + 1) % 2 ^ 32)
    ∧ (s.thePlan.hasMode m = true → s.modeHeld = true → t.mode = { s.mode with held := some (s.soloed m) })
    ∧ (s.thePlan.hasMode m = true → s.modeHeld = false →
        t.mode = { s.mode with requested := if s.mode.step < 2 ∧ s.soloed m = s.mode.cur then none else some (s.soloed m) })
    ∧ SameRegsBut (fun k => k = Reg.MODE_REQ ∨ k = Reg.MODE_CUR ∨ k = Reg.MODE_EVT ∨ k / 0x10000 = 3) s t ∧ ChangesOnly [.bus, .regs,
      .written, .evr, .mode] s t

/-- R50 (Table 2.8): a request is taken at step 2, the Groves whose lists differ begin to change, and MODE_CUR shows the change
pending; at step 4 the changing Groves are quiet and the images of the new mode are placed. R50 (Table 2.8, step 5), R361: at the
switch the target becomes the current mode, no Grove changes any more, each Grove has its role of the new mode, CHANGED is set, and
MODE_CHANGE_TICK names the tick that begins. -/
def Obligations.ModeChange : Prop :=
  ((∀ (s : State) (m : Nat), s.running 1 = true → s.tick.stopped = false → s.lkt.test = false → s.mode.requested = some m →
      Completes .modeChangeTake s fun t => t.mode.step = 2 ∧ t.mode.target = m ∧ t.mode.requested = none ∧ t.mode.cur = s.mode.cur
        ∧ (∀ g, g < 16 → (s.thePlan.groveSame s.mode.cur m g = false → g ∈ t.mode.changing))
        ∧ (m < 2 ^ 8 → s.mode.cur < 2 ^ 8 → t.rb Reg.MODE_CUR 8 = true)
        ∧ SameRegsBut (fun k => k = Reg.MODE_CUR) s t ∧ ChangesOnly [.regs, .mode, .pwr] s t)
    ∧ (∀ s : State, s.mode.step = 2 → s.running 1 = true → s.running 2 = true → (∀ g ∈ s.mode.changing, s.groveQuiet g = true) →
      Completes .modeWeightsResident s fun t => t.mode = { s.mode with step := 4, parked := s.mode.changing } ∧ ChangesOnly [.fresh, .regs, .mem, .lost,
        .badLines, .evr, .groves, .ctxs, .mode, .ddr, .pages, .tiers, .seqt, .sets] s t))
  ∧ (∀ s : State, s.mode.step = 4 → s.mode.requested = none → s.running 1 = true →
    s.running 2 = true → s.tick.stopped = false → s.pwr.voltage ≤ (s.thePlan.mode s.mode.target).opPoint →
    s.frameBoundary ((s.thePlan.streamOfKind s.mode.cur 1).isSome || (s.thePlan.streamOfKind s.mode.target 1).isSome) = true →
    s.entering 1 = false →
    Completes .modeSwitch s fun t => t.mode.cur = s.mode.target ∧ t.mode.step = 0 ∧ t.mode.changing = []
      ∧ (∀ g, g < 16 → t.role g = (s.thePlan.mode s.mode.target).role g)
      ∧ t.rb Reg.MODE_EVT 0 = true ∧ t.rn Reg.MODE_CHANGE_TICK = (s.rn Reg.TICK_COUNT_LO + 1) % 2 ^ 32
      ∧ t.tick.slotZero = true ∧ ChangesOnly [.epoch, .regs, .staged, .captured, .written, .mem, .lost, .badLines, .evr, .domains,
        .groves, .mode, .tick, .ddr, .pic, .mic, .pwr, .pci] s t)

/-- R31, R32, R43 to R47: a plan whose admission is due at a cold start is admitted and waits to replace the ROM plan, or is refused;
PLAN_STATUS shows which, and the plan that runs goes on until the next tick boundary. R34: after a reset of D1 the plan is read
again, and it is admitted where it is the one that the cold start recorded; the plan that runs goes on. R32, R34: the admitted plan
replaces the ROM plan at a tick boundary; its tenants' contexts are STOPPED and every other is FREE, its first mode is current, and
the plan's registers are its own. -/
def Obligations.Plans : Prop :=
  (∀ s : State, s.admissionDue = true → s.boot.cold = true →
    Completes .planAdmission s fun t => t.plan.running = s.plan.running ∧ bitOf t.boot.steps 9 = true
      ∧ (match checkImage s.writeStandingWindows.admitEnv with
         | .ok p => t.plan.next = some p ∧ t.plan.recordedDigest = some p.digest ∧ t.rf Reg.PLAN_STATUS 0 2 = 1
         | .error _ => t.plan.next = s.plan.next ∧ t.plan.recordedDigest = s.plan.recordedDigest ∧ t.rf Reg.PLAN_STATUS 0 2 = 2)
      ∧ ChangesOnly [.regs, .mem, .lost, .badLines, .evr, .domains, .plan, .ddr, .pages, .tiers, .mic, .cam, .vil, .pwr, .boot, .pci]
        s t)
  ∧ (∀ s : State, s.admissionDue = true → s.boot.cold = false → s.vil.ring = .absent →
    Completes .planReadmission s fun t => t.plan.running = s.plan.running ∧ t.plan.recordedDigest = s.plan.recordedDigest
      ∧ (match checkImage s.writeStandingWindows.admitEnv with
         | .ok p =>
           if s.plan.recordedDigest = some p.digest then t.plan.next = some p ∧ t.plan.readmitted = true ∧ t.rf Reg.PLAN_STATUS 0 2 = 1
           else t.plan = s.plan ∧ t.rf Reg.PLAN_STATUS 0 2 = 2
         | .error _ => t.plan = s.plan ∧ t.rf Reg.PLAN_STATUS 0 2 = 2)
      ∧ ChangesOnly [.regs, .staged, .captured, .written, .mem, .lost, .badLines, .cap, .evr, .domains, .groves, .ctxs, .plan, .mode,
        .tick, .ddr, .pages, .tiers, .dma, .seqt, .pic, .mic, .cam, .sets, .vil, .pwr, .lkt, .sec, .flash, .emmc, .boot, .pci, .mgt,
        .pins] s t)
  ∧ (∀ (s : State) (p : Plan), s.plan.next = some p → s.running 1 = true → s.running 2 = true →
    s.tick.stopped = false → s.pwr.voltage ≤ (p.mode (s.firstMode p (!s.plan.readmitted))).opPoint →
    s.frameBoundary (p.streamOfKind (s.firstMode p (!s.plan.readmitted)) 1).isSome = true →
    Completes .planReplacesRom s fun t => t.plan.running = p ∧ t.plan.next = none
      ∧ t.mode.cur = s.firstMode p (!s.plan.readmitted) ∧ t.ctxs = tenantContexts p
      ∧ (∀ g, g < 16 → t.role g = (p.mode t.mode.cur).role g)
      ∧ t.rn Reg.PLAN_VERSION = p.version % 2 ^ 32 ∧ ChangesOnly [.epoch, .regs, .staged, .captured, .written, .mem, .lost, .badLines,
        .evr, .groves, .ctxs, .plan, .mode, .tick, .ddr, .pic, .mic, .pwr, .pci] s t)

/-! ### The tick -/

/-- R55, R60 to R64: a tick boundary counts the tick, changes the level of ALIVE while D1 and D8 are out of reset, and begins the next
tick where the one in progress ends; after it no standing Grove keeps a command of the ended tick unissued. -/
def Obligations.TickBoundary : Prop := ∀ s : State, s.running 1 = true → s.tick.stopped = false → s.followsRoot = false →
  Completes .tickBoundary s fun t =>
    t.r64 Reg.TICK_COUNT_LO = (s.r64 Reg.TICK_COUNT_LO + 1) % 2 ^ 64
    ∧ t.pins.alive = (if s.running 8 then !s.pins.alive else s.pins.alive)
    ∧ t.tick.startNs = s.tick.endNs
    ∧ (∀ g, g < 16 → t.role g = s.role g ∧ (t.grove g).run = (s.grove g).run ∧ (t.grove g).tickBusy = 0 ∧ (t.grove g).discarded = [])
    ∧ t.mode.cur = s.mode.cur ∧ ChangesOnly [.regs, .mem, .lost, .badLines, .evr, .groves, .ctxs, .mode, .tick, .ddr, .pic, .mic,
      .cam, .vil, .pwr, .lkt, .pci, .pins] s t

/-- R57 to R59: a frame start of the locked HDMI input begins a source frame and, where it comes within 0.1 % of its time, ends the
tick in progress; one that has not come 0.1 % after its time loses the lock, and the tick then ends. R61: while D1 is in reset and
D8 is not, the timer of D0 changes the level of ALIVE, and nothing else changes. -/
def Obligations.FrameStarts : Prop :=
  ((∀ (s : State) (at_ : Nat), s.running 8 = true → s.rb Reg.VIN_STATUS 2 = true → s.followsRoot = false → s.fedByRing = false →
      s.running 1 = true → s.tick.stopped = false → s.tick.locked = true →
      s.tick.frameStart + s.tick.period ≤ at_ + tolNs s.tick.period → at_ ≤ s.tick.frameStart + s.tick.period + tolNs s.tick.period →
      Completes (.hdmiFrameStart at_) s fun t => t.tick.endNs = at_ ∧ t.tick.frameTick = true ∧ t.tick.locked = true
        ∧ t.pic.lost = false ∧ t.pic.frame = s.pic.frame + 1 ∧ t.pic.rows = 0 ∧ t.pic.nextBand = 0
        ∧ SameRegsBut (fun k => k = Reg.VIN_STATUS ∨ k = Reg.TICK_FRAME_PERIOD) s t ∧ ChangesOnly [.regs, .tick, .pic] s t)
    ∧ (∀ s : State, s.followsRoot = false → s.running 1 = true → s.tick.stopped = false → s.tick.locked = true →
      Completes .frameStartTimeout s fun t => t.tick.locked = false ∧ t.tick.n = 0 ∧ t.tick.goodPeriods = 0
        ∧ t.tick.endNs = s.tick.frameStart + s.tick.period + tolNs s.tick.period ∧ t.rb Reg.TICK_EVT 1 = true
        ∧ SameRegsBut (fun k => k / 0x10000 = 5) s t ∧ ChangesOnly [.regs, .tick] s t))
  ∧ (∀ s : State, s.inReset 1 = true → s.running 8 = true → s.running 0 = true →
    exec .aliveTimerToggle s = .next { s with pins := { s.pins with alive := !s.pins.alive } })

/-! ### Accesses -/

/-- R5, R7, R9, R19: a 32-bit write of a register without effects of its own changes each field by its access code, and no other
register; a write to an RK register by another initiator than the kernel changes nothing but the counts and the record of it; and a
write that no window lets pass ends in a bus error, counted and recorded. R4, R17, R20, R394: an access that passes reads the bytes
that memory holds, or stores the bytes written and no other; one that meets no error symbol in a region without uncorrectable lines
changes nothing else. -/
def Obligations.Accesses : Prop :=
  ((∀ (s : State) (i : Initiator) (k v : Nat), k % 4 = 0 → s.reaches i k → k / 0x10000 ∈ [0x06, 0x09, 0x21, 0x22, 0x23, 0x28, 0x29,
    0x2C, 0x2D] →
      (findRow k).isSome = true → isLo k = false → isHi k = false → (rkReg k = false ∨ i = .kernel) →
      Completes (.registerWrite i (regAddr k) 4 v) s fun t =>
        t.rn k = ((regFields k).foldl (fieldStore (decide (i = .kernel)) (!s.written.contains k) (v % 2 ^ 32)) (s.rn k)) % 2 ^ 32
        ∧ t.bus = .done ∧ SameRegsBut (fun j => j = k) s t ∧ ChangesOnly [.bus, .regs, .written] s t)
    ∧ (∀ (s : State) (i : Initiator) (k v : Nat), k % 4 = 0 → s.reaches i k → rkReg k = true → i ≠ .kernel → s.running 1 = true →
      Completes (.registerWrite i (regAddr k) 4 v) s fun t =>
        t.rn Reg.SEC_DENIED = satAdd32 (s.rn Reg.SEC_DENIED) 1 ∧ t.rb Reg.SEC_EVT 1 = true ∧ t.bus = .done
        ∧ SameRegsBut (fun j => j = Reg.SEC_DENIED ∨ j = Reg.SEC_EVT ∨ j / 0x10000 = 3) s t ∧ ChangesOnly [.bus, .regs, .evr] s t)
    ∧ (∀ (s : State) (i : Initiator) (k v : Nat), k % 4 = 0 → k < 0x1000000 → s.acts i = true → i ≠ .pcie →
      s.gate i (regAddr k) 4 true = .denied → s.running 1 = true →
      Completes (.registerWrite i (regAddr k) 4 v) s fun t =>
        t.rn Reg.SEC_DENIED = satAdd32 (s.rn Reg.SEC_DENIED) 1 ∧ t.rb Reg.SEC_EVT 1 = true ∧ t.bus = .busError
        ∧ SameRegsBut (fun j => j = Reg.SEC_DENIED ∨ j = Reg.SEC_EVT ∨ j / 0x10000 = 3) s t ∧ ChangesOnly [.bus, .regs, .evr] s t))
  ∧ (∀ (s : State) (i : Initiator) (a n v : Nat), s.acts i = true → 0 < n → 0x3FFFF < a →
    (∀ b, regionOf a ≠ .registers b) → regionOf a ≠ .capability → regionOf a ≠ .outbound → s.badIn a n = [] →
    (s.gate i a n false = .pass →
      Completes (.memoryAccess i .read a n v 0) s fun t => t.bus = .data (s.rdLE a n) ∧ ChangesOnly [.bus] s t)
    ∧ (s.gate i a n true = .pass →
      Completes (.memoryAccess i .write a n v 0) s fun t => t.bus = .done
        ∧ (∀ j, j < n → t.rd8 (a + j) = BitVec.ofNat 8 (v / 256 ^ j))
        ∧ (∀ x, x < a ∨ a + n ≤ x → t.rd8 x = s.rd8 x) ∧ ChangesOnly [.bus, .mem, .lost, .badLines, .ddr] s t))

/-- R432 (Table 22.2): BAR0 reaches the register window and BAR2 the DDR5 window as any other access of the PCIe link does; a BAR that
the endpoint does not have answers Unsupported Request, and a write to it is discarded and counted. -/
def Obligations.PcieBars : Prop := ∀ (s : State) (o n v : Nat), s.acts .pcie = true → 0 < n →
  (o < 0x300000 → exec (.pcieInboundAccess 0 .write o n v) s = exec (.registerWrite .pcie (regBase + o) n v) s)
  ∧ (o < 0x1000000000 → ∀ k, exec (.pcieInboundAccess 2 k o n v) s = exec (.memoryAccess .pcie k (ddrBase + o) n v 0) s)
  ∧ Completes (.pcieInboundAccess 1 .read o n v) s (fun t => t.bus = .unsupportedRequest ∧ ChangesOnly [.bus] s t)
  ∧ (s.blockLive 0x2B = true → Completes (.pcieInboundAccess 1 .write o n v) s fun t => t.bus = .discarded
      ∧ t.rn Reg.PCI_DENIED = satAdd32 (s.rn Reg.PCI_DENIED) 1 ∧ SameRegsBut (fun j => j = Reg.PCI_DENIED) s t
      ∧ ChangesOnly [.bus, .regs] s t)

/-! ### Scheduling -/

/-- R65, R67: a doorbell gives the context its new TAIL and clears a wait for it; a TAIL outside the ring makes the context FAULTED
with cause 0x9; the doorbell of a context that is FREE, STOPPED or FAULTED changes no context. R80: a write of SCH_CTX_SEL copies
the eight words of the entry that it selects into SCH_CTX_DATA. R76: the kernel's write of a swap rate takes the value within 500
to 4,000 MB/s where the sum over the Groves stays within a quarter of the raw DDR5 rate; else the register keeps its value. -/
def Obligations.Doorbells : Prop :=
  (∀ (s : State) (i : Initiator) (c : Fin 128) (v : Word), s.reaches i (Reg.SCH_DOORBELL c.val) →
    Completes (.doorbellWrite i c v) s fun t =>
      let k := s.ctx c.val
      let tail := v.toNat % 2 ^ 16
      (k.state = .free ∨ k.state = .stopped ∨ k.state = .faulted → t.ctxs = s.ctxs)
      ∧ (¬ (k.state = .free ∨ k.state = .stopped ∨ k.state = .faulted) → tail ≠ k.tail → s.thePlan.anyOpen = true → tail < 2 ^
        k.ringOrder →
          (t.ctx c.val).tail = tail
          ∧ (t.ctx c.val).state = (if k.cause = 0 ∧ k.state = .blocked then .ready
              else if k.cause = 0 ∧ k.state = .swappedBlocked then .swapped else k.state))
      ∧ (¬ (k.state = .free ∨ k.state = .stopped ∨ k.state = .faulted) → tail ≠ k.tail → s.thePlan.anyOpen = true → 2 ^ k.ringOrder ≤
        tail →
          (t.ctx c.val).state = .faulted ∧ (t.ctx c.val).cause = 9)
      ∧ (∀ d, d ≠ c.val → t.ctx d = s.ctx d) ∧ ChangesOnly [.bus, .regs, .written, .evr, .groves, .ctxs, .pages, .seqt, .sets] s t)
  ∧ ((∀ (s : State) (i : Initiator) (v : Word), s.reaches i Reg.SCH_CTX_SEL →
      Completes (.schCtxSel i v) s fun t =>
        (∀ n, n < 8 → t.rn (Reg.SCH_CTX_DATA n) = s.ctxWord (v.toNat % 2 ^ 7) n % 2 ^ 32)
        ∧ SameRegsBut (fun k => k = Reg.SCH_CTX_SEL ∨ ∃ n, n < 8 ∧ k = Reg.SCH_CTX_DATA n) s t ∧ ChangesOnly [.bus, .regs, .written,
          .evr] s t)
    ∧ (∀ (s : State) (g : Fin 16) (v : Word), s.reaches .kernel (Reg.SCH_SWAP_MBPS g.val) →
      Completes (.schSwapMbps .kernel g v) s fun t =>
        t.rn (Reg.SCH_SWAP_MBPS g.val) = (if s.swapRateOk g.val v.toNat then v.toNat else s.rn (Reg.SCH_SWAP_MBPS g.val))
        ∧ SameRegsBut (fun k => k = Reg.SCH_SWAP_MBPS g.val ∨ k / 0x10000 = 3) s t ∧ ChangesOnly [.bus, .regs, .evr] s t))

/-- R68: after a tile boundary of an open Grove, the context that it runs is RUNNING and resident there, and no context that may run
there has a more urgent PRIO. R73 to R75: when a swap of a Grove ends, its victims are not resident, and the context brought in is
resident there, READY, and charged with the time. R69, R352: a window of an open Grove begins and ends for its context, and an open
Grove with no context READY or RUNNING becomes idle; nothing else changes. -/
def Obligations.Dispatch : Prop :=
  (∀ (s : State) (g : Fin 16), s.role g.val = .open → s.running 3 = true →
    (s.grove g.val).run = none → (s.grove g.val).overdue = false → s.openGrove g.val = true →
    Completes (.tileBoundary g) s fun t =>
      (∀ c, (t.grove g.val).cur = some c → (t.ctx c).state = .running ∧ c ∈ t.residents g.val
        ∧ ∀ d ∈ t.runnable g.val, (t.ctx c).prio ≤ (t.ctx d).prio)
      ∧ (t.grove g.val).run = none ∧ ChangesOnly [.regs, .groves, .ctxs, .pages, .seqt, .sets, .sec] s t)
  ∧ (∀ (s : State) (g : Fin 16) (us c : Nat) (w : Swap), (s.grove g.val).swap = some w →
    w.incoming = some c → c ∉ w.victims → (s.ctx c).state = .swapped → (s.ctx c).stopReq = false →
    Completes (.swapComplete g us) s fun t =>
      (t.ctx c).resident = true ∧ (t.ctx c).grove = g.val ∧ (t.ctx c).state = .ready ∧ (t.ctx c).dirty = []
      ∧ (t.ctx c).chargeUs = satAdd32 (s.ctx c).chargeUs us
      ∧ (∀ v ∈ w.victims, (t.ctx v).resident = false)
      ∧ (∀ d, d ≠ c → d ∉ w.victims → (t.ctx d).state = (s.ctx d).state) ∧ ChangesOnly [.regs, .mem, .lost, .badLines, .evr, .groves,
        .ctxs, .ddr, .pages, .seqt, .sets, .sec] s t)
  ∧ (∀ (s : State) (g : Fin 16), s.role g.val = .open →
    (∀ (c : Fin 128) (b : Bool), (∃ w ∈ (s.grove g.val).windows, w.ctx = c.val) → (b = false → (s.grove g.val).inWindow = some c.val) →
      Completes (.windowBoundary g c b) s fun t =>
        t.grove g.val = { s.grove g.val with inWindow := if b then some c.val else none }
        ∧ (∀ h, h ≠ g.val → t.grove h = s.grove h) ∧ ChangesOnly [.groves] s t)
    ∧ (s.running 3 = true → (s.grove g.val).run = none →
        (∀ c ∈ s.residents g.val, (s.ctx c).state ≠ .ready ∧ (s.ctx c).state ≠ .running) →
      Completes (.groveIdle g) s fun t => t.grove g.val = { s.grove g.val with idle := true }
        ∧ (∀ h, h ≠ g.val → t.grove h = s.grove h) ∧ ChangesOnly [.groves] s t))

/-! ### Tile commands -/

/-- R83, R86, R102, R106: a tile command that passes its issue checks, with its Skid slots resident, begins execution on its Grove with
its opcode, its cycles and its writes; it leaves its list or its ring position, memory is as it was, and the issue is counted. -/
def Obligations.TileCommandsIssue : Prop := ∀ (s : State) (g : Fin 16) (f : Fetched), s.fetch g.val = some f →
  (opcodeOf f.cmd = 0 → Issues (.nop g) s f (nopCheck f) [])
  ∧ (opcodeOf f.cmd = 1 → Issues (.matmul g) s f (s.sharedCheck f (tallyFlag f.cmd) (s.matmulCheck f)) (s.matmulWrites f))
  ∧ (opcodeOf f.cmd = 2 → s.convMode f = 0 → Issues (.conv g) s f (s.sharedCheck f (tallyFlag f.cmd) (s.convIssueCheck f))
    (s.convWrites f))
  ∧ (opcodeOf f.cmd = 2 → s.convMode f = 1 → Issues (.poolMax g) s f (s.sharedCheck f (tallyFlag f.cmd) (s.convIssueCheck f))
    (s.convWrites f))
  ∧ (opcodeOf f.cmd = 2 → s.convMode f = 2 → Issues (.poolAvg g) s f (s.sharedCheck f (tallyFlag f.cmd) (s.convIssueCheck f))
    (s.convWrites f))
  ∧ (opcodeOf f.cmd = 2 → s.convMode f = 3 → Issues (.argmax g) s f (s.sharedCheck f (tallyFlag f.cmd) (s.convIssueCheck f))
    (s.convWrites f))
  ∧ (opcodeOf f.cmd = 3 → Issues (.ew g) s f (s.sharedCheck f (tallyFlag f.cmd) (s.ewCheck f)) (s.ewWrites f))
  ∧ (opcodeOf f.cmd = 4 → s.recPresent f = true → Issues (.scan g) s f (s.scanCheck f) (s.scanWrites f))
  ∧ (opcodeOf f.cmd = 5 → Issues (.attn g) s f (s.attnCheck f) (s.attnWrites f))
  ∧ (opcodeOf f.cmd = 6 → Issues (.moveBytes g) s f (moveCheck f) (s.moveWrites f))
  ∧ (opcodeOf f.cmd = 9 → Issues (.tally g) s f (s.sharedCheck f true (s.tallyCheck f)) (s.tallyWrites f))

/-- R106, R107: a MATMUL that fails an issue check does not execute: memory is unchanged, the Grove's fault registers show the fault,
and the context becomes FAULTED or the stream's other commands on the Grove are discarded. -/
def Obligations.IssueFaults : Prop := ∀ (s : State) (g : Fin 16) (f : Fetched) (code : Nat), s.fetch g.val = some f →
  opcodeOf f.cmd = 1 → f.firstFault (s.sharedCheck f (tallyFlag f.cmd) (s.matmulCheck f)) = some code →
  Completes (.matmul g) s fun t =>
    (t.grove g.val).run = none ∧ fld (t.rn (Reg.GRV_FAULT g.val)) 0 8 = code
    ∧ (match f.owner with
       | .ctx c => (t.ctx c).state = .faulted ∧ (t.ctx c).cause = 9
       | .stream i => i ∈ (t.grove g.val).discarded ∧ (∀ x ∈ (t.grove g.val).todo, x.stream ≠ i))
    ∧ ChangesOnly [.regs, .evr, .groves, .ctxs, .pages, .seqt, .sets] s t

/-- R87, R105, R227: an XFER that passes its checks and need not wait enters its transfer in the DMA under its XID and the owner's tag;
a WAIT whose transfers have all ended executes, and one with a transfer in flight blocks its context with the command consumed. -/
def Obligations.XferAndWait : Prop :=
  (∀ (s : State) (g : Fin 16) (f : Fetched), s.fetch g.val = some f → opcodeOf f.cmd = 7 → f.firstFault (xferCheck f) = none →
    s.badOperand f [{ word := srcA f.cmd, bytes := 32, use := .a }] = none →
    (let raw := s.operandBytes f (srcA f.cmd) 0 32
     let d := descOf raw
     s.xferMustWait f.owner f.grove (xidOf f.cmd) raw = false → s.descFault f.owner f.grove raw = none →
     d.isStore = true → d.mark = 0 → d.port = none → d.object = none →
     Completes (.xfer g) s fun t =>
      tfind t.dma.xfers s.dma.next = some { owner := f.owner, grove := f.grove, xid := xidOf f.cmd, desc := raw, tag := (s.ownerTag
        f.owner) }
      ∧ t.dma.next = s.dma.next + 1 ∧ (∃ e, (t.grove g.val).run = some e ∧ e.op = 7 ∧ e.cmd = f.cmd ∧ e.owner = f.owner)
      ∧ ChangesOnly [.regs, .groves, .ctxs, .dma] s t))
  ∧ (∀ (s : State) (g : Fin 16) (f : Fetched), s.fetch g.val = some f → opcodeOf f.cmd = 8 → f.firstFault (waitCheck f) = none →
    (bitsOf 16 (fld (extOf f.cmd) 0 16)).any (s.xidBusy f.owner) = false →
    Completes (.waitXfers g) s fun t => (∃ e, (t.grove g.val).run = some e ∧ e.op = 8 ∧ e.cmd = f.cmd ∧ e.owner = f.owner ∧ e.cycles =
      4)
      ∧ ChangesOnly [.regs, .groves, .ctxs] s t)
  ∧ (∀ (s : State) (g : Fin 16) (f : Fetched) (c : Nat), s.fetch g.val = some f → opcodeOf f.cmd = 8 → f.firstFault (waitCheck f) =
    none →
    f.owner = .ctx c → (bitsOf 16 (fld (extOf f.cmd) 0 16)).any (s.xidBusy f.owner) = true →
    Completes (.waitXfers g) s fun t => (t.ctx c).state = .blocked ∧ (t.ctx c).head = ((s.ctx c).head + 1) % 2 ^ (s.ctx c).ringOrder
      ∧ (t.ctx c).waitMask = fld (extOf f.cmd) 0 16 ∧ (t.grove g.val).run = none ∧ ChangesOnly [.regs, .groves, .ctxs] s t)

/-- R83, R102: a command that completes within its formula cycles makes its writes, and the Grove runs nothing; its busy cycles are
counted where its block is live. R103, R104, R107: a command still in execution at its cap is stopped: the Grove runs nothing, the
fault is TILE_CAP, the Lookout records code 1, and no byte changes but those that the command writes (for a command of a standing
stream; which of those it wrote is open, log entry 10). A context becomes FAULTED with cause 0xA. -/
def Obligations.ExecutionEnds : Prop :=
  (∀ (s : State) (g : Fin 16) (e : Exec) (cycles : Nat), (s.grove g.val).run = some e →
    e.issues = none → e.uncorrectable = none → 1 ≤ cycles → cycles ≤ e.cycles →
    Completes (.commandComplete g cycles) s fun t =>
      (t.grove g.val).run = none ∧ (t.grove g.val).tickBusy = (s.grove g.val).tickBusy + cycles
      ∧ SameMemory (s.wrGrove g.val e.writes) t
      ∧ (∀ c, e.owner = .ctx c → (t.ctx c).lastRun = s.rn Reg.TICK_COUNT_LO)
      ∧ (s.blockLive (0x10 + g.val) = true → t.r64 (Reg.GRV_BUSY_LO g.val) = (s.r64 (Reg.GRV_BUSY_LO g.val) + cycles) % 2 ^ 64)
      ∧ ChangesOnly [.regs, .mem, .lost, .badLines, .groves, .ctxs, .ddr] s t)
  ∧ (∀ (s : State) (g : Fin 16) (e : Exec), (s.grove g.val).run = some e →
    s.blockLive (0x10 + g.val) = true → s.running 1 = true →
    Completes (.capStop g) s fun t =>
      (t.grove g.val).run = none ∧ fld (t.rn (Reg.GRV_FAULT g.val)) 0 8 = 8
      ∧ t.rn (Reg.GRV_CAP_STOPS g.val) = satAdd32 (s.rn (Reg.GRV_CAP_STOPS g.val)) 1
      ∧ t.rn (Reg.LKT_COUNT 1) = satAdd32 (s.rn (Reg.LKT_COUNT 1)) 1 ∧ t.rb Reg.LKT_EVT 0 = true
      ∧ (∀ i, e.owner = .stream i → ∀ a, (∀ w ∈ e.touches, a < groveBase g.val + w.1 ∨ groveBase g.val + w.1 + w.2.length ≤ a) → t.rd8
        a = s.rd8 a)
      ∧ (∀ c, e.owner = .ctx c → (t.ctx c).state = .faulted ∧ (t.ctx c).cause = 0xA) ∧ ChangesOnly [.fresh, .regs, .mem, .lost,
        .badLines, .evr, .domains, .groves, .ctxs, .ddr, .pages, .tiers, .dma, .seqt, .sets] s t)

/-! ### DMA -/

/-- R227, R229: the piece that is next in the order of service moves between Grove SRAM and Dawn SRAM: the bytes of the destination
become those of the source, no other byte changes, and the transfer has moved that much further. R86, R230: a finished transfer
leaves the DMA, and the Skid entries that it filled become resident. R28, R378: one whose generation tag is stale is dropped: it
leaves the DMA, the drop counts in DMA_DROPPED and in LKT_DROPPED of its domain, and no event is recorded. R174: a copy-on-write
gives the list entry a frame of its own: the new frame stands in the entry, the transfer goes on through it, and the copy is
counted; with no frame free, or none within quota, the transfer waits and the list keeps its entries (Table 8.9). -/
def Obligations.Transfers : Prop :=
  (∀ (s : State) (n a : Nat), s.running 1 = true → s.nextPiece = some n →
    (let x := s.xfer n
     let d := descOf x.desc
     let len := x.pieceBytes
     let far := dawnBase + d.remoteStart + x.moved
     d.remote.1 = 5 → (d.isStore = false → d.dstKind = 0) → s.localAddr x.owner x.grove (d.gsram + x.moved) = some a → 0x3FFFF < a →
     s.badIn a len = [] → s.badIn far len = [] →
     Completes (.transferPiece 0) s fun t =>
      (t.xfer n).moved = x.moved + len
      ∧ (d.isStore = true → (∀ j, j < len → t.rd8 (far + j) = s.rd8 (a + j)) ∧ (∀ y, y < far ∨ far + len ≤ y → t.rd8 y = s.rd8 y))
      ∧ (d.isStore = false → (∀ j, j < len → t.rd8 (a + j) = s.rd8 (far + j)) ∧ (∀ y, y < a ∨ a + len ≤ y → t.rd8 y = s.rd8 y))
      ∧ ChangesOnly [.fresh, .mem, .lost, .badLines, .ctxs, .ddr, .dma] s t))
  ∧ (∀ (s : State) (n : Nat), thas s.dma.xfers n = true → s.tiers.waiting = none →
    (descOf (s.xfer n).desc).isStep = false →
    (s.stale (s.xfer n) = false → s.xferFinished (s.xfer n) = true → (descOf (s.xfer n).desc).isRestore = false →
      Completes (.transferComplete n) s fun t => (∀ m, m ≠ n → tfind t.dma.xfers m = tfind s.dma.xfers m) ∧ thas t.dma.xfers n = false
        ∧ (∀ v e k, (s.xfer n).slots = [(v, e)] → tfind (s.grove (s.xfer n).grove).skid e = some k → k.owner = (s.xfer n).owner →
          k.vslot = v →
            k.tag = (s.xfer n).tag → tfind (t.grove (s.xfer n).grove).skid e = some { k with complete := true })
        ∧ ChangesOnly [.groves, .ctxs, .dma] s t)
    ∧ (s.stale (s.xfer n) = true → s.running 1 = true →
      Completes (.transferComplete n) s fun t => (∀ m, m ≠ n → tfind t.dma.xfers m = tfind s.dma.xfers m) ∧ thas t.dma.xfers n = false
        ∧ t.rn Reg.DMA_DROPPED = satAdd32 (s.rn Reg.DMA_DROPPED) 1
        ∧ t.rn (Reg.LKT_DROPPED (s.xfer n).owner.domain) = satAdd32 (s.rn (Reg.LKT_DROPPED (s.xfer n).owner.domain)) 1
        ∧ SameRegsBut (fun k => k = Reg.DMA_DROPPED ∨ k = Reg.DMA_EVT ∨ k = Reg.LKT_DROPPED (s.xfer n).owner.domain) s t
        ∧ ChangesOnly [.regs, .groves, .ctxs, .dma] s t))
  ∧ (∀ (s : State) (n : Nat), s.running 1 = true → thas s.dma.xfers n = true →
    s.stale (s.xfer n) = false → s.needsCopy (s.xfer n) = true →
    (let d := descOf (s.xfer n).desc
     let l := fld d.remote.2.1 0 10
     let lp := (pagedTile s.pages.pageTiles d ((s.xfer n).moved / 4096)).1
     let old := nth 0 (s.plist l).entries lp
     let new := (s.takeFrame (s.plist l).owner).2
     (s.freeFrames ≠ 0 → s.framesFit (s.plist l).owner 1 = true →
       (State.copyTiles old new 0 s.pages.pageTiles (s.takeFrame (s.plist l).owner).1).2 = none →
       Completes (.copyOnWrite n 0) s fun t => (t.plist l).entries = (s.plist l).entries.set lp new
         ∧ tfind (t.xfer n).pages lp = some new ∧ (t.xfer n).wait = .none
         ∧ (1 < (s.frame old).refs → new ≠ old → (t.frame old).refs = (s.frame old).refs - 1)
         ∧ t.rn Reg.PAGE_COW_COUNT = satAdd32 (s.rn Reg.PAGE_COW_COUNT) 1 ∧ t.rb Reg.PAGE_EVT 3 = true
         ∧ (∀ m, m ≠ l → t.plist m = s.plist m) ∧ ChangesOnly [.fresh, .regs, .mem, .lost, .badLines, .evr, .groves, .ctxs, .ddr,
           .pages, .tiers, .dma, .seqt, .sets] s t)
     ∧ ((s.freeFrames = 0 ∨ s.framesFit (s.plist l).owner 1 = false) →
       Completes (.copyOnWrite n 0) s fun t => (t.xfer n).wait = .frames ∧ t.pages = s.pages ∧ ChangesOnly [.dma, .ctxs] s t)))

/-! ### Pages -/

/-- R166, R168 to R170: LIST_NEW gives the lowest list ID not in use to an empty list; LIST_FREE ends a list; PUBLISH marks a list and
its frames; AUDIT counts the frames in breach. Each shows its completion. R168 to R170: APPEND adds entries after those of the
list, TRUNCATE keeps the first entries, FORK copies entries into an empty list; a frame whose last transfer has ended after its
REFCOUNT came to 0 joins the free list. -/
def Obligations.Pages : Prop :=
  (∀ (s : State) (i : Initiator) (v : Word), s.reaches i Reg.PAGE_OP →
    (let l := fld v.toNat 16 10
     let a0 := s.rn Reg.PAGE_OP_ARG0
     let a1 := s.rn Reg.PAGE_OP_ARG1
     let shown (t : State) (result : Nat) : Prop := t.rn Reg.PAGE_OP_STATUS = 0 ∧ t.rn Reg.PAGE_OP_RESULT = result % 2 ^ 32
       ∧ t.rb Reg.PAGE_EVT 0 = true
       ∧ SameRegsBut (fun k => k = Reg.PAGE_OP ∨ k = Reg.PAGE_OP_STATUS ∨ k = Reg.PAGE_OP_RESULT ∨ k = Reg.PAGE_EVT) s t
     (∀ n, ((a0 < 128 ∧ (s.ctx a0).state ≠ .free) ∨ a0 = 0xFE) → 1 ≤ a1 → a1 ≤ 1048576 → n < 1024 → s.hasList n = false →
        (∀ m, m < n → s.hasList m = true) → s.ptUsed + ceilDiv a1 1024 ≤ s.pages.ptUnits →
        Completes (.listNew i v) s fun t => shown t n
          ∧ t.pages = { s.pages with lists := tput s.pages.lists n { owner := a0, capacity := a1 } } ∧ ChangesOnly [.fresh, .bus,
            .regs, .written, .evr, .pages] s t)
     ∧ (s.hasList l = true → (s.plist l).feature = false → s.attached l = false →
        Completes (.listFree i v) s fun t => shown t 0 ∧ t.hasList l = false ∧ (∀ m, m ≠ l → t.plist m = s.plist m) ∧ ChangesOnly
          [.fresh, .bus, .regs, .written, .evr, .pages] s t)
     ∧ (s.hasList l = true → (s.plist l).feature = false → (s.plist l).published = false → (s.plist l).owner = 0xFE → s.attached l =
       false →
        Completes (.listPublish i v) s fun t => shown t (s.plist l).entries.length ∧ t.plist l = { s.plist l with published := true }
          ∧ (∀ f ∈ (s.plist l).entries, (t.frame f).pub = true) ∧ (∀ m, m ≠ l → t.plist m = s.plist m) ∧ ChangesOnly [.fresh, .bus,
            .regs, .written, .evr, .pages] s t)
     ∧ Completes (.poolAudit i v) s fun t => shown t s.auditBreaches ∧ t.pages = s.pages
          ∧ (s.auditBreaches ≠ 0 → t.rb Reg.PAGE_EVT 4 = true) ∧ ChangesOnly [.fresh, .bus, .regs, .written, .evr, .pages] s t))
  ∧ ((∀ (s : State) (i : Initiator) (v : Word), s.reaches i Reg.PAGE_OP →
     (let l := fld v.toNat 16 10
      let a0 := s.rn Reg.PAGE_OP_ARG0
      let a1 := s.rn Reg.PAGE_OP_ARG1
      let shown (t : State) (result : Nat) : Prop := t.rn Reg.PAGE_OP_STATUS = 0 ∧ t.rn Reg.PAGE_OP_RESULT = result % 2 ^ 32
        ∧ t.rb Reg.PAGE_EVT 0 = true ∧ (∀ m, m ≠ l → t.plist m = s.plist m)
        ∧ SameRegsBut (fun k => k = Reg.PAGE_OP ∨ k = Reg.PAGE_OP_STATUS ∨ k = Reg.PAGE_OP_RESULT ∨ k = Reg.PAGE_EVT) s t
      s.hasList l = true → (s.plist l).feature = false → (s.plist l).published = false → s.attached l = false →
      (1 ≤ a0 → a0 ≤ 4096 → (s.plist l).entries.length + a0 ≤ (s.plist l).capacity → a0 ≤ s.freeFrames →
         s.framesFit (s.plist l).owner a0 = true →
         Completes (.listAppend i v) s fun t => shown t ((s.plist l).entries.length + a0)
           ∧ (t.plist l).entries.length = (s.plist l).entries.length + a0
           ∧ (t.plist l).entries.take (s.plist l).entries.length = (s.plist l).entries ∧ ChangesOnly [.fresh, .bus, .regs, .written,
             .evr, .pages] s t)
      ∧ (a0 ≤ (s.plist l).entries.length →
         Completes (.listTruncate i v) s fun t => shown t a0 ∧ (t.plist l).entries = (s.plist l).entries.take a0 ∧ ChangesOnly
           [.fresh, .bus, .regs, .written, .evr, .pages] s t)
      ∧ (a0 < 1024 → s.hasList a0 = true → (s.plist a0).feature = false → s.attached a0 = false → a1 ≤ (s.plist l).capacity →
         (s.plist l).entries = [] → a1 ≤ (s.plist a0).entries.length → ((s.plist a0).published = true ∨ (s.plist l).owner = (s.plist
           a0).owner) →
         (∀ f ∈ (s.plist a0).entries.take a1, (s.frame f).refs + ((s.plist a0).entries.take a1).count f ≤ 65535) →
         Completes (.listFork i v) s fun t => shown t a1 ∧ (t.plist l).entries = (s.plist a0).entries.take a1
           ∧ (∀ f, (t.frame f).refs = (s.frame f).refs + ((s.plist a0).entries.take a1).count f) ∧ ChangesOnly [.fresh, .bus, .regs,
             .written, .evr, .pages] s t)))
    ∧ (∀ (s : State) (f : Nat), thas s.pages.used f = true → (s.frame f).draining = true → s.frameInFlight f = false →
        Completes (.frameDrainEnd f) s fun t => thas t.pages.used f = false ∧ t.pages.lists = s.pages.lists ∧ ChangesOnly [.pages] s
          t))

/-! ### Sequence serving -/

/-- R195, R201: the operations of the active sequence table: ADMIT gives the lowest FREE entry the staged words; RETIRE frees an entry,
or marks it RETIRING while it is in a step; HOLD, RELEASE and PRIO act at once, or at the end of the step. Each shows its
completion. -/
def Obligations.SequenceOperations : Prop := ∀ (s : State) (i : Initiator) (v : Word), s.reaches i Reg.SEQ_OP →
  fld v.toNat 4 12 = 0 → fld v.toNat 25 7 = 0 →
  (let e := fld v.toNat 16 9
   let x := s.seqEntry e
   let staged := fun j => s.rn (Reg.SEQ_STAGE j)
   let prio := s.rn Reg.SEQ_OP_ARG0 % 4
   let shown (t : State) (result : Nat) : Prop := t.rn Reg.SEQ_OP_STATUS = 0 ∧ t.rn Reg.SEQ_OP_RESULT = result
     ∧ SameRegsBut (fun k => k = Reg.SEQ_OP ∨ k = Reg.SEQ_OP_STATUS ∨ k = Reg.SEQ_OP_RESULT) s t
   (∀ n, n < 512 → s.admitError staged = 0 → s.hasEntry n = false → (∀ m, m < n → s.hasEntry m = true) →
      Completes (.seqAdmit i v) s fun t => shown t n ∧ t.seqEntry n = stagedEntry staged ∧ (∀ m, m ≠ n → t.seqEntry m = s.seqEntry m)
        ∧ ChangesOnly [.bus, .regs, .written, .evr, .pages, .seqt] s t)
   ∧ (s.hasEntry e = true → Completes (.seqRetire i v) s fun t => shown t 0
        ∧ (if x.inStep then t.seqEntry e = { x with state := .retiring } else t.hasEntry e = false ∧ t.hasList x.list = false)
        ∧ (∀ m, m ≠ e → t.seqEntry m = s.seqEntry m) ∧ ChangesOnly [.bus, .regs, .written, .evr, .pages, .seqt] s t)
   ∧ (s.hasEntry e = true → x.state ≠ .faulted → x.state ≠ .retiring → Completes (.seqHold i v) s fun t => shown t 0
        ∧ t.seqEntry e = (if x.inStep then { x with holdReq := true } else { x with state := .held })
        ∧ (∀ m, m ≠ e → t.seqEntry m = s.seqEntry m) ∧ ChangesOnly [.bus, .regs, .written, .evr, .pages, .seqt] s t)
   ∧ (s.hasEntry e = true → x.state = .held → Completes (.seqRelease i v) s fun t => shown t 0 ∧ t.seqEntry e = { x with state :=
     x.byFields }
        ∧ (∀ m, m ≠ e → t.seqEntry m = s.seqEntry m) ∧ ChangesOnly [.bus, .regs, .written, .evr, .pages, .seqt] s t)
   ∧ (s.hasEntry e = true → Completes (.seqPrio i v) s fun t => shown t 0
        ∧ t.seqEntry e = (if x.inStep then { x with prioReq := some prio } else { x with prio := prio })
        ∧ (∀ m, m ≠ e → t.seqEntry m = s.seqEntry m) ∧ ChangesOnly [.bus, .regs, .written, .evr, .pages, .seqt] s t))

/-- R193, R195, R205: a submission moves IN_TAIL, and an IDLE entry with input waiting becomes READY; an acknowledgement moves OUT_HEAD
within its ring; a write of SEQ_ENT_SEL copies the sixteen words of the entry that it selects. -/
def Obligations.SequenceRings : Prop :=
  (∀ (s : State) (i : Initiator) (e : Fin 512) (v : Word), s.reaches i (Reg.SEQ_SUBMIT e.val) → s.hasEntry e.val = true →
    (s.seqEntry e.val).state ≠ .faulted → (s.seqEntry e.val).state ≠ .retiring → v.toNat % 2 ^ 16 < 2 ^ (s.seqEntry e.val).inOrder →
    Completes (.seqSubmit i e v) s fun t => (t.seqEntry e.val).inTail = v.toNat % 2 ^ 16
      ∧ ((s.seqEntry e.val).state = .idle → v.toNat % 2 ^ 16 ≠ (s.seqEntry e.val).inHead → (s.seqEntry e.val).inHead < 2 ^ (s.seqEntry
        e.val).inOrder →
          (t.seqEntry e.val).state = .ready)
      ∧ (∀ m, m ≠ e.val → t.seqEntry m = s.seqEntry m) ∧ ChangesOnly [.bus, .regs, .written, .evr, .seqt] s t)
  ∧ (∀ (s : State) (i : Initiator) (e : Fin 512) (v : Word), s.reaches i (Reg.SEQ_OUTACK e.val) → s.hasEntry e.val = true →
    Completes (.seqOutack i e v) s fun t =>
      t.seqEntry e.val = { s.seqEntry e.val with outHead := v.toNat % 2 ^ 16 % 2 ^ (s.seqEntry e.val).outOrder }
      ∧ (∀ m, m ≠ e.val → t.seqEntry m = s.seqEntry m) ∧ ChangesOnly [.bus, .regs, .written, .evr, .seqt] s t)
  ∧ (∀ (s : State) (i : Initiator) (v : Word), s.reaches i Reg.SEQ_ENT_SEL →
    Completes (.seqEntSel i v) s fun t => (∀ n, n < 16 → t.rn (Reg.SEQ_ENT_DATA n) = s.seqWord (v.toNat % 2 ^ 9) n % 2 ^ 32)
      ∧ SameRegsBut (fun k => k = Reg.SEQ_ENT_SEL ∨ ∃ n, n < 16 ∧ k = Reg.SEQ_ENT_DATA n) s t ∧ ChangesOnly [.bus, .regs, .written,
        .evr] s t)

/-- R196 to R199: a step is built where a group has none in flight: its number is the next one, the work list's first words hold the
number and the counts, and STEP_BUILT is shown; its release rings the server's doorbell; its completion ends it and moves the entry
of its one record on by the rows served. R204: at a scheduled boundary of a level-2 group the outputs that it holds leave it, and a
step that SEQ_GRP_GO has released starts; a step still running at its boundary is an overrun and is abandoned. -/
def Obligations.SequenceSteps : Prop :=
  ((∀ (s : State) (g : Fin 16) (r : RowGroup) (rs : List RowGroup), s.running 1 = true → s.grpEn g.val = true →
      (s.seqGroup g.val).flight = none → s.serverRuns g.val = true → 0x3FFFF < s.grpWorkList g.val →
      (let b := (s.candidates g.val).foldl (Build.candidate g.val) { state := s }
       b.groups = r :: rs →
       Completes (.stepBuild g) s fun t => (t.seqGroup g.val).flight = some (r :: rs) ∧ (t.seqGroup g.val).released = false
        ∧ t.rn (Reg.SEQ_GRP_STEP g.val) = (s.rn (Reg.SEQ_GRP_STEP g.val) + 1) % 2 ^ 32 ∧ t.rb Reg.SEQ_EVT 0 = true
        ∧ t.rdLE (s.grpWorkList g.val) 4 = (s.rn (Reg.SEQ_GRP_STEP g.val) + 1) % 2 ^ 32 ∧ ChangesOnly [.fresh, .epoch, .regs, .mem,
          .lost, .badLines, .evr, .ddr, .pages, .seqt] s t))
    ∧ (∀ (s : State) (i : Initiator) (g : Fin 16) (v : Word), s.reaches i (Reg.SEQ_GRP_GO g.val) →
      (s.seqGroup g.val).flight.isSome = true → (s.seqGroup g.val).released = false →
      Completes (.seqGrpGo i g v) s fun t =>
        (s.grpIso g.val = 2 → t.seqGroup g.val = { s.seqGroup g.val with goTail := some (v.toNat % 2 ^ 16) })
        ∧ (s.grpIso g.val ≠ 2 → (s.ctx (s.grpServer g.val)).state = .ready → s.thePlan.anyOpen = true →
            v.toNat % 2 ^ 16 < 2 ^ (s.ctx (s.grpServer g.val)).ringOrder →
            (t.seqGroup g.val).released = true ∧ (t.ctx (s.grpServer g.val)).tail = v.toNat % 2 ^ 16)
        ∧ ChangesOnly [.bus, .regs, .written, .evr, .groves, .ctxs, .pages, .seqt, .sets] s t)
    ∧ (∀ (s : State) (n : Nat) (rows : List RowGroup), s.running 1 = true → thas s.dma.xfers n = true → s.tiers.waiting = none →
      (let d := descOf (s.xfer n).desc
       d.isStep = true → s.earlierXfer n = false → (s.seqGroup d.group).flight = some rows → s.stale (s.xfer n) = false →
       d.step = s.rn (Reg.SEQ_GRP_STEP d.group) → (s.xfer n).owner = .ctx (s.grpServer d.group) → s.grpEn d.group = true →
       Completes (.stepCompletion n) s fun t => (t.seqGroup d.group).flight = none ∧ thas t.dma.xfers n = false ∧ t.rb Reg.SEQ_EVT 1 =
         true
        ∧ (∀ r, rows = [r] → s.hasEntry r.entry = true → (s.seqEntry r.entry).state ≠ .retiring →
            (t.seqEntry r.entry).pos = (s.seqEntry r.entry).pos + r.rows ∧ (t.seqEntry r.entry).inStep = false
            ∧ (t.seqEntry r.entry).inHead = ((s.seqEntry r.entry).inHead + r.consumed) % 2 ^ (s.seqEntry r.entry).inOrder)
        ∧ ChangesOnly [.fresh, .epoch, .regs, .mem, .lost, .badLines, .evr, .groves, .ctxs, .ddr, .pages, .tiers, .dma, .seqt] s t)))
  ∧ (∀ (s : State) (g : Fin 16) (rows : List RowGroup), s.running 1 = true → s.grpEn g.val = true →
    s.grpIso g.val = 2 → (s.seqGroup g.val).started = true → (s.seqGroup g.val).flight = some rows →
    (∀ tail, (s.seqGroup g.val).released = false → (s.seqGroup g.val).goTail = some tail →
      s.thePlan.anyOpen = true → tail < 2 ^ (s.ctx (s.grpServer g.val)).ringOrder →
      Completes (.scheduledBoundary g) s fun t => (t.seqGroup g.val).outbox = [] ∧ (t.seqGroup g.val).released = true
        ∧ (t.seqGroup g.val).goTail = none ∧ ChangesOnly [.regs, .mem, .lost, .badLines, .evr, .groves, .ctxs, .ddr, .pages, .seqt,
          .sets] s t)
    ∧ ((s.seqGroup g.val).released = true →
      Completes (.scheduledBoundary g) s fun t => (t.seqGroup g.val).outbox = [] ∧ (t.seqGroup g.val).flight = none
        ∧ t.rn (Reg.SEQ_GRP_OVERRUN g.val) = satAdd32 (s.rn (Reg.SEQ_GRP_OVERRUN g.val)) 1 ∧ t.rb Reg.SEQ_EVT 6 = true
        ∧ ChangesOnly [.regs, .mem, .lost, .badLines, .evr, .groves, .ctxs, .ddr, .pages, .seqt, .sets] s t))

/-! ### Objects -/

/-- R212 to R216, R396: OBJ_NEW gives the lowest FREE ID to an object as its operands say; OBJ_FREE ends one, or lets it drain while a
transfer names it, and revokes every window over it; OBJ_PLACE and OBJ_FLUSH make it MOVING. Each shows its completion. -/
def Obligations.ObjectOperations : Prop := ∀ (s : State) (i : Initiator) (v : Word), s.reaches i Reg.TIER_OBJ_OP → s.tiers.waiting =
  none →
  (let k := fld v.toNat 16 12
   let a0 := s.rn Reg.TIER_OBJ_ARG0
   let a1 := s.rn Reg.TIER_OBJ_ARG1
   let o := newObj a0 a1
   let p := fld a0 8 2
   let shown (t : State) (result : Nat) : Prop := t.rn Reg.TIER_OBJ_STATUS = 0 ∧ t.rn Reg.TIER_OBJ_RESULT = result % 2 ^ 32
     ∧ t.rb Reg.TIER_EVT 0 = true ∧ t.tiers.waiting = none
   (∀ n, n < 3840 → fld a0 10 2 = 0 → bitOf a0 15 = false → fld a0 18 14 = 0 → o.place = 0 → o.width ≠ 3 → o.owner < 128 →
      (s.ctx o.owner).state ≠ .free → s.hasObj n = false → (∀ m, m < n → s.hasObj m = true) → o.flagsOk = true →
      s.ddrFits o.owner a1 = true → (o.sealed = true → (s.sealKey o).isSome = true) →
      Completes (.objNew i v) s fun t => shown t n ∧ (t.obj n).owner = o.owner ∧ (t.obj n).tiles = a1 ∧ (t.obj n).place = 0
        ∧ (t.obj n).state = .ready ∧ (∀ m, m ≠ n → t.obj m = s.obj m)
        ∧ (o.host = true → ∀ x, (t.obj n).hostBase ≤ x → x < (t.obj n).hostBase + a1 * 4096 → t.rd8 x = 0) ∧ ChangesOnly [.bus, .regs,
          .written, .mem, .lost, .badLines, .evr, .tiers] s t)
   ∧ (s.hasObj k = true → (s.obj k).state = .ready → (s.obj k).standing = false →
      Completes (.objFree i v) s fun t => shown t 0
        ∧ (if s.objBusy k then t.obj k = { s.obj k with state := .draining } else t.hasObj k = false)
        ∧ (∀ w, w < 256 → bitOf (s.rn (Reg.SEC_WIN w 0)) 0 = true → bitOf (s.rn (Reg.SEC_WIN w 0)) 7 = true →
            fld (s.rn (Reg.SEC_WIN w 0)) 16 12 = k → t.rn (Reg.SEC_WIN w 0) = 0)
        ∧ (∀ m, m ≠ k → t.obj m = s.obj m) ∧ ChangesOnly [.bus, .regs, .written, .tiers] s t)
   ∧ (s.hasObj k = true → (s.obj k).state = .ready → (s.obj k).standing = false → fld a0 0 8 = 0 → fld a0 10 22 = 0 → p = 0 →
      ((s.obj k).place = 2 → s.ddrFits (s.obj k).owner (s.obj k).tiles = true) →
      Completes (.objPlace i v) s fun t => shown t 0 ∧ t.obj k = { s.obj k with state := .moving, target := 0 }
        ∧ (∀ m, m ≠ k → t.obj m = s.obj m) ∧ ChangesOnly [.bus, .regs, .written, .tiers] s t)
   ∧ (s.hasObj k = true → (s.obj k).state = .ready → (s.obj k).standing = false →
      Completes (.objFlush i v) s fun t =>
        (if (s.obj k).place = 1 then shown t (s.obj k).dirty.length ∧ t.obj k = { s.obj k with state := .moving, target := 1 }
         else shown t 0 ∧ t.obj k = s.obj k)
        ∧ (∀ m, m ≠ k → t.obj m = s.obj m) ∧ ChangesOnly [.bus, .regs, .written, .tiers] s t))

/-- R216, R218, R223, R224: the end of a move puts an object at its new placement, READY; a drained object becomes FREE; and with fewer
than a sixteenth of the open Canopy pool free, a staged copy old enough is written back and dropped. R213, R234: a write of
TIER_OBJ_SEL copies the words of the object's entry, zero for a FREE one, and a write of TIER_QUOTA_SEL the use of an owner. -/
def Obligations.ObjectMoves : Prop :=
  (∀ s : State, s.tiers.waiting = none → s.running 1 = true →
    (∀ k : Fin 4096, s.hasObj k.val = true → (s.obj k.val).state = .moving →
      Completes (.objectMoveDone k) s fun t => (t.obj k.val).state = .ready ∧ (t.obj k.val).place = (s.obj k.val).target
        ∧ ((s.obj k.val).place ≠ 1 → (t.obj k.val).home = (s.obj k.val).home) ∧ t.rb Reg.TIER_EVT 2 = true
        ∧ (∀ m, m ≠ k.val → t.obj m = s.obj m) ∧ ChangesOnly [.regs, .ctxs, .tiers, .dma] s t)
    ∧ (∀ k : Fin 4096, s.hasObj k.val = true → (s.obj k.val).state = .draining → s.objBusy k.val = false →
      Completes (.objectDrainEnd k) s fun t => t.hasObj k.val = false ∧ (∀ m, m ≠ k.val → t.obj m = s.obj m) ∧ ChangesOnly [.tiers] s
        t)
    ∧ (∀ v, s.thePlan.ageTicks ≠ 0 → 16 * s.cnpFree < s.thePlan.cnpOpen →
        s.victimCopy (fun o => decide (s.thePlan.ageTicks ≤ s.objAge o) && decide ((s.thePlan.quotaOf o.owner).cnpGuar < s.cnpUsed
          o.owner)) = some v →
        s.thePlan.cnpOpen ≤ 16 * (s.evictCopy v).cnpFree →
      Completes .ageEviction s fun t => (t.obj v).place = 0 ∧ (t.obj v).copy = [] ∧ (t.obj v).dirty = []
        ∧ (∀ i ∈ (s.obj v).dirty, tfind (t.obj v).home i = tfind (s.obj v).copy i)
        ∧ t.rn Reg.TIER_EVICTIONS = satAdd32 (s.rn Reg.TIER_EVICTIONS) 1 ∧ (∀ m, m ≠ v → t.obj m = s.obj m)
        ∧ ChangesOnly [.regs, .evr, .tiers] s t))
  ∧ ((∀ (s : State) (i : Initiator) (v : Word), s.reaches i Reg.TIER_OBJ_SEL →
      Completes (.tierObjSel i v) s fun t =>
        (∀ n, n < 4 → t.rn (Reg.TIER_OBJ_DATA n) =
          (if s.hasObj (v.toNat % 2 ^ 12) then (s.obj (v.toNat % 2 ^ 12)).word n % 2 ^ 32 else 0))
        ∧ SameRegsBut (fun k => k = Reg.TIER_OBJ_SEL ∨ ∃ n, n < 4 ∧ k = Reg.TIER_OBJ_DATA n) s t ∧ ChangesOnly [.bus, .regs, .written,
          .evr] s t)
    ∧ (∀ (s : State) (i : Initiator) (v : Word), s.reaches i Reg.TIER_QUOTA_SEL →
      Completes (.tierQuotaSel i v) s fun t => t.rn Reg.TIER_QUOTA_DDR = s.ddrUsed (v.toNat % 2 ^ 8) % 2 ^ 32
        ∧ SameRegsBut (fun k => k = Reg.TIER_QUOTA_SEL ∨ k = Reg.TIER_QUOTA_CNP ∨ k = Reg.TIER_QUOTA_DDR) s t ∧ ChangesOnly [.bus,
          .regs, .written, .evr] s t))

/-! ### The picture path -/

/-- R253, R254, R258, R273, R274: the receiver locks to a link with a timing, or its timing changes: the VIN registers show it, D
follows it, and a change mutes the output until the frame that follows. A link lost, or two periods without a frame start, loses
the input and clears the feature bits; InfoFrames are kept as received; FORCE_LOW lowers the hot-plug line. -/
def Obligations.InputTimings : Prop := ∀ s : State,
  let shows (n : VideoTiming) (t : State) : Prop :=
    t.pic.timing = some n ∧ t.pic.frameMhz = n.frameMhz ∧ t.rn Reg.VIN_TIMING = (n.activeW + n.activeH * 2 ^ 16) % 2 ^ 32
      ∧ t.rn Reg.VIN_TOTAL = (n.totalW + n.totalH * 2 ^ 16) % 2 ^ 32 ∧ t.rn Reg.VIN_FMT = timingFmt n
      ∧ t.rf Reg.VIN_STATUS 0 12 = timingLink n ∧ t.rb Reg.VIN_STATUS 13 = t.geomMatch ∧ t.rn Reg.RCMP_DELAY_NS = t.delayNs % 2 ^ 32
      ∧ (s.pic.timing ≠ some n → t.pic.outMuted = true ∧ t.pic.feat0 = [] ∧ t.pic.feat1 = [])
  (∀ n, s.running 8 = true → s.rb Reg.VIN_STATUS 2 = false →
    Completes (.hdmiLinkLock n) s fun t => shows n t ∧ t.rb Reg.VIN_EVT 0 = true ∧ ChangesOnly [.regs, .tick, .pic] s t)
  ∧ (∀ n, s.running 8 = true → s.rb Reg.VIN_STATUS 2 = true →
    Completes (.timingChange n) s fun t => shows n t
      ∧ (s.pic.timing ≠ some n → s.pic.timing ≠ none → t.rb Reg.VIN_EVT 2 = true) ∧ ChangesOnly [.regs, .tick, .pic] s t)
  ∧ (s.running 8 = true → s.rb Reg.VIN_STATUS 2 = true →
    Completes .hdmiLinkLoss s fun t => t.rf Reg.VIN_STATUS 0 12 = 0 ∧ t.pic.lost = true ∧ t.rb Reg.VIN_EVT 1 = true
      ∧ t.pic.timing = s.pic.timing ∧ ChangesOnly [.regs, .evr, .pic] s t)
  ∧ (s.running 8 = true → s.pic.lost = false →
    Completes .inputLost s fun t => t.pic.lost = true ∧ t.pic.outMuted = true ∧ t.pic.feat0 = [] ∧ t.pic.feat1 = []
      ∧ t.rb Reg.VIN_STATUS 12 = false ∧ t.rb Reg.VIN_EVT 3 = true ∧ t.pic.timing = s.pic.timing ∧ ChangesOnly [.regs, .evr, .pic] s t)
  ∧ (∀ drm bs, s.running 8 = true → s.rb Reg.VIN_STATUS 2 = true →
    Completes (.infoframeCapture drm bs) s fun t =>
      let k := if drm then Reg.VIN_DRM 0 else Reg.VIN_AVI 0
      (∀ i, i < 8 → t.rn (k + 4 * i) = u32 (padTo 0 32 bs) (4 * i))
        ∧ ((∃ i, i < 8 ∧ s.rn (k + 4 * i) ≠ u32 (padTo 0 32 bs) (4 * i)) → t.rb Reg.VIN_EVT 4 = true)
        ∧ SameRegsBut (fun j => j = Reg.VIN_EVT ∨ ∃ i, i < 8 ∧ j = k + 4 * i) s t ∧ ChangesOnly [.regs] s t)
  ∧ (∀ v : Word, s.reaches .kernel Reg.VIN_HPD →
    Completes (.vinHpd .kernel v) s fun t => t.rb Reg.VIN_HPD 0 = bitOf v.toNat 0 ∧ t.rb Reg.VIN_STATUS 16 = !bitOf v.toNat 0
      ∧ SameRegsBut (fun k => k = Reg.VIN_HPD ∨ k = Reg.VIN_STATUS) s t ∧ ChangesOnly [.bus, .regs, .written, .evr] s t)

/-- R253, R257: a received row moves the row count on; the last row of a frame counts the frame, and an error in it. A row without a
transmission error, of an input of the declared geometry that is generated at its own rate, is stored in the input ring, a Canopy
region, as plane values, and no byte outside the ring changes; a row of another geometry is stored nowhere. -/
def Obligations.InputRows : Prop := ∀ (s : State) (n : VideoTiming) (px : List (List Nat)) (errors : Bool), s.pic.timing = some n →
  s.running 8 = true → s.pic.lost = false → s.pic.rows < n.activeH →
  Completes (.inputRow px errors) s fun t => t.pic.rows = s.pic.rows + 1
    ∧ (s.pic.rows + 1 < n.activeH → t.rn Reg.VIN_FRAMES = s.rn Reg.VIN_FRAMES ∧ t.pic.frameBad = (s.pic.frameBad || errors))
    ∧ (s.pic.rows + 1 = n.activeH → t.rn Reg.VIN_FRAMES = (s.rn Reg.VIN_FRAMES + 1) % 2 ^ 32 ∧ t.pic.frameBad = false
        ∧ ((s.pic.frameBad || errors) = true → t.rn Reg.VIN_ERR_FRAMES = satAdd32 (s.rn Reg.VIN_ERR_FRAMES) 1
            ∧ t.rb Reg.VIN_EVT 5 = true))
    ∧ (s.geomMatch = false → SameMemory s t)
    ∧ (∀ b r, s.picParams = some b → s.geomMatch = true → errors = false → picFrc2 b = false → s.thePlan.regions[picInRing b]? = some
      r →
        r.tier ≠ 1 → 0 < picInRows b →
        (∀ p x, p < 3 → x < n.activeW → planeExact n b p = true →
          t.rdLE (canopyBase + r.offset + ringOffset (picInRows b) n.activeW p s.pic.rows x) 2
            = planeValue b p (nth 0 (nth [] px p) x % 2 ^ depthBits n) (depthBits n) % 2 ^ 16)
        ∧ (∀ a, a < canopyBase + r.offset ∨ canopyBase + r.offset + 3 * picInRows b * ringPitch n.activeW ≤ a → t.rd8 a = s.rd8 a))
    ∧ ChangesOnly [.fresh, .regs, .mem, .lost, .badLines, .evr, .ddr, .pages, .tiers, .pic] s t

/-- R264, R266, R272, R275, Table 13.4: an output frame begins with no band decided, at the timing in force and in the mute colour of
VOUT_MUTE. A band is decided by the model's reading of R266: its source is kept and shown, a late band and a cover band are
counted. Without a picture stream of its own timing the whole frame comes from the bypass scaler or is muted, each row of a muted
frame in the mute colour. Memory does not change. -/
def Obligations.OutputFrames : Prop := ∀ s : State, s.running 8 = true →
  (Completes .outputFrameStart s fun t =>
    t.pic.outRunning = true ∧ t.pic.outNext = 0 ∧ t.pic.sources = [] ∧ t.pic.emitted = [] ∧ t.pic.muteCode = s.rn Reg.VOUT_MUTE
      ∧ t.rn Reg.VOUT_TIMING = (s.outputTiming.1 + s.outputTiming.2.1 * 2 ^ 16) % 2 ^ 32
      ∧ t.rn Reg.VOUT_FRAME_MHZ = s.outputTiming.2.2.2.2 % 2 ^ 32 ∧ t.rb Reg.VOUT_STATUS 10 = t.pic.outMuted
      ∧ (s.pic.lost = true → s.fedByRing = false → t.pic.outMuted = true)
      ∧ SameRegsBut (fun k => k = Reg.VOUT_TIMING ∨ k = Reg.VOUT_FRAME_MHZ ∨ k = Reg.VOUT_STATUS ∨ k = Reg.BYP_STATUS
          ∨ k = Reg.RCMP_STATUS) s t
      ∧ ChangesOnly [.fresh, .regs, .pic] s t)
  ∧ (∀ p, s.pic.outRunning = true → s.neuralParams = some p → s.pic.outNext < picNb p →
    Completes .bandDecision s fun t =>
      let j := s.judgeBand s.pic.outNext
      t.pic.outNext = s.pic.outNext + 1 ∧ t.sourceOf s.pic.outNext = some j.1
        ∧ t.rf Reg.RCMP_STATUS 0 2 = j.1.code ∧ t.rf Reg.RCMP_STATUS 16 7 = s.pic.outNext % 2 ^ 7
        ∧ t.rn Reg.RCMP_LATE = (if j.2 = .late then satAdd32 (s.rn Reg.RCMP_LATE) 1 else s.rn Reg.RCMP_LATE)
        ∧ t.rn Reg.RCMP_COVER = (if j.2 = .cover then satAdd32 (s.rn Reg.RCMP_COVER) 1 else s.rn Reg.RCMP_COVER)
        ∧ (s.pic.outMuted = true → j.1 = .mute) ∧ (s.pic.outMuted = false → s.rb Reg.BYP_CTRL 0 = true → j.1 = .bypass)
        ∧ ChangesOnly [.fresh, .regs, .evr, .ddr, .pages, .tiers, .pic] s t)
  ∧ (s.pic.outRunning = true → s.neuralParams = none → s.pic.outNext = 0 →
    Completes .bandDecision s fun t => t.pic.outNext = 1
      ∧ t.sourceOf 0 = some (if s.pic.outMuted = true then .mute else .bypass)
      ∧ (s.pic.outMuted = true → ∀ r, r < s.outputTiming.2.1 → tfind t.pic.emitted r = some ((List.range 3).map (fun plane =>
          List.replicate s.outputTiming.1 (nth 0 (muteCodes s.pic.muteCode) plane))))
      ∧ ChangesOnly [.fresh, .regs, .evr, .ddr, .pages, .tiers, .pic] s t)

/-- R256, R280, R281: link training takes the highest rate that is allowed, that the sink reports, that carries the timing and at which
the link trains, and shows it, or fails; it is tried again, a loss retrains at most once in 100 ms, and each retrain is counted.
VOUT_MUTE and BYP_CTRL hold what is written to their fields. Which rate carries a timing is a constant of the model (log entry 26). -/
def Obligations.DisplayPort : Prop := ∀ s : State,
  let found (u : State) (trains : List Nat) := u.tryRates.find? (fun r => trains.contains r && (u.rateCarries r).isSome)
  let trained (u : State) (trains : List Nat) (t : State) : Prop :=
    t.pic.lastTrainUs = some s.timeUs ∧ t.pic.retrainDue = false ∧ t.rb Reg.VOUT_STATUS 0 = (found u trains).isSome
      ∧ t.pic.trainFailed = (found u trains).isNone ∧ t.rf Reg.VOUT_STATUS 4 4 = (found u trains).getD 0
      ∧ (if (found u trains).isSome = true then t.rb Reg.VOUT_EVT 0 = true else t.rb Reg.VOUT_EVT 2 = true)
  (∀ rates trains preferred, s.running 8 = true → Completes (.dpLinkTrain rates trains preferred) s fun t =>
    t.pic.sinkHpd = true ∧ t.pic.sinkRates = rates ∧ t.pic.sinkTiming = preferred ∧ t.rb Reg.VOUT_STATUS 9 = true
      ∧ (let u := { s with pic.sinkHpd := true, pic.sinkRates := rates, pic.sinkTiming := preferred }
         trained (u.putF Reg.VOUT_STATUS 9 1 1).showGeometry trains t) ∧ ChangesOnly [.regs, .pic] s t)
  ∧ (∀ trains, s.running 8 = true → s.pic.trainFailed = true ∨ s.pic.retrainDue = true →
    Completes (.dpTrainRetry trains) s fun t => trained s trains t
      ∧ t.rn Reg.VOUT_RETRAINS = (if s.pic.retrainDue = true then satAdd32 (s.rn Reg.VOUT_RETRAINS) 1 else s.rn Reg.VOUT_RETRAINS)
      ∧ SameRegsBut (fun k => k / 0x10000 = 0x21) s t ∧ ChangesOnly [.regs, .pic] s t)
  ∧ (∀ trains, s.running 8 = true → s.rb Reg.VOUT_STATUS 0 = true →
    Completes (.dpSinkIrq trains) s fun t => t.rb Reg.VOUT_EVT 1 = true ∧ t.rb Reg.VOUT_EVT 3 = true
      ∧ (∀ u, s.pic.lastTrainUs = some u → s.timeUs < u + 100000 →
          t.rb Reg.VOUT_STATUS 0 = false ∧ t.pic.retrainDue = true ∧ t.rn Reg.VOUT_RETRAINS = s.rn Reg.VOUT_RETRAINS)
      ∧ ((∀ u, s.pic.lastTrainUs = some u → u + 100000 ≤ s.timeUs) →
          trained s trains t ∧ t.rn Reg.VOUT_RETRAINS = satAdd32 (s.rn Reg.VOUT_RETRAINS) 1)
      ∧ SameRegsBut (fun k => k / 0x10000 = 0x21) s t ∧ ChangesOnly [.regs, .pic] s t)
  ∧ (∀ i v, s.reaches i Reg.VOUT_MUTE → Completes (.voutMute i v) s fun t =>
      (∀ c, c < 3 → t.rf Reg.VOUT_MUTE (10 * c) 10 = fld v.toNat (10 * c) 10)
        ∧ SameRegsBut (fun k => k = Reg.VOUT_MUTE) s t ∧ ChangesOnly [.bus, .regs, .written, .evr] s t)
  ∧ (∀ i v, s.reaches i Reg.BYP_CTRL → Completes (.bypCtrl i v) s fun t => t.rb Reg.BYP_CTRL 0 = bitOf v.toNat 0
      ∧ SameRegsBut (fun k => k = Reg.BYP_CTRL) s t ∧ ChangesOnly [.bus, .regs, .written, .evr] s t)

/-! ### Microphones and the wake cascade -/

/-- R284, R285, R287, R288: a frame stores each enabled input's sample, saturated to 16 bits and zero while muted, at its place of the
history ring, and WPOS moves on by one; a saturated sample is counted; a change of MUTE takes effect at the frame. A bias output
that is found overloaded is off, and shown so. Setting MUTE ends the cascade at once with no HOST_WAKE. -/
def Obligations.MicrophoneFrames : Prop := ∀ s : State,
  (∀ xs : List Int, s.listening = true →
    Completes (.micFrame xs) s fun t =>
      let place := dawnBase + s.rn Reg.MIC_HIST_BASE + s.wpos % max 1 s.histCap * s.frameBytes
      t.mic.muted = s.rb Reg.MIC_MUTE 0 ∧ t.wpos = (s.wpos + 1) % 2 ^ 64
        ∧ (∀ i, i < s.micCount → t.rdLE (place + 2 * i) 2
            = if s.rb Reg.MIC_MUTE 0 = true then 0 else ofSigned 16 (clampInt (-32768) 32767 (nth 0 xs i)))
        ∧ (∀ a, a < place ∨ place + s.frameBytes ≤ a → t.rd8 a = s.rd8 a)
        ∧ (s.rb Reg.MIC_MUTE 0 ≠ s.mic.muted → t.rb Reg.MIC_EVT 4 = true)
        ∧ SameRegsBut (fun k => k = Reg.MIC_WPOS_LO ∨ k = Reg.MIC_WPOS_HI ∨ k = Reg.MIC_STATUS ∨ k = Reg.MIC_EVT
            ∨ (s.rb Reg.MIC_MUTE 0 = false ∧ ∃ n, k = Reg.MIC_CLIP n)) s t
        ∧ ChangesOnly [.regs, .mem, .lost, .badLines, .ddr, .mic] s t)
  ∧ (∀ n : Fin 2, s.running 0 = true → s.rb Reg.MIC_BIAS (8 * n.val) = true → bitOf s.mic.biasOff n.val = false →
    Completes (.biasFault n) s fun t => bitOf t.mic.biasOff n.val = true ∧ t.rb Reg.MIC_STATUS (2 + n.val) = false
      ∧ t.rb Reg.MIC_EVT n.val = true ∧ SameRegsBut (fun k => k = Reg.MIC_STATUS ∨ k = Reg.MIC_EVT) s t ∧ ChangesOnly [.regs, .mic] s
        t)
  ∧ (∀ i v, s.reaches i Reg.MIC_MUTE →
    Completes (.micMute i v) s fun t => t.rb Reg.MIC_MUTE 0 = bitOf v.toNat 0 ∧ t.rn Reg.DAWN_HOST_WAKE = s.rn Reg.DAWN_HOST_WAKE
      ∧ (bitOf v.toNat 0 = true → s.rb Reg.MIC_MUTE 0 = false → t.stage = 0 ∧ t.mic.exitWait = false)
      ∧ (bitOf v.toNat 0 = false → t.mic = s.mic ∧ SameRegsBut (fun k => k = Reg.MIC_MUTE) s t)
      ∧ SameRegsBut (fun k => k = Reg.MIC_MUTE ∨ k = Reg.DAWN_STATUS ∨ k / 0x10000 = 2) s t ∧ ChangesOnly [.bus, .regs, .written,
        .evr, .mic, .pwr, .pci] s t)

/-- R293, R294, R302: a hop whose score is below the threshold, or that does not count, ends the run of hits; one that reaches it adds
a hit, and the last hit needed is a detection in stage 0, which counts it, keeps its position, moves UTT on and sets its event bit,
and in any other stage only a refire. The score is shown in each case. R299, R301, R305: a follow-up with no onset, and a cascade
whose vote has lasted too long, end with no HOST_WAKE; HOST_WAKE falls when its hold ends, or where 1 is written to ASSERTED. -/
def Obligations.WakeCascade : Prop :=
  (∀ (s : State) (score : Fin 256), s.listening = true → 0 < s.wpos →
    Completes (.dawnHop score) s fun t =>
      let hit := !s.rb Reg.MIC_MUTE 0 && decide (s.mic.hopFrom + s.msFrames 10 ≤ s.wpos) && decide (s.rf Reg.DAWN_CFG 0 8 ≤ score.val)
      let last := decide (s.rf Reg.DAWN_CFG 8 4 ≤ s.mic.hits + 1)
      t.rf Reg.DAWN_SCORE 0 8 = score.val
      ∧ t.mic.hits = (if hit && !last then s.mic.hits + 1 else 0)
      ∧ t.rn Reg.DAWN_REFIRES = (if hit && last && decide (s.stage ≠ 0) then satAdd32 (s.rn Reg.DAWN_REFIRES) 1 else s.rn
        Reg.DAWN_REFIRES)
      ∧ t.rn Reg.DAWN_DETECTS = (if hit && last && decide (s.stage = 0) then satAdd32 (s.rn Reg.DAWN_DETECTS) 1 else s.rn
        Reg.DAWN_DETECTS)
      ∧ t.utt = (if hit && last && decide (s.stage = 0) then (s.utt + 1) % 2 ^ 16 else s.utt)
      ∧ ((hit && last && decide (s.stage = 0)) = true → t.wakePos = s.wpos - 1 ∧ t.rb Reg.DAWN_EVT 0 = true)
      ∧ ((hit && last && decide (s.stage = 0)) = false → t.stage = s.stage
          ∧ SameRegsBut (fun k => k = Reg.DAWN_SCORE ∨ k = Reg.DAWN_REFIRES) s t)
      ∧ ChangesOnly [.regs, .evr, .domains, .mode, .mic, .pwr, .pci, .pins] s t)
  ∧ (∀ s : State,
    let ended (t : State) : Prop := t.stage = 0 ∧ t.rf Reg.DAWN_STATUS 8 2 = 0 ∧ t.rb Reg.DAWN_STATUS 10 = false ∧ t.mic.hits = 0
      ∧ t.rn Reg.DAWN_HOST_WAKE = s.rn Reg.DAWN_HOST_WAKE ∧ t.utt = s.utt
    (s.running 0 = true → s.stage = 2 → s.rb Reg.DAWN_STATUS 9 = true → Completes .followTimeout s fun t => ended t
      ∧ SameRegsBut (fun k => k = Reg.DAWN_STATUS ∨ k / 0x10000 = 2) s t ∧ ChangesOnly [.regs, .mic, .pwr, .pci] s t)
    ∧ (s.running 0 = true → 1 ≤ s.stage → Completes .cascadeVoteTimeout s fun t => ended t ∧ t.rb Reg.DAWN_EVT 7 = true
      ∧ SameRegsBut (fun k => k = Reg.DAWN_STATUS ∨ k = Reg.DAWN_EVT ∨ k / 0x10000 = 2 ∨ k / 0x10000 = 3) s t ∧ ChangesOnly [.regs,
        .evr, .mic, .pwr, .pci] s t)
    ∧ (s.running 0 = true → Completes .hostWakeHoldExpiry s fun t => t.rb Reg.DAWN_HOST_WAKE 0 = false
      ∧ SameRegsBut (fun k => k = Reg.DAWN_HOST_WAKE) s t ∧ ChangesOnly [.regs] s t)
    ∧ (∀ i v, s.reaches i Reg.DAWN_HOST_WAKE → Completes (.dawnHostWake i v) s fun t =>
        t.rb Reg.DAWN_HOST_WAKE 0 = (s.rb Reg.DAWN_HOST_WAKE 0 && !bitOf v.toNat 0)
        ∧ SameRegsBut (fun k => k = Reg.DAWN_HOST_WAKE) s t ∧ ChangesOnly [.bus, .regs, .evr] s t))

/-! ### The camera, presence and the sample sets -/

/-- R309, R312, R320: a VSYNC start counts the frame, applies a committed set, shows a signal and breaks a frame that has not ended;
with D8 in reset the capture unit of D0 begins a frame of its own. With no VSYNC start for the time-out NO_SIGNAL is shown. A
commit waits for the next VSYNC start where each mesh in use passes R315, else MESH_BAD is set and nothing is kept. R309, R313,
R317, R319: a frame of the image pipeline that ends complete is delivered: FRAME_DONE is set, a full output ring drops it, any
other ring in DDR5 moves its tail on, the statistics ring too, and a release tick of the looking stream skips its look; one of
another size is broken, and nothing is written. -/
def Obligations.Camera : Prop :=
  (∀ s : State,
    (s.running 8 = true → s.rb Reg.CAM_CFG 0 = true → Completes .camVsync s fun t =>
      t.rn Reg.CAM_FRAME = (s.rn Reg.CAM_FRAME + 1) % 2 ^ 32 ∧ t.rb Reg.CAM_STATUS 0 = true ∧ t.rb Reg.CAM_STATUS 1 = false
        ∧ t.cam.noSignal = false ∧ t.cam.commit = none ∧ t.cam.params = s.cam.commit.getD s.cam.params ∧ t.cam.markDue = false
        ∧ (∃ f, t.cam.cur = some f ∧ f.frame = t.rn Reg.CAM_FRAME ∧ f.tick = s.r64 Reg.TICK_COUNT_LO ∧ f.params = t.cam.params
            ∧ f.presence = (s.cam.markDue && s.cam.presOn) ∧ f.d0 = false)
        ∧ (∀ c, s.cam.commit = some c → t.rn Reg.IPL_ACTIVE_ID = c.id % 2 ^ 32)
        ∧ (∀ f, s.cam.cur = some f → f.d0 = false → t.rn Reg.CAM_BROKEN = satAdd32 (s.rn Reg.CAM_BROKEN) 1 ∧ t.rb Reg.CAM_EVT 1 = true)
        ∧ (s.presenceBlock = none → SameMemory s t)
        ∧ SameRegsBut (fun k => k = Reg.CAM_FRAME ∨ k = Reg.CAM_STATUS ∨ k = Reg.CAM_BROKEN ∨ k = Reg.CAM_EVT ∨ k = Reg.IPL_ACTIVE_ID)
          s t
        ∧ ChangesOnly [.regs, .mem, .lost, .badLines, .ddr, .cam] s t)
    ∧ (s.d0Captures = true → bitOf s.cam.d0Cfg.1 0 = true → Completes .camVsync s fun t =>
      (∃ f, t.cam.cur = some f ∧ f.d0 = true ∧ f.frame = 0xFFFFFFFF ∧ f.presence = s.cam.markDue) ∧ t.cam.markDue = false
        ∧ t.cam.noSignal = false ∧ t.regs = s.regs ∧ ChangesOnly [.regs, .mem, .lost, .badLines, .ddr, .cam] s t)
    ∧ (s.running 8 = true → s.rb Reg.CAM_CFG 0 = true → Completes .camNoSignal s fun t =>
      t.cam.noSignal = true ∧ t.rb Reg.CAM_STATUS 1 = true ∧ t.rb Reg.CAM_STATUS 0 = false ∧ t.rb Reg.CAM_EVT 2 = true
        ∧ SameRegsBut (fun k => k = Reg.CAM_STATUS ∨ k = Reg.CAM_EVT) s t ∧ ChangesOnly [.regs, .mem, .lost, .badLines, .ddr, .cam] s
          t)
    ∧ (∀ i v, s.reaches i Reg.IPL_COMMIT → Completes (.iplCommit i v) s fun t =>
      let u := s.storeReg (decide (i = .kernel)) Reg.IPL_COMMIT v.toNat
      let p := u.shadowSet (v.toNat % 65536)
      ((∀ o m, o < 3 → u.meshOf p o = some m → m.ok = true) → t.cam.commit = some p)
        ∧ ((∃ o m, o < 3 ∧ u.meshOf p o = some m ∧ m.ok = false) → t.cam.commit = s.cam.commit ∧ t.rb Reg.CAM_EVT 5 = true)
        ∧ t.cam.params = s.cam.params
        ∧ SameRegsBut (fun k => k = Reg.IPL_COMMIT ∨ k = Reg.CAM_EVT) s t ∧ ChangesOnly [.fresh, .bus, .regs, .written, .evr, .cam] s
          t))
  ∧ (∀ (s : State) (rows : List (List Nat)) (f : CamFrame), s.running 8 = true → s.running 0 = true →
    s.cam.cur = some f → f.d0 = false →
    (completeRows (s.rn Reg.CAM_SIZE) rows = false → Completes (.camFrameEnd rows) s fun t =>
      t.cam = { s.cam with cur := none } ∧ t.rn Reg.CAM_BROKEN = satAdd32 (s.rn Reg.CAM_BROKEN) 1 ∧ t.rb Reg.CAM_EVT 1 = true
        ∧ SameRegsBut (fun k => k = Reg.CAM_BROKEN ∨ k = Reg.CAM_EVT) s t ∧ SameMemory s t ∧ ChangesOnly [.fresh, .epoch, .regs, .mem,
          .lost, .badLines, .evr, .ddr, .pages, .tiers, .cam, .pci] s t)
    ∧ (completeRows (s.rn Reg.CAM_SIZE) rows = true → Completes (.camFrameEnd rows) s fun t =>
      t.cam.cur = none ∧ t.rb Reg.CAM_EVT 0 = true ∧ t.rn Reg.CAM_BROKEN = s.rn Reg.CAM_BROKEN
        ∧ (∀ o, o < 2 →
            let n := s.rf (Reg.CAM_OUT_CFG o) 4 4
            let tail := s.rf (Reg.CAM_OUT_STAT o) 0 4
            s.rb (Reg.CAM_OUT_CFG o) 0 = true → 3 ≤ n → s.rn (Reg.CAM_OUT_PITCH o) ≠ 0 →
            if (tail + 1) % n = s.rf (Reg.CAM_OUT_HEAD o) 0 4 then
              t.rf (Reg.CAM_OUT_STAT o) 0 4 = tail ∧ t.rb Reg.CAM_EVT 3 = true
                ∧ t.rf (Reg.CAM_OUT_STAT o) 16 16 = min 65535 (s.rf (Reg.CAM_OUT_STAT o) 16 16 + 1)
            else s.ringTarget (s.r64 (Reg.CAM_OUT_BASE_LO o)) = .ddr → t.rf (Reg.CAM_OUT_STAT o) 0 4 = (tail + 1) % n)
        ∧ (s.rf Reg.CAM_STATS_SLOTS 0 5 ≠ 0 → (s.cam.statsTail + 1) % s.rf Reg.CAM_STATS_SLOTS 0 5 ≠ s.rf Reg.CAM_STATS_HEAD 0 4 →
            s.ringTarget (s.r64 Reg.CAM_STATS_BASE_LO + s.cam.statsTail * 8192) = .ddr →
            t.cam.statsTail = (s.cam.statsTail + 1) % s.rf Reg.CAM_STATS_SLOTS 0 5)
        ∧ (s.lookParams ≠ none → s.cam.lookTick = true → t.rn Reg.CAM_MV_SKIPS = satAdd32 (s.rn Reg.CAM_MV_SKIPS) 1)
        ∧ ChangesOnly [.fresh, .epoch, .regs, .mem, .lost, .badLines, .evr, .ddr, .pages, .tiers, .cam, .pci] s t))

/-- R320, R323: a mark of the always-on timer makes a presence frame due; a score at or above the threshold is a hit, enough hits in a
row are presence, and enough misses end it; the presence block shows the score and what it means. -/
def Obligations.Presence : Prop := ∀ s : State, s.running 0 = true → s.cam.presOn = true →
  (s.cam.noSignal = false → exec .presenceMark s = .next { s with cam.markDue := true })
  ∧ (∀ (score : Fin 256) (a : Nat), s.cam.scoreDue = true → s.presenceBlock = some a → Completes (.presenceScore score) s fun t =>
    let w := s.rdLE a 4
    let hit := decide (fld w 0 8 ≤ score.val)
    t.cam.scoreDue = false ∧ t.cam.presHits = (if hit then s.cam.presHits + 1 else 0)
      ∧ t.cam.presAbsent = (if hit then 0 else s.cam.presAbsent + 1)
      ∧ t.cam.present = (if hit then s.cam.present || decide (fld w 8 4 ≤ s.cam.presHits + 1)
          else s.cam.present && decide (s.cam.presAbsent + 1 < fld w 16 8))
      ∧ t.rdLE (a + 0x14) 4 = score.val + b2n t.cam.present * 2 ^ 8 + b2n s.cam.noSignal * 2 ^ 9
      ∧ (∀ x, x < a + 0x14 ∨ a + 0x18 ≤ x → t.rd8 x = s.rd8 x)
      ∧ (s.running 8 = true → s.cam.present = false → t.cam.present = true → t.rb Reg.CAM_EVT 4 = true) ∧ ChangesOnly [.regs, .mem,
        .lost, .badLines, .evr, .domains, .mode, .ddr, .cam, .pwr, .pins] s t)

/-- R326, R327, R330, R331: a set is enabled for an owner that is STOPPED, BLOCKED, READY or RUNNING where its descriptor passes the
checks, from its cursor on, else it stays disabled with an error; its next sample is copied from the cache, decoded or failed, and
the set then looks for the one after; its batch waits for room in the ring of the owner, and when it is written the set goes on or,
at the end of an epoch without CONTINUE, is done. -/
def Obligations.SampleSets : Prop := ∀ (s : State) (e : Fin 8),
  let failed (err : Nat) (t : State) : Prop := thas t.sets e.val = false ∧ t.rn (Reg.IPL_SET_STATUS e.val) = err * 2 ^ 8
    ∧ t.rb Reg.IPL_EVT 2 = true ∧ t.rb (Reg.IPL_SET_CTRL e.val) 0 = false
  let x := s.theSet e.val
  (∀ i v, s.reaches i (Reg.IPL_SET_CTRL e.val) → Completes (.setEnable i e v) s fun t =>
    let u := (s.storeReg (decide (i = .kernel)) (Reg.IPL_SET_CTRL e.val) v.toNat).setRf (Reg.IPL_SET_CTRL e.val) 2 1 0
    let owner := fld v.toNat 16 7
    let fit := (s.ctx owner).state = .stopped ∨ (s.ctx owner).state = .blocked ∨ (s.ctx owner).state = .ready
      ∨ (s.ctx owner).state = .running
    (bitOf v.toNat 0 = false → thas t.sets e.val = false ∧ (thas s.sets e.val = true → t.rn (Reg.IPL_SET_STATUS e.val) = 0))
      ∧ (bitOf v.toNat 0 = true → thas s.sets e.val = true → t.sets = s.sets)
      ∧ (bitOf v.toNat 0 = true → thas s.sets e.val = false → ¬ fit → failed 5 t)
      ∧ (bitOf v.toNat 0 = true → thas s.sets e.val = false → fit →
          match (u.readSet e.val owner).2 with
          | .error err => failed err t
          | .ok d => failed 4 t ∨ (thas t.sets e.val = true ∧ (t.theSet e.val).owner = owner ∧ (t.theSet e.val).samples = []
              ∧ d.cursor ≤ (t.theSet e.val).index ∧ (t.theSet e.val).ready = decide (d.n ≤ (t.theSet e.val).index)))
      ∧ ChangesOnly [.fresh, .epoch, .bus, .regs, .written, .mem, .lost, .badLines, .evr, .ddr, .pages, .tiers, .sets] s t)
  ∧ (∀ rows corrupt symbols, s.running 8 = true → thas s.sets e.val = true → x.ready = false →
    Completes (.sampleDecodeDone e rows corrupt symbols) s fun t =>
      (x.gone = true → failed 5 t)
      ∧ (x.gone = false → match s.readSet e.val x.owner with
          | (_, .error err) => failed err t
          | (u, .ok d) =>
            (∀ image, (u.cached d (perm x.index d.n d.seed d.epoch)).2 = some image →
              t.rn (Reg.IPL_SET_HITS e.val) = satAdd32 (s.rn (Reg.IPL_SET_HITS e.val)) 1
                ∧ (thas t.sets e.val = true → (t.theSet e.val).samples = x.samples ++ [(perm x.index d.n d.seed d.epoch, image)]))
            ∧ (thas t.sets e.val = false → failed 4 t)
            ∧ (thas t.sets e.val = true → (t.theSet e.val).owner = x.owner ∧ x.index + 1 ≤ (t.theSet e.val).index
                ∧ ((t.theSet e.val).samples = x.samples
                    ∨ ∃ image, (t.theSet e.val).samples = x.samples ++ [(perm x.index d.n d.seed d.epoch, image)])
                ∧ (t.theSet e.val).ready
                    = (decide (d.b ≤ (t.theSet e.val).samples.length) || decide (d.n ≤ (t.theSet e.val).index))))
      ∧ ChangesOnly [.fresh, .epoch, .regs, .mem, .lost, .badLines, .evr, .ddr, .pages, .tiers, .sets] s t)
  ∧ (s.running 8 = true → thas s.sets e.val = true → x.ready = true →
    Completes (.batchWrite e) s fun t =>
      (x.gone = true → failed 5 t)
      ∧ (x.gone = false → match s.readSet e.val x.owner with
          | (_, .error err) => failed err t
          | (u, .ok d) =>
            ((d.batch + 1) % d.outSlots = s.rf (Reg.IPL_SET_ACK e.val) 0 4 → t.sets = s.sets)
            ∧ ((d.batch + 1) % d.outSlots ≠ s.rf (Reg.IPL_SET_ACK e.val) 0 4 →
                ((u.badBits d).2 = none → failed 4 t)
                ∧ ((u.badBits d).2 ≠ none → t.rb Reg.IPL_EVT 0 = true
                    ∧ (d.n ≤ x.index → s.rb (Reg.IPL_SET_CTRL e.val) 1 = false → thas t.sets e.val = false
                        ∧ t.rb (Reg.IPL_SET_STATUS e.val) 1 = true ∧ t.rb Reg.IPL_EVT 1 = true)
                    ∧ (x.index < d.n ∨ s.rb (Reg.IPL_SET_CTRL e.val) 1 = true →
                        thas t.sets e.val = true → (t.theSet e.val).samples = [] ∧ (t.theSet e.val).owner = x.owner))))
      ∧ ChangesOnly [.fresh, .epoch, .regs, .mem, .lost, .badLines, .evr, .groves, .ctxs, .ddr, .pages, .tiers, .sets] s t)
  ∧ (∀ i v, s.reaches i (Reg.IPL_SET_ACK e.val) → Completes (.iplSetAck i e v) s fun t =>
      t.rf (Reg.IPL_SET_ACK e.val) 0 4 = fld v.toNat 0 4 ∧ SameRegsBut (fun k => k = Reg.IPL_SET_ACK e.val) s t ∧ ChangesOnly [.bus,
        .regs, .written, .evr] s t)

/-! ### Vilva -/

/-- R336, R337: the link's retry. A numbered flit in order is taken, whatever its type, and acknowledged by an IDLE; one out of order,
or with a bad CRC, changes no port and is answered with a NAK; an IDLE acknowledges; kept flits are sent again, and an eighth
replay without an acknowledgement asks for the reset of the port's domain. A flit of a reserved type is counted in VIL_DISCARDS. -/
def Obligations.LinkRetry : Prop := ∀ (s : State) (p : Fin 2) (f : Flit), s.portLive p.val = true →
  let numbered := [Instr.flitWrite p f, .flitReadReq p f, .flitReadData p f, .flitHello p f, .flitRing p f, .flitStatus p f,
    .flitTick p f, .reservedFlit p 8 f]
  let idle (ack : Nat) (nak : Bool) : Nat × Nat × Flit := (p.val, 0, { flitZero with ack := ack, nak := nak })
  (∀ c ∈ numbered, f.seq % 4096 = ((s.port p.val).rxSeq + 1) % 4096 → Completes c s fun t =>
    (t.port p.val).rxSeq = f.seq % 4096 ∧ t.vil.sent.head? = some (idle (f.seq % 4096) false))
  ∧ (∀ c ∈ numbered, f.seq % 4096 ≠ ((s.port p.val).rxSeq + 1) % 4096 → Completes c s fun t =>
    t.vil.ports = s.vil.ports ∧ t.vil.sent.head? = some (idle (s.port p.val).rxSeq true)
      ∧ SameRegsBut (fun k => k = Reg.VIL_TX_FLITS_LO p.val ∨ k = Reg.VIL_TX_FLITS_HI p.val) s t ∧ ChangesOnly [.regs, .vil] s t)
  ∧ (∀ good, Completes (.badFlit p good f) s fun t =>
    t.vil.ports = s.vil.ports ∧ t.vil.sent.head? = some (idle (s.port p.val).rxSeq true)
      ∧ t.rn (Reg.VIL_CRC_ERRORS p.val)
          = (if good then s.rn (Reg.VIL_CRC_ERRORS p.val) else satAdd32 (s.rn (Reg.VIL_CRC_ERRORS p.val)) 1) ∧ ChangesOnly [.regs,
            .vil] s t)
  ∧ (Completes (.flitIdle p f) s fun t => t.r64 (Reg.VIL_RX_FLITS_LO p.val) = (s.r64 (Reg.VIL_RX_FLITS_LO p.val) + 1) % 2 ^ 64
      ∧ (t.port p.val).unacked = afterAck f.ack (s.port p.val).unacked ∧ (t.port p.val).rxSeq = (s.port p.val).rxSeq ∧ ChangesOnly
        [.regs, .domains, .vil] s t)
  ∧ (∀ type, f.seq % 4096 = ((s.port p.val).rxSeq + 1) % 4096 → Completes (.reservedFlit p type f) s fun t =>
      t.rn (Reg.VIL_DISCARDS p.val) = satAdd32 (s.rn (Reg.VIL_DISCARDS p.val)) 1
        ∧ (t.port p.val).unacked = afterAck f.ack (s.port p.val).unacked ∧ ChangesOnly [.regs, .domains, .vil] s t)
  ∧ (Completes (.replayTimeout p) s fun t => (t.port p.val).unacked = (s.port p.val).unacked
      ∧ ((s.port p.val).unacked = [] → t = s)
      ∧ ((s.port p.val).unacked ≠ [] → (s.port p.val).replays < 8 → (t.port p.val).replays = (s.port p.val).replays + 1
          ∧ t.rn (Reg.VIL_REPLAYS p.val) = satAdd32 (s.rn (Reg.VIL_REPLAYS p.val)) (s.port p.val).unacked.length
          ∧ t.rb (Reg.VIL_EVT p.val) 6 = true)
      ∧ ((s.port p.val).unacked ≠ [] → 8 ≤ (s.port p.val).replays → t.rb (Reg.VIL_EVT p.val) 1 = true
          ∧ (t.dom (6 + p.val)).requests = (s.dom (6 + p.val)).requests ++ [{ requester := 3 }])
      ∧ ChangesOnly [.regs, .domains, .vil] s t)

/-- R342, R344 to R347: what numbered flits in order do once the link has taken them. A WRITE is stored where the plan gives its buffer
to its stream, else it is discarded and counted; a READ_REQ is answered with the buffer's bytes, with zeros while D1 is in reset;
READ_DATA completes the read it answers with its last flit, and is dropped where it answers none; a STATUS is kept and forwarded; a
TICK flit begins the tick of a device that is not the root. -/
def Obligations.ExchangeFlits : Prop := ∀ (s : State) (p : Fin 2) (f : Flit), s.portLive p.val = true →
  f.seq % 4096 = ((s.port p.val).rxSeq + 1) % 4096 → s.badLines = [] →
  let u := (s.modPort p.val (fun x => { x with rxSeq := f.seq % 4096 })).goodFlit p.val f
  let discards (t : State) : Prop := t.rn (Reg.VIL_DISCARDS p.val) = satAdd32 (s.rn (Reg.VIL_DISCARDS p.val)) 1 ∧ SameMemory s t
  let bs := f.payload.take f.plen
  (Completes (.flitWrite p f) s fun t => (s.running 1 = false → discards t)
      ∧ (s.running 1 = true → match s.exchangeAt p.val f bs.length with
          | some a => (∀ i, i < bs.length → t.rd8 (a + i) = nth 0 bs i)
              ∧ (∀ x, x < a ∨ a + bs.length ≤ x → t.rd8 x = s.rd8 x)
          | none => discards t) ∧ ChangesOnly [.regs, .mem, .lost, .badLines, .evr, .domains, .ddr, .vil] s t)
  ∧ (let answered (t : State) (data : List Byte) : Prop := ∃ r, (t.vil.sent.drop 1).head? = some (p.val, 3, r) ∧ r.payload = data
        ∧ r.plen = data.length ∧ r.xid = f.xid ∧ r.gen = f.gen ∧ r.stream = f.stream ∧ r.last = f.last ∧ r.buf = f.buf
        ∧ r.offset = f.offset ∧ r.seq = (s.port p.val).txSeq
     Completes (.flitReadReq p f) s fun t => (s.running 1 = false → answered t (List.replicate f.plen 0))
      ∧ (s.running 1 = true → match s.exchangeAt p.val f f.plen with
          | some a => answered t (s.rdBytes a f.plen)
          | none => discards t) ∧ SameMemory s t ∧ ChangesOnly [.fresh, .epoch, .regs, .mem, .lost, .badLines, .evr, .domains, .ddr,
            .vil] s t)
  ∧ (Completes (.flitReadData p f) s fun t => (s.readFor p.val f = none →
        t.rn (Reg.VIL_DROPPED p.val) = satAdd32 (u.rn (Reg.VIL_DROPPED p.val)) 1 ∧ SameMemory s t ∧ t.dma = s.dma)
      ∧ (∀ n, s.readFor p.val f = some n → s.stale (s.xfer n) = false → f.last = true → (t.xfer n).ended = true) ∧ ChangesOnly [.regs,
        .mem, .lost, .badLines, .domains, .groves, .ctxs, .ddr, .dma, .vil] s t)
  ∧ (Completes (.flitStatus p f) s fun t => (p.val ≠ 0 ∨ s.vil.ring ≠ .closed → discards t)
      ∧ (p.val = 0 → s.vil.ring = .closed →
          let origin := fld (u32 f.payload 0) 0 2
          let key := u32 f.payload 4 % 1024
          tget false t.pic.peers (origin * 1024 + key) = bitOf (u32 f.payload 0) 8
            ∧ (bitOf (u32 f.payload 0) 9 = true → origin = 0 → key ∈ t.pic.rootSent)
            ∧ (s.forwards origin = true → ∃ r, (t.vil.sent.drop 1).head? = some (1, 6, r) ∧ r.payload = f.payload))
      ∧ ChangesOnly [.regs, .domains, .pic, .vil] s t)
  ∧ (Completes (.flitTick p f) s fun t => (p.val ≠ 0 ∨ s.vil.ring ≠ .closed ∨ s.chipId = 0 → discards t)
      ∧ (p.val = 0 → s.vil.ring = .closed → s.chipId ≠ 0 → s.running 1 = true → s.tick.stopped = false →
          t.r64 Reg.TICK_COUNT_LO = (s.r64 Reg.TICK_COUNT_LO + 1) % 2 ^ 64 ∧ t.vil.following = true ∧ t.tick.startNs = s.tick.endNs)
      ∧ ChangesOnly [.regs, .mem, .lost, .badLines, .evr, .domains, .groves, .ctxs, .mode, .tick, .ddr, .pic, .mic, .cam, .vil, .pwr,
        .lkt, .pci, .pins] s t)
  ∧ (s.followsRoot = true → s.running 1 = true → s.tick.stopped = false → Completes .tickFlitTimeout s fun t =>
      t.followsRoot = false ∧ t.r64 Reg.TICK_COUNT_LO = (s.r64 Reg.TICK_COUNT_LO + 1) % 2 ^ 64 ∧ ChangesOnly [.regs, .mem, .lost,
        .badLines, .evr, .groves, .ctxs, .mode, .tick, .ddr, .pic, .mic, .cam, .vil, .pwr, .lkt, .pci, .pins] s t)

/-- R338 to R340: the ring is formed. An attempt to train a port ends, and a trained port sends its HELLO; a HELLO holds its port or
brings it up; the token passes with this device's entry added, CLOSE closes the ring and sets RING_FINAL; the end of RING_WAIT_MS
before it, or the loss of a peer, leaves the device on its own. R348: the loss of a peer in a closed ring breaks it. -/
def Obligations.RingFormation : Prop := ∀ (s : State) (p : Fin 2),
  (∀ ok, s.ringForming = true → s.running (6 + p.val) = true →
    let trained (t : State) : Prop := (t.port p.val).trained = ok ∧ (t.port p.val).attempts = (s.port p.val).attempts + 1
      ∧ (ok = true → ∃ r, t.vil.sent.head? = some (p.val, 4, r) ∧ r.payload = s.helloPayload) ∧ ChangesOnly [.regs, .vil] s t
    ((s.port p.val).attempts = 0 → p.val = 0 ∨ 1 ≤ (s.port 0).attempts → Completes (.portTraining p ok) s trained)
      ∧ (1 ≤ (s.port p.val).attempts → (s.port p.val).trained = false → Completes (.portTrainRetry p ok) s trained))
  ∧ (s.ringForming = true → Completes .ringWaitExpiry s fun t => t.vil.ring = .solo ∧ t.vil.waiting = false ∧ t.inReset 6 = true
      ∧ t.inReset 7 = true ∧ t.capWord 0x90 = 1 ∧ bitOf (t.capWord 0x10) 2 = true ∧ ChangesOnly [.regs, .staged, .captured, .written,
        .mem, .lost, .badLines, .cap, .evr, .domains, .groves, .ctxs, .plan, .mode, .tick, .ddr, .pages, .tiers, .dma, .seqt, .pic,
        .cam, .sets, .vil, .pwr, .lkt, .sec, .flash, .emmc, .boot, .pci, .mgt, .pins] s t)
  ∧ (∀ f, s.portLive p.val = true → f.seq % 4096 = ((s.port p.val).rxSeq + 1) % 4096 → s.ringForming = true →
      (Completes (.flitHello p f) s fun t => (s.port p.val).up = false → (s.port p.val).held = false →
        t.rn (Reg.VIL_PEER p.val) = u32 f.payload 0 % 4 + 2 ^ 8
          ∧ (if s.helloBad p.val (u32 f.payload 0) (u32 f.payload 4) (slice f.payload 12 48) then
              (t.port p.val).held = true ∧ (t.port p.val).up = false ∧ t.rb (Reg.VIL_EVT p.val) 2 = true
             else (t.port p.val).up = true ∧ (t.port p.val).held = false ∧ t.rb (Reg.VIL_EVT p.val) 0 = true)
          ∧ ChangesOnly [.regs, .mem, .lost, .badLines, .evr, .domains, .groves, .ctxs, .tiers, .dma, .vil] s t)
      ∧ (p.val = 0 → Completes (.flitRing p f) s fun t =>
          let sends (close : Bool) (es : List (List Byte)) : Prop :=
            ∃ r, (t.vil.sent.drop 1).head? = some (1, 5, r) ∧ r.payload = ringPayload close es
          (if ringClose f then
              t.vil.ring = .closed ∧ t.rb (Reg.VIL_EVT 0) 4 = true ∧ t.capWord 0x90 = (ringEntries f).length
                ∧ bitOf (t.capWord 0x10) 2 = true ∧ (s.chipId ≠ 0 → sends true (ringEntries f))
           else t.vil.ring = .forming
                ∧ (s.chipId = 0 → s.tokenFull (ringEntries f) = true → sends true (ringEntries f))
                ∧ (s.chipId ≠ 0 → (s.port 1).up = true → t.vil.token = none ∧ sends false (ringEntries f ++ [s.ownEntry s.ringPlan]))
                ∧ (s.chipId ≠ 0 → (s.port 1).up = false → t.vil.token = some f))
          ∧ SameMemory s t ∧ ChangesOnly [.fresh, .regs, .cap, .domains, .vil] s t))
  ∧ (s.peerDue p.val = true → Completes (.peerTimeout p) s fun t =>
      t.rn (Reg.LKT_COUNT 5) = satAdd32 (s.rn (Reg.LKT_COUNT 5)) 1
        ∧ (s.vil.ring = .closed → t.vil.ring = .broken ∧ t.rb (Reg.VIL_EVT p.val) 3 = true
            ∧ (t.dom (6 + p.val)).requests = (s.dom (6 + p.val)).requests ++ [{ requester := 2, lktCode := 5 }])
        ∧ (s.vil.ring = .forming → t.vil.ring = .solo ∧ t.inReset 6 = true ∧ t.inReset 7 = true) ∧ ChangesOnly [.regs, .staged,
          .captured, .written, .mem, .lost, .badLines, .cap, .evr, .domains, .groves, .ctxs, .plan, .mode, .tick, .ddr, .pages,
          .tiers, .dma, .seqt, .pic, .cam, .sets, .vil, .pwr, .lkt, .sec, .flash, .emmc, .boot, .pci, .mgt, .pins] s t)

/-! ### Power -/

/-- R353, R354, R355: a request that Table 17.4 and the plan's policy allow aims at its state, pending while a vote exceeds its level,
and from S1 to S0 it is carried out at once; any other is bad and changes no state; one that meets an entry that has begun follows
it. A vote is held, and the entry that waits for it begins when no vote exceeds its level. Wakes of WAKE_IN and of the timer lead
S2 towards S0 or the timer's state and take S1 back to S0. -/
def Obligations.StateRequests : Prop := ∀ s : State,
  let st := s.devState
  (∀ i v, s.reaches i Reg.PWR_STATE_REQ → Completes (.pwrStateReq i v) s fun t =>
    let n := v.toNat % 4
    let may (a : Nat) : Prop := s.thePlan.stateAllowed n = true ∧ requestLegal a n = true
    let free : Prop := s.pwr.target = none ∨ s.pwr.begun = false
    (n = st → free → t.pwr.target = none ∧ t.devState = st ∧ t.rb Reg.PWR_STATUS 2 = (s.pwr.target.isNone && s.rb Reg.PWR_STATUS 2))
    ∧ (n ≠ st → n ≠ 0 → free → st < 2 → may st → t.pwr.target = some n ∧ t.devState = st ∧ t.rb Reg.PWR_STATUS 2 = true
        ∧ t.rf Reg.PWR_STATUS 4 2 = n ∧ t.rn Reg.PWR_BLOCKERS = s.blockers n ∧ t.rb Reg.PWR_STATUS 3 = decide (s.blockers n ≠ 0)
        ∧ t.pwr.begun = (s.blockers n == 0 && !s.lkt.test))
    ∧ (n = 0 → st = 1 → free → may st → t.devState = 0 ∧ t.pwr.target = none ∧ t.rb Reg.PWR_EVT 2 = true)
    ∧ (n ≠ st → free → ¬ (st < 2 ∧ may st) → t.pwr = s.pwr ∧ t.mode = s.mode ∧ t.rb Reg.PWR_EVT 1 = true)
    ∧ (∀ u, s.pwr.target = some u → st < u → s.pwr.begun = true → t.pwr.target = some u ∧ t.devState = st
        ∧ (n = u → t.pwr.next = none) ∧ (n ≠ u → may u → t.pwr.next = some n)
        ∧ (n ≠ u → ¬ may u → t.pwr = s.pwr ∧ t.rb Reg.PWR_EVT 1 = true))
    ∧ ChangesOnly [.bus, .regs, .written, .evr, .domains, .mode, .pwr] s t)
  ∧ (∀ i (c : Fin 5) v, s.reaches i (Reg.PWR_VOTE c.val) → (c.val = 0 → i = .kernel) → Completes (.pwrVote i c v) s fun t =>
    (c.val < 4 → t.rn (Reg.PWR_VOTE c.val) = setFld 0 2 16 (v.toNat / 4)
        ∧ (∀ u, s.pwr.target = some u → st < u → s.pwr.begun = false →
            t.rn Reg.PWR_BLOCKERS = t.blockers u ∧ t.rb Reg.PWR_STATUS 3 = decide (t.blockers u ≠ 0)
              ∧ t.pwr.begun = (t.blockers u == 0 && !s.lkt.test)))
    ∧ (c.val = 4 → t.regs = s.regs ∧ t.pwr = s.pwr) ∧ t.pwr.target = s.pwr.target ∧ t.devState = st
    ∧ SameRegsBut (fun k => k = Reg.PWR_VOTE c.val ∨ k = Reg.PWR_STATUS ∨ k = Reg.PWR_BLOCKERS) s t ∧ ChangesOnly [.bus, .regs, .evr,
      .pwr] s t)
  ∧ (∀ us, us < 50 → exec (.wakeInRise us) s = .next s)
  ∧ (∀ us, 50 ≤ us → s.running 0 = true → s.pwr.target = none → s.thePlan.stateAllowed 0 = true → Completes (.wakeInRise us) s fun t =>
    (st = 0 → s.pwr.begun = false → t = s) ∧ (st ≠ 0 → t.rn Reg.PWR_WAKE_SRC = 3)
    ∧ (st = 1 → t.devState = 0 ∧ (t.dom 8).power = .on ∧ t.rb Reg.PWR_EVT 2 = true)
    ∧ (2 ≤ st → t.pwr.target = some 0 ∧ t.devState = st ∧ t.pins.enRet = true ∧ t.pins.enRun = true) ∧ ChangesOnly [.regs, .domains,
      .mode, .pwr, .pins] s t)
  ∧ (s.running 0 = true → s.pwr.timerRun = true → Completes .wakeTimerExpiry s fun t => t.pwr.timerRun = false
    ∧ (let u := if s.rf Reg.PWR_TIMER 24 2 = 1 then 1 else 0
       st = 2 → s.pwr.target = none → s.thePlan.stateAllowed u = true →
        t.pwr.target = some u ∧ t.rn Reg.PWR_WAKE_SRC = 4 ∧ t.pins.enRet = true ∧ t.pins.enRun = true) ∧ ChangesOnly [.regs, .domains,
          .mode, .pwr, .pins] s t)

/-- R351, R352, R356 to R358: a transition that has begun and meets its conditions leaves the device in its state with the domains at
the levels of Table 17.2. S1: D8 and the ports OFF, and MODE_S1 current or requested. S2: D3 OFF too, D1, D2, D4 and D5 in RET with
their tags, and the tick stopped. S3: every domain but D0 OFF. From S2: those domains ON, the tick running and the target's mode
current. From S3: D1 released. -/
def Obligations.StateTransitions : Prop := ∀ s : State, s.running 0 = true →
  let done (t : State) (n : Nat) : Prop := t.devState = n ∧ t.pwr.target = none ∧ t.rb Reg.PWR_EVT 0 = true
  let off (t : State) (d : Nat) : Prop := (t.dom d).power = .off ∧ t.inReset d = true
  (s.entering 1 = true → s.devState = 0 → s.pwr.next = none → Completes .s1Entry s fun t => t.mode.cur = s.mode.cur
    ∧ (let m := t.soloed s.thePlan.modeS1
       if s.mode.cur = m then done t 1
       else t.devState = 0 ∧ ((s.dom 8).power ≠ .off ∨ s.mode.step < 2 → t.mode.requested = some m))
    ∧ ((s.dom 8).power ≠ .off → off t 6 ∧ off t 7 ∧ off t 8 ∧ t.pwr.resumeMode = s.mode.cur) ∧ ChangesOnly [.regs, .staged, .captured,
      .written, .mem, .lost, .badLines, .cap, .evr, .domains, .groves, .ctxs, .plan, .mode, .tick, .ddr, .pages, .tiers, .dma, .seqt,
      .pic, .cam, .sets, .vil, .pwr, .lkt, .sec, .flash, .emmc, .boot, .pci, .mgt, .pins] s t)
  ∧ (s.entering 2 = true → s.mayStop = true → s.pwr.next = none → Completes .s2Entry s fun t => done t 2
    ∧ off t 3 ∧ off t 6 ∧ off t 7 ∧ off t 8
    ∧ (∀ d ∈ [1, 2, 4, 5], (t.dom d).power = .ret ∧ (t.dom d).tag = (s.dom d).tag ∧ t.inReset d = s.inReset d)
    ∧ t.tick.stopped = true ∧ t.r64 Reg.TICK_COUNT_LO = (s.r64 Reg.TICK_COUNT_LO + 1) % 2 ^ 64 ∧ t.pwr.voltage = 5
    ∧ t.pins.enRun = false ∧ t.thePlan = s.thePlan ∧ ChangesOnly [.fresh, .epoch, .regs, .staged, .captured, .written, .mem, .lost,
      .badLines, .cap, .evr, .domains, .groves, .ctxs, .plan, .mode, .tick, .ddr, .pages, .tiers, .dma, .seqt, .pic, .cam, .sets,
      .vil, .pwr, .lkt, .sec, .flash, .emmc, .boot, .pci, .mgt, .pins] s t)
  ∧ (∀ n, s.mayExit = true → s.pwr.target = some n → Completes .s2Exit s fun t => done t n ∧ t.rb Reg.PWR_EVT 2 = true
    ∧ (∀ d ∈ [1, 2, 3, 4, 5], (t.dom d).power = .on) ∧ (s.heldInReset 3 = false → t.inReset 3 = false) ∧ t.tick.stopped = false
    ∧ t.r64 Reg.TICK_COUNT_LO = (s.r64 Reg.TICK_COUNT_LO + 1) % 2 ^ 64
    ∧ t.mode.cur = (if n = 1 then s.soloed s.thePlan.modeS1 else s.resumeTarget) ∧ t.thePlan = s.thePlan ∧ ChangesOnly [.epoch, .regs,
      .staged, .captured, .written, .mem, .lost, .badLines, .cap, .evr, .domains, .groves, .ctxs, .mode, .tick, .ddr, .pages, .seqt,
      .pic, .mic, .sets, .pwr, .sec, .flash, .emmc, .boot, .pci] s t)
  ∧ (s.entering 3 = true → s.devState = 2 ∨ s.mayStop = true → s.pwr.next = none → Completes .s3Entry s fun t => done t 3
    ∧ (∀ d, 1 ≤ d → d ≤ 8 → off t d) ∧ t.pwr.voltage = 4 ∧ t.pins.enRet = false ∧ t.pins.enRun = false ∧ t.stage = 0 ∧ ChangesOnly
      [.epoch, .regs, .staged, .captured, .written, .mem, .lost, .badLines, .cap, .evr, .domains, .groves, .ctxs, .plan, .mode, .tick,
      .ddr, .pages, .tiers, .dma, .seqt, .pic, .mic, .cam, .sets, .vil, .pwr, .lkt, .sec, .flash, .emmc, .boot, .pci, .mgt, .pins] s t)
  ∧ (s.devState = 3 → s.pwr.target = some 0 → s.pwr.tripHold = false → s.pwr.exitFailed = false → s.pins.pgRet = true →
    s.pins.pgRun = true → Completes .s3Exit s fun t => done t 0 ∧ t.rb Reg.PWR_EVT 2 = true
    ∧ (∀ d ∈ [1, 2, 3, 4, 5], (t.dom d).power = .on) ∧ (t.dom 8).power = .on ∧ (s.heldInReset 1 = false → t.inReset 1 = false)
    ∧ t.rb Reg.MIC_STATUS 0 = true ∧ t.rb Reg.MIC_EVT 3 = true ∧ ChangesOnly [.regs, .mem, .lost, .badLines, .cap, .evr, .domains,
      .groves, .ctxs, .ddr, .pages, .seqt, .sets, .pwr, .sec, .flash, .emmc, .boot] s t)

/-- R361, R362, R449, R450: the regulator's reports and the supplies. Power-good brings the voltage of the transaction in progress; the
first time-out writes it once more, the second is a failure, which ends a raise, keeps a lowering to be retried and fails an exit;
an alert with no transaction writes the voltage in force again. The enables rise at power-up, D0 is released with both groups good,
a late input lowers its enable, and a supply lost for more than 10 µs asserts the power-on reset. -/
def Obligations.Supplies : Prop := ∀ s : State,
  (∀ u op n, s.running 0 = true → s.pwr.pmbus = some (u, op, n) → n ≠ 2 → Completes .pmbusPowerGood s fun t =>
    t.pwr.voltage = op ∧ t.regs = s.regs ∧ ChangesOnly [.pwr] s t)
  ∧ (∀ u op, s.running 0 = true → s.pwr.pmbus = some (u, op, 0) →
      exec .pmbusTimeout s = .next { s with pwr := { s.pwr with pmbus := some (u, op, 1) } })
  ∧ (∀ u op, s.running 0 = true → s.pwr.pmbus = some (u, op, 1) → Completes .pmbusTimeout s fun t => t.rb Reg.PWR_EVT 3 = true
      ∧ t.pwr.voltage = s.pwr.voltage ∧ t.mode.cur = s.mode.cur ∧ (u = .raise → t.mode.step < 2)
      ∧ (u = .lower → t.pwr.pmbus = some (.lower, op, 2)) ∧ (u = .exit → t.pwr.pmbus = none ∧ t.pwr.exitFailed = true)
      ∧ ChangesOnly [.regs, .mem, .lost, .badLines, .evr, .ctxs, .mode, .ddr, .pwr] s t)
  ∧ (∀ op, s.pwr.pmbus = some (.lower, op, 2) →
      exec .pmbusRetry s = .next { s with pwr := { s.pwr with pmbus := some (.lower, op, 0) } })
  ∧ (s.pwr.pmbus = none → s.pwr.exitFailed = true → Completes .pmbusRetry s fun t => t.pwr.exitFailed = false ∧ t.pins.enRet = true
      ∧ t.pins.enRun = true ∧ t.regs = s.regs ∧ ChangesOnly [.pwr, .pins] s t)
  ∧ (∀ u op, s.running 0 = true → s.pwr.pmbus = some (u, op, 0) →
      exec .pmbAlert s = .next { s with pwr := { s.pwr with pmbus := some (u, op, 1) } })
  ∧ (s.running 0 = true → s.pwr.pmbus = none → s.pwr.voltage < 5 → s.devState < 3 →
      exec .pmbAlert s = .next { s with pwr := { s.pwr with pmbus := some (.lower, s.pwr.voltage, 1) } })
  ∧ (s.pins.porAsserted = true → Completes .powerUp s fun t => t.pins.enRet = true ∧ t.pins.enRun = true
      ∧ t.pins.porAsserted = !(s.pins.pgRet && s.pins.pgRun)
      ∧ (s.pins.pgRet = true → s.pins.pgRun = true → t.inReset 0 = false) ∧ t.regs = s.regs ∧ ChangesOnly [.domains, .pins] s t)
  ∧ (∀ ret, (if ret then s.pins.enRet else s.pins.enRun) = true → Completes (.powerGoodRise ret) s fun t =>
      (if ret then t.pins.pgRet = true else t.pins.pgRun = true)
      ∧ (s.pins.porAsserted = true → (if ret then s.pins.pgRun else s.pins.pgRet) = true →
          t.pins.porAsserted = false ∧ t.inReset 0 = false)
      ∧ (s.pins.porAsserted = false → t.domains = s.domains) ∧ t.regs = s.regs ∧ ChangesOnly [.domains, .pins] s t)
  ∧ (∀ ret us, us ≤ 10 → exec (.pgFail ret us) s = .next s)
  ∧ (∀ ret us, 10 < us → (if ret then s.pins.enRet && s.pins.pgRet else s.pins.enRun && s.pins.pgRun) = true →
      s.boot.staging = none → Completes (.pgFail ret us) s fun t => t.pins.porAsserted = true ∧ (∀ d, t.inReset d = true)
        ∧ (∀ k, t.reg k = regReset k) ∧ (if ret then t.pins.pgRet = false else t.pins.pgRun = false)
        ∧ t.flash = s.flash ∧ t.emmc = s.emmc)
  ∧ (∀ ret, (if ret then s.pins.enRet && !s.pins.pgRet else s.pins.enRun && !s.pins.pgRun) = true →
      Completes (.pgTimeout ret) s fun t => (if ret then t.pins.enRet = false else t.pins.enRun = false)
        ∧ (s.pins.porAsserted = false → t.pwr.exitFailed = true) ∧ (s.pins.porAsserted = true → t.pwr = s.pwr)
        ∧ t.devState = s.devState ∧ ChangesOnly [.regs, .evr, .pwr, .pins] s t)

/-- R363, R364, Table 17.9: a sample shows the highest reading and its sensor, enters or leaves CRITICAL with the hysteresis, and at
120 °C trips the device into S3 at once. T_HOT held for the dwell time enters HOT and requests the cooler mode with a thermal hold,
and the end of the hold takes the pending target. -/
def Obligations.Thermal : Prop := ∀ s : State, s.running 0 = true →
  (∀ ts x k, hottest (ts.take 6) = some (x, k) → Completes (.thermalSample ts) s fun t =>
    t.rf Reg.PWR_TEMP 0 12 = ofSigned 12 x ∧ (k < 8 → t.rf Reg.PWR_TEMP 16 3 = k)
    ∧ t.pwr.critical = (if s.pwr.critical then decide (s.thePlan.tCrit - s.thePlan.hyst ≤ x) else decide (s.thePlan.tCrit ≤ x))
    ∧ (t.pwr.critical ≠ s.pwr.critical → t.rf Reg.PWR_STATUS 8 2 = t.therm)
    ∧ (s.pwr.critical = false → t.pwr.critical = true → t.rb Reg.PWR_EVT 5 = true)
    ∧ (x < 480 → t.pwr.tripHold = (s.pwr.tripHold && decide (400 ≤ x)) ∧ t.domains = s.domains ∧ t.devState = s.devState)
    ∧ (480 ≤ x → t.pwr.tripHold = true ∧ t.devState = 3
        ∧ (s.devState ≠ 3 → t.rb Reg.PWR_STATUS 10 = true ∧ t.rb Reg.PWR_EVT 6 = true
            ∧ (∀ d, 1 ≤ d → d ≤ 8 → (t.dom d).power = .off ∧ t.inReset d = true)))
    ∧ ChangesOnly [.epoch, .regs, .staged, .captured, .written, .mem, .lost, .badLines, .cap, .evr, .domains, .groves, .ctxs, .plan,
      .mode, .tick, .ddr, .pages, .tiers, .dma, .seqt, .pic, .mic, .cam, .sets, .vil, .pwr, .lkt, .sec, .flash, .emmc, .boot, .pci,
      .mgt, .pins] s t)
  ∧ (s.lastTemp < s.thePlan.tHot → exec .thermalDwellExpiry s = .next s)
  ∧ (s.thePlan.tHot ≤ s.lastTemp → Completes .thermalDwellExpiry s fun t => t.pwr.hot = true
      ∧ (s.pwr.hot = false → t.rb Reg.PWR_EVT 4 = true)
      ∧ (let c := s.coolerMode
         if s.awayFromS0 = true ∨ c.2 = c.1 then t.mode = s.mode
         else t.mode = { s.mode with thermalHold := true, held := (if s.mode.thermalHold then s.mode.held else some s.mode.cur),
                                     requested := (if s.mode.step < 2 ∧ c.2 = s.mode.cur then none else some c.2) })
      ∧ t.devState = s.devState ∧ ChangesOnly [.regs, .evr, .mode, .pwr] s t)
  ∧ (s.pwr.hot = true → s.lastTemp < s.thePlan.tHot - s.thePlan.hyst → Completes .thermalHoldExpiry s fun t => t.pwr.hot = false
      ∧ t.mode.thermalHold = false
      ∧ (∀ m, s.mode.thermalHold = true → s.mode.held = some m → s.awayFromS0 = false →
          t.mode = { s.mode with thermalHold := false, held := none,
                                 requested := (if s.mode.step < 2 ∧ m = s.mode.cur then none else some m) })
      ∧ t.devState = s.devState ∧ ChangesOnly [.regs, .evr, .mode, .pwr] s t)

/-! ### The Lookout and the tests in service -/

/-- R368 to R370, R379: an overdue command is stopped as fault 0x08 and its context is FAULTED; a Grove that reports no idle runs
nothing and a reset of its domain is requested, whatever the policy; a transfer or a swap that is too late is ended, and its
context is FAULTED. Each is counted under its code, and under the PARTITION policy a context's fault asks for a reset of D3. R368,
R372, R373: each watchdog that runs out, and a stream over its limit of misses, is counted under its code and asks for the reset of
its domain; no other domain is asked. The kernel's kick changes no state, the service's kick arms its watchdog, and the kernel's
write of LKT_TILE_NS below the least value is ignored. -/
def Obligations.Lookout : Prop :=
  (∀ s : State, s.running 1 = true →
    let coded (k : Nat) (t : State) : Prop := t.rn (Reg.LKT_COUNT k) = satAdd32 (s.rn (Reg.LKT_COUNT k)) 1 ∧ t.rb Reg.LKT_EVT (k - 1)
      = true
    let asks (code : Nat) (t : State) : Prop := (t.dom 3).requests = (s.dom 3).requests
      ++ (if s.rb Reg.LKT_CFG 0 = true then [{ requester := 2, lktCode := code }] else [])
    (∀ (g : Fin 16) (e : Exec), (s.grove g.val).run = some e → s.blockLive (0x10 + g.val) = true →
      (Completes (.tileTimerExpiry g) s fun t => (t.grove g.val).run = none ∧ fld (t.rn (Reg.GRV_FAULT g.val)) 0 8 = 8 ∧ coded 2 t
        ∧ (∀ c, e.owner = .ctx c → (t.ctx c).state = .faulted ∧ (t.ctx c).cause = 0xA ∧ asks 2 t)
        ∧ (∀ i, e.owner = .stream i → i ∈ (t.grove g.val).discarded ∧ t.domains = s.domains) ∧ ChangesOnly [.fresh, .regs, .mem,
          .lost, .badLines, .evr, .domains, .groves, .ctxs, .ddr, .pages, .tiers, .dma, .seqt, .sets] s t)
      ∧ (Completes (.lktGroveStuck g) s fun t => (t.grove g.val).run = none ∧ (t.grove g.val).overdue = true ∧ coded 3 t
        ∧ (t.dom e.owner.domain).requests = (s.dom e.owner.domain).requests ++ [{ requester := 2, lktCode := 3 }]
        ∧ (∀ d, d ≠ e.owner.domain → t.dom d = s.dom d) ∧ t.ctxs = s.ctxs ∧ ChangesOnly [.fresh, .regs, .mem, .lost, .badLines, .evr,
          .domains, .groves, .ddr] s t))
    ∧ (∀ n written, thas s.dma.xfers n = true → Completes (.lktDmaTimeout false n written) s fun t => thas t.dma.xfers n = false ∧
      coded 4 t
        ∧ (∀ c, (s.xfer n).owner = .ctx c → (t.ctx c).state = .faulted ∧ (t.ctx c).cause = 0xA ∧ asks 4 t)
        ∧ (∀ i, (s.xfer n).owner = .stream i → i ∈ (t.grove (s.xfer n).grove).discarded ∧ t.domains = s.domains) ∧ ChangesOnly [.regs,
          .mem, .lost, .badLines, .evr, .domains, .groves, .ctxs, .pages, .tiers, .dma, .seqt, .sets, .sec] s t)
    ∧ (∀ g written w c, (s.grove g).swap = some w → w.incoming = some c → c ∉ w.victims → (s.ctx c).stopReq = false →
        Completes (.lktDmaTimeout true g written) s fun t => (t.grove g).swap = none ∧ coded 4 t
          ∧ (t.ctx c).state = .faulted ∧ (t.ctx c).cause = 0xA ∧ asks 4 t
          ∧ (∀ v ∈ w.victims, (t.ctx v).resident = false ∧ (v ∉ written → (s.ctx v).stopReq = false → (t.ctx v).state = .faulted))
          ∧ ChangesOnly [.regs, .mem, .lost, .badLines, .evr, .domains, .groves, .ctxs, .pages, .tiers, .dma, .seqt, .sets, .sec] s t))
  ∧ (∀ s : State, s.running 1 = true →
    let bites (k d : Nat) (q : ResetRequest) (t : State) : Prop :=
      t.rn (Reg.LKT_COUNT k) = satAdd32 (s.rn (Reg.LKT_COUNT k)) 1 ∧ t.rb Reg.LKT_EVT (k - 1) = true ∧ t.rf Reg.LKT_LAST 0 8 = k
        ∧ t.rf Reg.LKT_LAST 8 4 = d ∧ (t.dom d).requests = (s.dom d).requests ++ [q] ∧ (∀ e, e ≠ d → t.dom e = s.dom e)
        ∧ SameRegsBut (fun j => j / 0x10000 = 4 ∨ j / 0x10000 = 3) s t
    (Completes .lktKernelWd s fun t => bites 6 1 { requester := 4, lktCode := 6 } t ∧ ChangesOnly [.regs, .evr, .domains] s t)
    ∧ (s.running 5 = true → s.lkt.serviceArmed = true → s.rn Reg.LKT_SWD_MS ≠ 0 →
        Completes .lktServiceWd s fun t => bites 7 5 { requester := 2, lktCode := 7 } t ∧ ChangesOnly [.regs, .evr, .domains] s t)
    ∧ (s.running 8 = true → s.rb Reg.VOUT_STATUS 0 = true →
        Completes .lktVideoStall s fun t => bites 8 8 { requester := 2, lktCode := 8 } t ∧ ChangesOnly [.regs, .evr, .domains] s t)
    ∧ (∀ i : Fin 32, 2 ≤ s.rn Reg.LKT_MISS_LIMIT → s.rn Reg.LKT_MISS_LIMIT ≤ 1000 → s.rn Reg.LKT_MISS_LIMIT ≤ tget 0 s.tick.missRun
      i.val →
        Completes (.lktMissLimit i) s fun t => bites 9 2 { requester := 2, lktCode := 9 } t ∧ tget 0 t.tick.missRun i.val = 0
          ∧ ChangesOnly [.regs, .evr, .domains, .tick] s t)
    ∧ (∀ v, s.reaches .kernel Reg.LKT_KICK_K → exec (.lktKickK .kernel v) s = .next { s with bus := .done })
    ∧ (∀ i v, s.reaches i Reg.LKT_KICK_S →
        exec (.lktKickS i v) s = .next { s with bus := .done, lkt := { s.lkt with serviceArmed := true } })
    ∧ (∀ v : Word, s.reaches .kernel Reg.LKT_TILE_NS → Completes (.lktTileNs .kernel v) s fun t =>
        t.rn Reg.LKT_TILE_NS = (if s.thePlan.tileNsMin ≤ v.toNat ∧ 6000 ≤ v.toNat ∧ v.toNat ≤ 100000 then v.toNat else s.rn
          Reg.LKT_TILE_NS)
          ∧ SameRegsBut (fun k => k = Reg.LKT_TILE_NS ∨ k / 0x10000 = 3) s t ∧ ChangesOnly [.bus, .regs, .written, .evr] s t))

/-- R381, R384 to R386: the standing images are written again for the restart; a test tile counts towards its pass, whose end compares
the signature or measures the margin; a whole-fabric test is refused with its STATE or begun, and ends passed, failed or abandoned. -/
def Obligations.ServiceTests : Prop := ∀ s : State, s.running 1 = true →
  (s.running 2 = true → s.mode.restart = true → s.mode.restartReady = false → Completes .standingImageRewrite s fun t =>
    t.mode = { s.mode with restartReady := true } ∧ t.regs = s.regs ∧ ChangesOnly [.mem, .lost, .badLines, .ctxs, .mode, .ddr] s t)
  ∧ (∀ (g : Fin 16) (delay good : Bool), s.testTileOk g.val delay = true → Completes (.testTile g delay good) s fun t =>
      let x := s.grove g.val
      (t.grove g.val).testTiles = x.testTiles + 1
      ∧ (delay = false → (t.grove g.val).logicDone = (x.logicDone + 1) % 256 ∧ (t.grove g.val).delayDone = x.delayDone)
      ∧ (delay = true → (t.grove g.val).delayDone = (x.delayDone + 1) % 16 ∧ (t.grove g.val).logicDone = x.logicDone)
      ∧ (let passEnds := if delay then (x.delayDone + 1) % 16 = 0 else (x.logicDone + 1) % 256 = 0
         (¬ passEnds → t.regs = s.regs)
         ∧ (passEnds → t.rn Reg.LKT_TEST_PASSES = satAdd32 (s.rn Reg.LKT_TEST_PASSES) 1)
         ∧ (passEnds → delay = false → t.rb Reg.LKT_TEST_FAIL g.val = !good ∧ (good = false → t.rb Reg.LKT_EVT 10 = true)))
      ∧ (∀ h, h ≠ g.val → t.grove h = s.grove h) ∧ ChangesOnly [.fresh, .regs, .evr, .groves, .lkt] s t)
  ∧ (∀ v : Word, s.reaches .kernel Reg.LKT_TEST_REQ → Completes (.lktTestReq .kernel v) s fun t =>
      (fld v.toNat 0 2 ≠ 1 → t = { s with bus := .done })
      ∧ (fld v.toNat 0 2 = 1 → match s.testRefusal with
          | some n => t.rf Reg.LKT_TEST_STATUS 0 3 = n ∧ t.rb Reg.LKT_EVT 11 = true ∧ t.lkt = s.lkt ∧ t.groves = s.groves
          | none => t.rf Reg.LKT_TEST_STATUS 0 3 = 1 ∧ t.lkt = { s.lkt with test := true }) ∧ ChangesOnly [.bus, .regs, .evr, .groves,
            .ctxs, .pages, .seqt, .sets, .lkt] s t)
  ∧ (∀ failed, s.lkt.test = true → Completes (.testEnd failed true) s fun t => t.lkt.test = false ∧ t.rf Reg.LKT_TEST_STATUS 0 3 = 6
      ∧ t.rb Reg.LKT_EVT 9 = true ∧ SameMemory s t ∧ ChangesOnly [.epoch, .regs, .mem, .lost, .evr, .groves, .ctxs, .pages, .seqt,
        .sets, .pwr, .lkt] s t)
  ∧ (∀ failed, s.lkt.test = true → (∀ g, g < 16 → s.role g = .open → s.groveQuiet g = true) →
      Completes (.testEnd failed false) s fun t => t.lkt.test = false ∧ t.rb Reg.LKT_EVT 9 = true
        ∧ t.rf Reg.LKT_TEST_STATUS 0 3 = (if failed % 65536 = 0 then 2 else 3)
        ∧ (∀ a, ¬ (canopyBase ≤ a ∧ a < canopyBase + 0x2000000) → ¬ (groveBase 0 ≤ a ∧ a < groveBase 0 + 0x2000000) → t.rd8 a = s.rd8
          a)
        ∧ ChangesOnly [.epoch, .regs, .mem, .lost, .evr, .groves, .ctxs, .pages, .seqt, .sets, .pwr, .lkt] s t)

/-! ### The kernel's mailboxes -/

/-- R391, R392: a doorbell submits the mailbox's request, has no effect on a busy mailbox but SEC_EVT.MBX_BUSY, and an OP that Table
19.2 does not hold is answered OP_BAD. A service runs when its request is taken, and not before; on a mailbox that may not use it
it ends with NOT_PERMITTED, and with OP_BAD where LEN is too short: then nothing changes but the answer. -/
def Obligations.MailboxProtocol : Prop := ∀ (s : State) (b : Fin 2),
  (∀ i v, s.reaches i (Reg.MBX_DOORBELL b.val) → Completes (.mbxDoorbell b i v) s fun t =>
    (s.mbxBusy b.val = true → t.rb Reg.SEC_EVT 0 = true ∧ SameRegsBut (fun k => k = Reg.SEC_EVT) s t ∧ t.sec = s.sec)
    ∧ (s.mbxBusy b.val = false → mbxOp (s.mbxOpCode b.val) = none → Answered b.val s t 1 []
        ∧ SameRegsBut (fun k => k = Reg.MBX_STATUS b.val ∨ k = Reg.MBX_RSP b.val 0) s t)
    ∧ (s.mbxBusy b.val = false → mbxOp (s.mbxOpCode b.val) ≠ none → t.rn (Reg.MBX_STATUS b.val) = 1
        ∧ SameRegsBut (fun k => k = Reg.MBX_STATUS b.val) s t ∧ t.sec = s.sec)
    ∧ ChangesOnly [.bus, .regs, .sec] s t)
  ∧ (∀ x ∈ services b,
    (s.mbxDue b.val = false → exec x.1 s = .next s)
    ∧ (s.mbxDue b.val = true → s.mbxOpCode b.val ≠ x.2.1 → mbxOp (s.mbxOpCode b.val) ≠ none → exec x.1 s = .next s)
    ∧ (s.mbxDue b.val = true → s.mbxOpCode b.val = x.2.1 →
        let short := s.mbxLen b.val < x.2.2.2 ∨ 63 < s.mbxLen b.val
        (bitOf x.2.2.1 b.val = false → Completes x.1 s fun t => Answered b.val s t 2 []
          ∧ SameRegsBut (fun k => k = Reg.MBX_STATUS b.val ∨ k = Reg.MBX_RSP b.val 0) s t ∧ ChangesOnly [.regs, .sec] s t)
        ∧ (bitOf x.2.2.1 b.val = true → short → Completes x.1 s fun t => Answered b.val s t 1 []
          ∧ SameRegsBut (fun k => k = Reg.MBX_STATUS b.val ∨ k = Reg.MBX_RSP b.val 0) s t ∧ ChangesOnly [.regs, .sec] s t)))

/-- R65, R397, R404 (Table 19.2): CTX_START, CTX_STOP and CTX_PRIO. Each check that fails has its STATUS and leaves every context as it
was; where all pass, the context starts swapped and blocked with HEAD and TAIL at 0 (the model's choice), stops at once where
nothing of it is in progress and at its next tile boundary otherwise, or takes its PRIO. R402, R403: a package whose checks pass is
opened, its plaintext becomes the destination object's tiles and the package is added to its owner's; where its authentication
fails every tile of the object is zero, and any other failure leaves the object. -/
def Obligations.ContextServices : Prop :=
  (∀ s : State,
    let a := s.mbxArg 0
    let c := a 1
    let rec_ := s.thePlan.slotOf c
    let fails (t : State) (status : Nat) : Prop := Answered 0 s t status [] ∧ t.ctxs = s.ctxs
    (s.asked 0 0x01 8 →
      let base := a 2 + 2 ^ 32 * a 3
      let fit := c < 128 ∧ 4 ≤ a 4 ∧ a 4 ≤ 16 ∧ 64 ≤ a 5 ∧ a 5 ≤ 2048 ∧ a 5 % 64 = 0 ∧ a 6 < 65536 ∧ a 7 ≤ 7 ∧ 10 ≤ a 8 ∧ a 8 ≤ 10000
        ∧ base % 4096 = 0
      let within := tenantCeil rec_ ≤ a 7 ∧ a 5 ≤ tenantMaxKib rec_ ∧ s.thePlan.neverOpen (a 6) = false
      Completes (.ctxStart 0) s fun t =>
        (¬ fit → fails t 3) ∧ (fit → s.hasCtx c = false → fails t 4)
        ∧ (fit → s.hasCtx c = true → (s.ctx c).state ≠ .stopped → fails t 0xB)
        ∧ (fit → s.hasCtx c = true → (s.ctx c).state = .stopped → ¬ within → fails t 5)
        ∧ (fit → s.hasCtx c = true → (s.ctx c).state = .stopped → within → s.ddrFits c (a 5 / 4) = false → fails t 7)
        ∧ (fit → s.hasCtx c = true → (s.ctx c).state = .stopped → within → s.ddrFits c (a 5 / 4) = true →
            Answered 0 s t 0 [] ∧ (t.ctx c).state = .swappedBlocked ∧ (t.ctx c).ringBase = base ∧ (t.ctx c).ringOrder = a 4
              ∧ (t.ctx c).sramKib = a 5 ∧ (t.ctx c).mask = a 6 ∧ (t.ctx c).prio = a 7 ∧ (t.ctx c).quantumUs = a 8 ∧ (t.ctx c).head = 0
              ∧ (t.ctx c).tail = 0 ∧ (t.ctx c).resident = false ∧ (∀ d, d ≠ c → t.ctx d = s.ctx d)
              ∧ (tenantSeal rec_ = true → (tfind t.sec.sealKeys c).isSome = true) ∧ (tenantSeal rec_ = false → t.sec.sealKeys =
                s.sec.sealKeys))
        ∧ ChangesOnly [.fresh, .regs, .evr, .ctxs, .sec] s t)
    ∧ (s.asked 0 0x02 1 →
      let busy := (∃ g e, g < 16 ∧ (s.grove g).run = some e ∧ e.owner = .ctx c) ∨ s.inSwap c = true
      Completes (.ctxStop 0) s fun t =>
        (128 ≤ c → fails t 3) ∧ (c < 128 → s.hasCtx c = false → fails t 4)
        ∧ (c < 128 → s.hasCtx c = true → (s.ctx c).state = .stopped → fails t 0xB)
        ∧ (c < 128 → s.hasCtx c = true → (s.ctx c).state ≠ .stopped → Answered 0 s t 0 [] ∧ (∀ d, d ≠ c → t.ctx d = s.ctx d)
            ∧ (busy → t.ctx c = { s.ctx c with stopReq := true })
            ∧ (¬ busy → (t.ctx c).state = .stopped ∧ (t.ctx c).resident = false ∧ (t.ctx c).image = [] ∧ tfind t.sec.sealKeys c = none
                ∧ (∀ w, w < 256 → bitOf (s.rn (Reg.SEC_WIN w 0)) 0 = true → bitOf (s.rn (Reg.SEC_WIN w 0)) 6 = false →
                    fld (s.rn (Reg.SEC_WIN w 0)) 8 7 = c → t.rn (Reg.SEC_WIN w 0) = 0)))
        ∧ ChangesOnly [.regs, .groves, .ctxs, .pages, .seqt, .sets, .sec] s t)
    ∧ (s.asked 0 0x03 2 → Completes (.ctxPrio 0) s fun t =>
        (¬ (c < 128 ∧ a 2 ≤ 7) → fails t 3) ∧ (c < 128 ∧ a 2 ≤ 7 → s.hasCtx c = false → fails t 4)
        ∧ (c < 128 ∧ a 2 ≤ 7 → s.hasCtx c = true → a 2 < tenantCeil rec_ → fails t 5)
        ∧ (c < 128 ∧ a 2 ≤ 7 → s.hasCtx c = true → tenantCeil rec_ ≤ a 2 → Answered 0 s t 0 []
            ∧ t.ctx c = { s.ctx c with prio := a 2 } ∧ (∀ d, d ≠ c → t.ctx d = s.ctx d))
        ∧ ChangesOnly [.regs, .groves, .ctxs, .sec] s t))
  ∧ (∀ s : State, s.asked 0 0x07 16 →
    let a := s.mbxArg 0
    let o := s.obj (a 2)
    let d := s.obj (a 4)
    let digest := (List.range 12).flatMap (fun i => leBytes 4 (a (5 + i)))
    let bytes := s.rdLE (o.hostBase + a 3 + 8) 4
    let pkg := s.rdBytes (o.hostBase + a 3) bytes
    let source := s.hasObj (a 2) = true ∧ o.host = true ∧ a 3 + 0x100 ≤ o.tiles * 4096 ∧ 0x100 ≤ bytes ∧ a 3 + bytes ≤ o.tiles * 4096
    let fit := s.hasObj (a 4) = true ∧ d.owner = a 1 ∧ d.host = false ∧ d.sealed = false ∧ ceilDiv (pkgPayload pkg) 4096 ≤ d.tiles
    let keeps (t : State) : Prop := t.tiers = s.tiers ∧ t.sec.packages = s.sec.packages
    Completes (.pkgLoad 0) s fun t =>
      (s.sec.seed = false → Answered 0 s t 0xC [] ∧ keeps t)
      ∧ (s.sec.seed = true → a 1 < 128 → a 2 < 4096 → a 4 < 4096 → s.hasCtx (a 1) = true → source →
          (64 ≤ (s.packagesOf (a 1)).length → Answered 0 s t 5 [] ∧ keeps t)
          ∧ ((s.packagesOf (a 1)).length < 64 → sha384 pkg ≠ digest → Answered 0 s t 8 [] ∧ keeps t)
          ∧ ((s.packagesOf (a 1)).length < 64 → sha384 pkg = digest → pkgHeaderOk pkg = true → pkgTarget pkg = 0 →
              (¬ fit → Answered 0 s t 3 [] ∧ keeps t)
              ∧ (fit → d.state ≠ .ready ∨ s.objBusy (a 4) = true → Answered 0 s t 0xB [] ∧ keeps t)
              ∧ (fit → d.state = .ready → s.objBusy (a 4) = false →
                  (pkgEntry s.sec.keys pkg = none → Answered 0 s t 9 [] ∧ keeps t)
                  ∧ (openPackage s.sec.keys pkg digest = .error 0xA → Answered 0 s t 0xA [] ∧ (t.obj (a 4)).home = [] ∧ (t.obj (a 4)).copy = []
                      ∧ (∀ m, m ≠ a 4 → t.obj m = s.obj m) ∧ t.sec.packages = s.sec.packages)
                  ∧ (∀ plain, openPackage s.sec.keys pkg digest = .ok plain → Answered 0 s t 0 []
                      ∧ (t.obj (a 4)).home = payloadTiles (a 4) d.width d.compress plain ∧ (t.obj (a 4)).dirty = []
                      ∧ (∀ m, m ≠ a 4 → t.obj m = s.obj m)
                      ∧ t.packagesOf (a 1) = s.packagesOf (a 1) ++ [{ kind := pkgKind pkg, object := a 4, digest := digest }]))))
      ∧ ChangesOnly [.regs, .tiers, .sec] s t)

/-- R191, R395, R396, R434 (Table 19.2): a window granted stands in the free entry of the lowest index as the request gives it; one
revoked is no longer valid; a serving group's registers are written; a queue pair is bound with its two windows, or unbound. A
check that fails has its STATUS, and no register changes but the answer's. -/
def Obligations.WindowServices : Prop := ∀ s : State,
  let a := s.mbxArg 0
  let fails (t : State) (status : Nat) : Prop := Answered 0 s t status [] ∧ SameRegsBut (mbxRegs 0) s t
  let free (w : Nat) : Prop := w < 256 ∧ bitOf (s.rn (Reg.SEC_WIN w 0)) 0 = false
  (s.asked 0 0x04 4 →
    let e : WinEntry := { w0 := a 1, base := a 2 + 2 ^ 32 * a 3, size := a 4 }
    let align := if e.isReg then 4 else 4096
    let clean := (a 1 &&& 0x0FFF7FF7) = a 1
    let named := e.ctx = 0x7F ∨ s.hasCtx e.ctx = true
    let may := bitOf (a 1) 0 = true ∧ bitOf (a 1) 6 = false ∧ 0 < e.size ∧ e.base % align = 0 ∧ e.size % align = 0
      ∧ (s.grantObject e = true ∨ s.grantRegs e = true ∨ s.grantBand e = true ∨ grantOutbound e = true)
    Completes (.winGrant 0) s fun t => (¬ clean → fails t 1) ∧ (clean → 2 < e.init → fails t 3)
      ∧ (clean → e.init ≤ 2 → ¬ named → fails t 4) ∧ (clean → e.init ≤ 2 → named → ¬ may → fails t 6)
      ∧ (clean → e.init ≤ 2 → named → may → (∀ w, ¬ free w) → fails t 7)
      ∧ (∀ w, clean → e.init ≤ 2 → named → may → free w → (∀ v, v < w → ¬ free v) → Answered 0 s t 0 [w]
          ∧ (∀ j, j < 4 → t.rn (Reg.SEC_WIN w j) = a (1 + j))
          ∧ SameRegsBut (fun k => mbxRegs 0 k ∨ ∃ j, j < 4 ∧ k = Reg.SEC_WIN w j) s t)
      ∧ ChangesOnly [.regs, .sec] s t)
  ∧ (s.asked 0 0x05 1 →
    let w := a 1
    let dynamic := bitOf (s.rn (Reg.SEC_WIN w 0)) 0 = true ∧ bitOf (s.rn (Reg.SEC_WIN w 0)) 6 = false
    Completes (.winRevoke 0) s fun t => (256 ≤ w → fails t 3) ∧ (w < 256 → ¬ dynamic → fails t 6)
      ∧ (w < 256 → dynamic → Answered 0 s t 0 [] ∧ t.rn (Reg.SEC_WIN w 0) = 0
          ∧ SameRegsBut (fun k => mbxRegs 0 k ∨ k = Reg.SEC_WIN w 0) s t)
      ∧ ChangesOnly [.regs, .sec] s t)
  ∧ (s.asked 0 0x06 6 →
    let g := a 1
    let wl := a 5 + 2 ^ 32 * a 6
    let server := fld (a 2) 8 7
    let iso := fld (a 2) 1 2
    let rows := fld (a 3) 0 10
    (a 2 &&& 0x00FF7F0F) = a 2 → (a 3 &&& 0xFFFF03FF) = a 3 → a 4 < 2 ^ 24 → g < 16 → iso = 1 ∨ iso = 2 → 1 ≤ rows → rows ≤ 512 →
    fld (a 2) 16 8 ≠ 0 → wl % 4096 = 0 → s.hasCtx server = true → iso = (s.ctx server).iso → ¬ (bitOf (a 2) 3 = true ∧ iso = 2) →
    (iso = 2 ↔ fld (a 3) 16 16 ≠ 0) → s.tenantWindow server wl (roundUp (0x40 + 36 * rows) 4096) = true →
    Completes (.seqGroup 0) s fun t =>
      ((∃ e ∈ s.seqt.entries, e.2.group = g) → Answered 0 s t 0xB [] ∧ (∀ k, k / 0x10000 = 8 → k ≠ Reg.SEQ_EVT → t.rn k = s.rn k))
      ∧ ((∀ e ∈ s.seqt.entries, e.2.group ≠ g) → Answered 0 s t 0 [] ∧ t.rn (Reg.SEQ_GRP_CFG g) = a 2
          ∧ t.rn (Reg.SEQ_GRP_SIZE g) = a 3 ∧ t.rn (Reg.SEQ_GRP_VOCAB g) = a 4 ∧ t.r64 (Reg.SEQ_WL_LO g) = wl)
      ∧ ChangesOnly [.regs, .evr, .sec] s t)
  ∧ (s.asked 0 0x0E 7 → a 1 < 128 →
    let q := a 1
    let on := s.rb (Reg.QP_CFG q) 0
    let n := qpBytes (a 6) (a 7)
    let orders := 4 ≤ a 6 ∧ a 6 ≤ 12 ∧ 4 ≤ a 7 ∧ a 7 ≤ 12
    let bound (t : State) (cfg base : Nat) : Prop := Answered 0 s t 0 [] ∧ t.rn (Reg.QP_CFG q) = cfg
      ∧ t.r64 (Reg.QP_BASE_LO q) = base % 2 ^ 64 ∧ t.rn (Reg.QP_SQ q) = 0 ∧ t.rn (Reg.QP_CQ q) = 0 ∧ t.rn (Reg.QP_SQ_HEAD q) = 0
      ∧ t.rn (Reg.QP_CQ_TAIL q) = 0
    (a 2 = 0 → Completes (.qpBind 0) s fun t => (on = false → fails t 0xB)
        ∧ (on = true → Answered 0 s t 0 [] ∧ t.rb (Reg.QP_CFG q) 0 = false) ∧ ChangesOnly [.regs, .sec] s t)
    ∧ (a 2 = 1 → a 3 = 1 → a 4 < 128 → a 5 < 4096 → orders →
        let o := s.obj (a 5)
        let fits := s.hasObj (a 5) = true ∧ o.host = true ∧ o.owner = a 4 ∧ o.state ≠ .draining ∧ n ≤ o.tiles * 4096
        Completes (.qpBind 0) s fun t => (s.hasCtx (a 4) = false → fails t 4) ∧ (s.hasCtx (a 4) = true → on = true → fails t 0xB)
          ∧ (s.hasCtx (a 4) = true → on = false → ¬ fits → fails t 6)
          ∧ (∀ w v, s.hasCtx (a 4) = true → on = false → fits → free w → free v → w < v → (∀ u, u < v → u ≠ w → ¬ free u) →
              bound t (1 + 2 + a 4 * 2 ^ 8 + a 6 * 2 ^ 16 + a 7 * 2 ^ 20) o.hostBase
              ∧ fld (t.rn (Reg.SEC_WIN w 0)) 1 2 = 2 ∧ bitOf (t.rn (Reg.SEC_WIN w 0)) 0 = true ∧ fld (t.rn (Reg.SEC_WIN w 0)) 8 7 = a 4
              ∧ fld (t.rn (Reg.SEC_WIN w 0)) 16 12 = a 5 ∧ fld (t.rn (Reg.SEC_WIN v 0)) 1 2 = 1 ∧ bitOf (t.rn (Reg.SEC_WIN v 0)) 4 =
                true
              ∧ t.rn (Reg.SEC_WIN v 1) = regAddr (Reg.QP_SQ_HEAD q) % 2 ^ 32 ∧ t.rn (Reg.SEC_WIN v 3) = 8)
          ∧ ChangesOnly [.regs, .sec] s t)
    ∧ (a 2 = 1 → a 3 = 0 → orders → on = false → roundUp n 4096 ≤ s.r64 Reg.SEC_SVC_BYTES_LO → (∃ w v, free w ∧ free v ∧ w < v) →
        Completes (.qpBind 0) s fun t => bound t (1 + a 6 * 2 ^ 16 + a 7 * 2 ^ 20) (s.svcRing q n) ∧ ChangesOnly [.regs, .sec] s t))

/-- R76, R313, R374, R386, R400, R401 (Table 19.2): the mask of RESET requests resets of D2, D3 and D4; SWAP_RATE writes the rate that
R76 allows; TEST begins the whole-fabric test or is refused; CAM_RING writes a ring's registers; ATTEST and CERT write a signed
report and the certificate to a window of the requester, and nothing else in memory. -/
def Obligations.DeviceServices : Prop := ∀ s : State,
  let a := s.mbxArg 0
  (s.asked 0 0x08 1 → Completes (.mbxReset 0) s fun t =>
    ((a 1 &&& 0x1C) ≠ a 1 → Answered 0 s t 3 [] ∧ t.domains = s.domains)
    ∧ ((a 1 &&& 0x1C) = a 1 → Answered 0 s t 0 []
        ∧ (∀ d, (t.dom d).requests = (s.dom d).requests ++ (if bitOf (a 1) d = true then [{ requester := 1 }] else [])
            ∧ t.inReset d = s.inReset d))
    ∧ SameRegsBut (mbxRegs 0) s t ∧ ChangesOnly [.regs, .domains, .sec] s t)
  ∧ (s.asked 0 0x09 2 → Completes (.swapRate 0) s fun t =>
    let ok := a 1 < 16 ∧ s.swapRateOk (a 1) (a 2) = true
    (ok → Answered 0 s t 0 [] ∧ t.rn (Reg.SCH_SWAP_MBPS (a 1)) = a 2
      ∧ SameRegsBut (fun k => mbxRegs 0 k ∨ k = Reg.SCH_SWAP_MBPS (a 1)) s t)
    ∧ (¬ ok → Answered 0 s t 3 [] ∧ (∀ g, g < 16 → t.rn (Reg.SCH_SWAP_MBPS g) = s.rn (Reg.SCH_SWAP_MBPS g))) ∧ ChangesOnly [.regs,
      .evr, .sec] s t)
  ∧ (s.asked 0 0x0A 1 → Completes (.mbxTest 0) s fun t =>
    (a 1 ≠ 1 → Answered 0 s t 3 [] ∧ t.lkt = s.lkt)
    ∧ (∀ n, a 1 = 1 → s.testRefusal = some n → Answered 0 s t 0xB [] ∧ t.lkt = s.lkt ∧ t.rf Reg.LKT_TEST_STATUS 0 3 = n)
    ∧ (a 1 = 1 → s.testRefusal = none → Answered 0 s t 0 [] ∧ t.lkt = { s.lkt with test := true } ∧ t.rf Reg.LKT_TEST_STATUS 0 3 = 1)
    ∧ ChangesOnly [.regs, .evr, .groves, .ctxs, .pages, .seqt, .sets, .lkt, .sec] s t)
  ∧ (s.asked 1 0x0B 4 →
    let o := s.mbxArg 1 1
    let base := s.mbxArg 1 2 + 2 ^ 32 * s.mbxArg 1 3
    let pitch := s.mbxArg 1 4
    let bytes := if o = 2 then pitch * 8192 else pitch * s.rf (Reg.CAM_OUT_CFG o) 4 4
    let inside := (ddrBase ≤ base ∧ s.windowOk (.app 0) false true base bytes = true)
      ∨ (outboundBase ≤ base ∧ base + bytes ≤ outboundBase + 0x10000000)
    (if o = 2 then base % 8192 = 0 ∧ 3 ≤ pitch ∧ pitch ≤ 16 else o ≤ 1 ∧ base % 4096 = 0 ∧ pitch % 4096 = 0) →
    Completes (.camRing 1) s fun t => (s.running 8 = false → Answered 1 s t 0xB [] ∧ t.cam = s.cam)
      ∧ (s.running 8 = true → ¬ inside → Answered 1 s t 6 [] ∧ t.cam = s.cam)
      ∧ (s.running 8 = true → inside → Answered 1 s t 0 []
          ∧ (if o = 2 then t.r64 Reg.CAM_STATS_BASE_LO = base ∧ t.rn Reg.CAM_STATS_SLOTS = pitch
             else t.r64 (Reg.CAM_OUT_BASE_LO o) = base ∧ t.rn (Reg.CAM_OUT_PITCH o) = pitch))
      ∧ ChangesOnly [.regs, .cam, .sec] s t)
  ∧ (∀ b : Fin 2, s.asked b.val 0x0C 11 → s.badLines = [] →
    let x := s.mbxArg b.val
    let scope := x 1
    let dst := x 10 + 2 ^ 32 * x 11
    let nonce := (List.range 8).flatMap (fun i => leBytes 4 (x (2 + i)))
    let known := scope = 0xFF ∨ s.hasCtx scope = true
    let room := s.reqWrites b.val dst (0x110 + 64 * (s.reportEntries (scope % 256)).length + 256) = true
    Completes (.mbxAttest b) s fun t =>
      (s.sec.seed = false ∨ s.sec.attestKey = none → Answered b.val s t 0xC [] ∧ SameMemory s t)
      ∧ (∀ k, s.sec.seed = true → s.sec.attestKey = some k →
        (¬ (scope = 0xFF ∨ scope < 128) → Answered b.val s t 3 [] ∧ SameMemory s t)
        ∧ (scope = 0xFF ∨ scope < 128 → ¬ known → Answered b.val s t 4 [] ∧ SameMemory s t)
        ∧ (scope = 0xFF ∨ scope < 128 → known → ¬ room → Answered b.val s t 6 [] ∧ SameMemory s t)
        ∧ (scope = 0xFF ∨ scope < 128 → known → room → regionOf dst = .ddr →
            let report := signed k s.fresh (s.reportBody scope nonce)
            Answered b.val s t 0 [] ∧ (∀ i, i < report.length → t.rd8 (dst + i) = nth 0 report i)
            ∧ (∀ y, y < dst ∨ dst + report.length ≤ y → t.rd8 y = s.rd8 y)))
      ∧ ChangesOnly [.fresh, .regs, .mem, .lost, .badLines, .evr, .ddr, .sec, .pci] s t)
  ∧ (∀ b : Fin 2, s.asked b.val 0x0D 2 → s.badLines = [] →
    let dst := s.mbxArg b.val 1 + 2 ^ 32 * s.mbxArg b.val 2
    let have_ := s.sec.seed = true ∧ s.sec.certificate ≠ []
    Completes (.mbxCert b) s fun t => (¬ have_ → Answered b.val s t 0xC [] ∧ SameMemory s t)
      ∧ (have_ → s.reqWrites b.val dst 720 = false → Answered b.val s t 6 [] ∧ SameMemory s t)
      ∧ (have_ → s.reqWrites b.val dst 720 = true → regionOf dst = .ddr → Answered b.val s t 0 []
          ∧ (∀ i, i < s.certBytes.length → t.rd8 (dst + i) = nth 0 s.certBytes i)
          ∧ (∀ y, y < dst ∨ dst + s.certBytes.length ≤ y → t.rd8 y = s.rd8 y))
      ∧ ChangesOnly [.regs, .mem, .lost, .badLines, .evr, .ddr, .sec, .pci] s t)

/-- R427 (Table 21.5): staging. UPD_OPEN erases the inactive slot of a component, UPD_WRITE programs bytes of it, UPD_CLOSE keeps the
image where its digest and its signature hold and leaves the slot empty otherwise, UPD_ABORT leaves it empty, UPD_STATUS shows the
staging. No other slot changes. R428 (Table 21.6), R427: UPD_COMMIT switches every component of its mask at once, both copies of
the directory alike, raises the rollback counters of R426 and never lowers one, and ends the staging of those components; a mask
that names one not staged, or a slot that does not match its digest, changes nothing. OS_READ and OS_WRITE move sectors of the OS
data area. -/
def Obligations.UpdateServices : Prop :=
  (∀ s : State,
    let a := s.mbxArg 0
    let keeps (t : State) : Prop := t.flash = s.flash ∧ t.emmc = s.emmc ∧ t.boot = s.boot
    let slot (t : State) (c n : Nat) (bs : List Byte) : Prop :=
      t.slotBytes c n = bs ∧ (∀ d m, 1 ≤ d → d ≤ 4 → m < 2 → ¬ (d = c ∧ m = n) → t.slotBytes d m = s.slotBytes d m)
    (s.asked 0 0x20 2 →
      let range := 1 ≤ a 1 ∧ a 1 ≤ 4 ∧ a 2 ≤ s.slotSize (a 1)
      let idle := s.boot.staging = none ∧ s.emmc.commit = .idle ∧ s.slotSelected (a 1) (s.inactiveSlot (a 1)) = false
      Completes (.updOpen 0) s fun t => (¬ range → Answered 0 s t 3 [] ∧ keeps t) ∧ (range → ¬ idle → Answered 0 s t 0xB [] ∧ keeps t)
        ∧ (range → idle → Answered 0 s t 0 [] ∧ t.boot.staging = some { component := a 1, bytes := a 2 }
            ∧ slot t (a 1) (s.inactiveSlot (a 1)) [] ∧ bitOf t.boot.staged (a 1 - 1) = false) ∧ ChangesOnly [.regs, .sec, .flash,
              .emmc, .boot] s t)
    ∧ (∀ g, s.boot.staging = some g → 1 ≤ g.component → g.component ≤ 4 →
      let c := g.component
      let n := s.inactiveSlot c
      (s.asked 0 0x21 4 →
        let src := a 2 + 2 ^ 32 * a 3
        let range := a 4 % 256 = 0 ∧ a 4 ≤ 2 ^ 20 ∧ a 1 + a 4 ≤ g.bytes
        Completes (.updWrite 0) s fun t => (¬ range → Answered 0 s t 3 [] ∧ keeps t)
          ∧ (range → s.reqReads 0 src (a 4) = false → Answered 0 s t 6 [] ∧ keeps t)
          ∧ (range → s.reqReads 0 src (a 4) = true → regionOf src = .ddr → Answered 0 s t 0 [] ∧ t.boot = s.boot
              ∧ slot t c n (overlay (padTo 0xFF g.bytes (s.slotBytes c n)) (a 1) (s.rdBytes src (a 4)))) ∧ ChangesOnly [.fresh, .regs,
                .sec, .flash, .emmc] s t)
      ∧ (s.asked 0 0x22 12 →
        let digest := (List.range 12).flatMap (fun i => leBytes 4 (a (1 + i)))
        let img := padTo 0xFF g.bytes (s.slotBytes c n)
        Completes (.updClose 0) s fun t => t.boot.staging = none
          ∧ (sha384 img ≠ digest → Answered 0 s t 8 [] ∧ slot t c n [] ∧ t.boot.staged = s.boot.staged)
          ∧ (sha384 img = digest → s.stagedOk c img = false → Answered 0 s t 0xA [] ∧ slot t c n [] ∧ t.boot.staged = s.boot.staged)
          ∧ (sha384 img = digest → s.stagedOk c img = true → Answered 0 s t 0 [] ∧ slot t c n img ∧ bitOf t.boot.staged (c - 1) = true)
          ∧ ChangesOnly [.regs, .sec, .flash, .emmc, .boot] s t)
      ∧ (s.asked 0 0x24 0 → Completes (.updAbort 0) s fun t => Answered 0 s t 0 [] ∧ t.boot.staging = none ∧ slot t c n []
          ∧ ChangesOnly [.regs, .sec, .flash, .emmc, .boot] s t))
    ∧ (s.boot.staging = none →
      (s.asked 0 0x21 4 → Completes (.updWrite 0) s fun t => Answered 0 s t 0xB [] ∧ keeps t)
      ∧ (s.asked 0 0x22 12 → Completes (.updClose 0) s fun t => Answered 0 s t 0xB [] ∧ keeps t)
      ∧ (s.asked 0 0x24 0 → Completes (.updAbort 0) s fun t => Answered 0 s t 0xB [] ∧ keeps t))
    ∧ (s.asked 0 0x25 0 → Completes (.updStatus 0) s fun t =>
        Answered 0 s t 0 [(match s.boot.staging with | some g => g.component | none => 0), s.boot.staged,
          (match s.emmc.commit with | .idle => 0 | .pending => 1 | .committed => 2)]
        ∧ SameRegsBut (mbxRegs 0) s t ∧ ChangesOnly [.regs, .sec] s t))
  ∧ (∀ s : State,
    let a := s.mbxArg 0
    let keeps (t : State) : Prop := t.flash = s.flash ∧ t.emmc = s.emmc ∧ t.boot = s.boot
    (s.asked 0 0x23 1 → a 1 < 16 →
      let mask := a 1
      let able := (mask &&& s.boot.staged) = mask ∧ s.emmc.commit = .idle ∧ s.emmc.readable = true
      let version (i : Nat) (f : List Byte → Nat) : Nat := if bitOf mask i = true then f (s.slotBytes (i + 1) (s.inactiveSlot (i +
        1))) else 0
      Completes (.updCommit 0) s fun t => (¬ able → Answered 0 s t 0xB [] ∧ keeps t)
        ∧ (able → s.stagedMatch mask = false → Answered 0 s t 8 [] ∧ keeps t)
        ∧ (able → s.stagedMatch mask = true → Answered 0 s t 0 [] ∧ t.emmc.commit = .idle ∧ t.flash.dir0 = t.flash.dir1
            ∧ (s.flash.dir.gen + 1 < 2 ^ 32 → t.flash.dir.active = s.flash.dir.active ^^^ mask)
            ∧ t.emmc.patchRb = max s.emmc.patchRb (version 0 imageVersion) ∧ t.emmc.svcRb = max s.emmc.svcRb (version 1 imageVersion)
            ∧ t.emmc.planRb = max s.emmc.planRb (version 2 (fun img => u32 img 0x14))
            ∧ (∀ i, i < 4 → bitOf t.boot.staged i = (bitOf s.boot.staged i && !bitOf mask i))
            ∧ (∀ c n, t.slotBytes c n = s.slotBytes c n)) ∧ ChangesOnly [.regs, .sec, .flash, .emmc, .boot] s t)
    ∧ (s.badLines = [] → s.asked 0 0x26 4 →
      let dst := a 3 + 2 ^ 32 * a 4
      let range := a 2 ≤ 2048 ∧ s.dataStart ≤ a 1
      let bs := s.sectors (a 1) (a 2)
      Completes (.osRead 0) s fun t => (¬ range → Answered 0 s t 3 [] ∧ SameMemory s t)
        ∧ (range → s.emmc.readable = false → Answered 0 s t 0xB [] ∧ SameMemory s t)
        ∧ (range → s.emmc.readable = true → s.reqWrites 0 dst (512 * a 2) = false → Answered 0 s t 6 [] ∧ SameMemory s t)
        ∧ (range → s.emmc.readable = true → s.reqWrites 0 dst (512 * a 2) = true → regionOf dst = .ddr → Answered 0 s t 0 []
            ∧ (∀ i, i < bs.length → t.rd8 (dst + i) = nth 0 bs i) ∧ (∀ y, y < dst ∨ dst + bs.length ≤ y → t.rd8 y = s.rd8 y))
        ∧ ChangesOnly [.regs, .mem, .lost, .badLines, .evr, .ddr, .sec, .pci] s t)
    ∧ (s.asked 0 0x27 4 →
      let src := a 3 + 2 ^ 32 * a 4
      let range := a 2 ≤ 2048 ∧ s.dataStart ≤ a 1
      Completes (.osWrite 0) s fun t => (¬ range → Answered 0 s t 3 [] ∧ t.emmc = s.emmc)
        ∧ (range → s.emmc.readable = false → Answered 0 s t 0xB [] ∧ t.emmc = s.emmc)
        ∧ (range → s.emmc.readable = true → s.reqReads 0 src (512 * a 2) = false → Answered 0 s t 6 [] ∧ t.emmc = s.emmc)
        ∧ (range → s.emmc.readable = true → s.reqReads 0 src (512 * a 2) = true → regionOf src = .ddr → Answered 0 s t 0 []
            ∧ (∀ j, j < a 2 → tfind t.emmc.osData (a 1 + j) = some (s.rdBytes (src + 512 * j) 512))
            ∧ (∀ m, m < a 1 ∨ a 1 + a 2 ≤ m → tfind t.emmc.osData m = tfind s.emmc.osData m))
        ∧ ChangesOnly [.fresh, .regs, .sec, .emmc] s t))

/-! ### The host link and the management network -/

/-- R431, R433, R435, R436, R439: PERST# and FLR drop the link, disable every queue pair and clear the MSI-X table, and touch no reset
domain; a link lost leaves the queue pairs' registers. An index within its ring is taken, an SQ_TAIL with its bit of PCI_SQ_PEND, a
CQ_TAIL with its vector; any other is discarded and counted. PCI_SQ_PEND is cleared only by its target's side, and the host page
writes PCI_OB_BASE as a pair. A link trains at a rate and width that the device does not choose. -/
def Obligations.Pcie : Prop := ∀ s : State,
  let live := s.blockLive 0x2B
  let cleared (t : State) : Prop := t.pci.linkUp = false ∧ t.pci.rate = 0 ∧ t.pci.width = 0 ∧ t.pci.msix = [] ∧ t.pci.msixPending = 0
    ∧ (live = true → (∀ q, q < 128 → t.rb (Reg.QP_CFG q) 0 = false) ∧ t.rn Reg.PCI_STATUS = 0)
    ∧ SameRegsBut (fun k => k = Reg.PCI_STATUS ∨ k = Reg.PCI_EVT ∨ ∃ q, q < 128 ∧ k = Reg.QP_CFG q) s t ∧ ChangesOnly [.regs, .pci] s t
  let bad (t : State) : Prop := t.rn Reg.PCI_DENIED = satAdd32 (s.rn Reg.PCI_DENIED) 1 ∧ t.rb Reg.PCI_EVT 3 = true
    ∧ SameRegsBut (fun k => k = Reg.PCI_DENIED ∨ k = Reg.PCI_EVT) s t
  (Completes .perst s fun t => cleared t ∧ (live = true → t.rb Reg.PCI_EVT 2 = true))
  ∧ (s.acts .pcie = true → Completes .flr s cleared)
  ∧ (Completes .pcieLinkDown s fun t => t.pci.linkUp = false ∧ t.pci.rate = 0 ∧ t.pci.width = 0 ∧ t.pci.msix = s.pci.msix
      ∧ (live = true → s.pci.linkUp = true → t.rb Reg.PCI_EVT 1 = true)
      ∧ SameRegsBut (fun k => k = Reg.PCI_STATUS ∨ k = Reg.PCI_EVT) s t ∧ ChangesOnly [.regs, .pci] s t)
  ∧ (s.running 0 = true → (s.dom 1).power ≠ .off → s.pci.linkUp = false → Completes .pcieLinkUp s fun t => t.pci.linkUp = true
      ∧ 1 ≤ t.pci.rate ∧ t.pci.rate ≤ 4 ∧ 1 ≤ t.pci.width ∧ t.pci.width ≤ 2 ∧ t.pci.msix = s.pci.msix
      ∧ (live = true → t.rb Reg.PCI_STATUS 0 = true ∧ t.rf Reg.PCI_STATUS 1 3 = t.pci.rate ∧ t.rb Reg.PCI_EVT 0 = true)
      ∧ SameRegsBut (fun k => k = Reg.PCI_STATUS ∨ k = Reg.PCI_EVT) s t ∧ ChangesOnly [.fresh, .regs, .pci] s t)
  ∧ (∀ v : Word, s.acts .pcie = true → live = true →
      (Completes (.pciObBase false v) s fun t => t.regs = s.regs ∧ tfind t.staged Reg.PCI_OB_BASE_LO = some v ∧ ChangesOnly [.bus,
        .regs, .staged, .written] s t)
      ∧ (∀ w, tfind s.staged Reg.PCI_OB_BASE_LO = some w → Completes (.pciObBase true v) s fun t =>
          t.r64 Reg.PCI_OB_BASE_LO = w.toNat + 2 ^ 32 * v.toNat
          ∧ SameRegsBut (fun k => k = Reg.PCI_OB_BASE_LO ∨ k = Reg.PCI_OB_BASE_HI) s t ∧ ChangesOnly [.bus, .regs, .staged, .written]
            s t))
  ∧ (∀ (q : Fin 128) (v : Word), s.acts .pcie = true → live = true →
      let n := v.toNat % 2 ^ 16
      (Completes (.qppSqTail q v) s fun t =>
        (s.qpOn q.val = true → n < s.sqSize q.val → t.rf (Reg.QP_SQ q.val) 0 16 = n
          ∧ t.rf (Reg.QP_SQ q.val) 16 16 = s.rf (Reg.QP_SQ q.val) 16 16 ∧ t.rb (Reg.PCI_SQ_PEND (q.val / 32)) (q.val % 32) = true
          ∧ SameRegsBut (fun k => k = Reg.QP_SQ q.val ∨ k = Reg.PCI_SQ_PEND (q.val / 32)) s t)
        ∧ (s.qpOn q.val = false ∨ s.sqSize q.val ≤ n → bad t))
      ∧ (Completes (.qppCqHead q v) s fun t =>
        (s.qpOn q.val = true → n < s.cqSize q.val → t.rf (Reg.QP_CQ q.val) 0 16 = n ∧ SameRegsBut (fun k => k = Reg.QP_CQ q.val) s t)
        ∧ (s.qpOn q.val = false ∨ s.cqSize q.val ≤ n → bad t)))
  ∧ (∀ (i : Initiator) (q : Fin 128) (v : Word), s.reaches i (Reg.QP_SQ_HEAD q.val) →
      let n := v.toNat % 2 ^ 16
      Completes (.qpSqHead i q v) s fun t =>
        (n < s.sqSize q.val → t.rf (Reg.QP_SQ q.val) 16 16 = n ∧ t.rf (Reg.QP_SQ q.val) 0 16 = s.rf (Reg.QP_SQ q.val) 0 16
          ∧ t.rf (Reg.QP_SQ_HEAD q.val) 0 16 = n ∧ SameRegsBut (fun k => k = Reg.QP_SQ q.val ∨ k = Reg.QP_SQ_HEAD q.val) s t)
        ∧ (s.sqSize q.val ≤ n → bad t))
  ∧ (∀ (i : Initiator) (q : Fin 128) (v : Word), s.reaches i (Reg.QP_CQ_TAIL q.val) →
      let n := v.toNat % 2 ^ 16
      let masked := bitOf (s.msixWord (4 * q.val + 3)) 0
      Completes (.qpCqTail i q v) s fun t =>
        (n < s.cqSize q.val → t.rf (Reg.QP_CQ_TAIL q.val) 0 16 = n ∧ SameRegsBut (fun k => k = Reg.QP_CQ_TAIL q.val) s t
          ∧ (s.pci.linkUp = true → masked = false → tget 0 t.pci.msixSent q.val = tget 0 s.pci.msixSent q.val + 1)
          ∧ (s.pci.linkUp = true → masked = true → bitOf t.pci.msixPending q.val = true ∧ t.pci.msixSent = s.pci.msixSent)
          ∧ (s.pci.linkUp = false → t.pci = s.pci))
        ∧ (s.cqSize q.val ≤ n → bad t))
  ∧ (∀ (i : Initiator) (p : Fin 4) (v : Word), s.reaches i (Reg.PCI_SQ_PEND p.val) →
      Completes (.pciSqPend i p v) s fun t =>
        (∀ j, j < 32 → t.rb (Reg.PCI_SQ_PEND p.val) j = (s.rb (Reg.PCI_SQ_PEND p.val) j
          && !(bitOf v.toNat j && (match i with
            | .app _ => s.rb (Reg.QP_CFG (32 * p.val + j)) 1
            | .service => !s.rb (Reg.QP_CFG (32 * p.val + j)) 1
            | _ => false))))
        ∧ SameRegsBut (fun k => k = Reg.PCI_SQ_PEND p.val) s t ∧ ChangesOnly [.bus, .regs] s t)

/-- R405, R441, R442, R444: the port's link, ARP and echo replies for the address in use, the challenge of HELLO, OPEN with the
credential's signature over it, ENROLL with the MGT_ENROLL ball while no credential stands, and the session's time-out. A failed
OPEN is counted and refused. The encodings of the datagrams' bodies are the model's (log entry 31). -/
def Obligations.ManagementPort : Prop := ∀ s : State,
  let hears := s.running 1 = true ∧ s.mgt.link = true
  let plain (t : State) (type : Nat) (d : Datagram) (status : Nat) (body : List Byte) : Prop := t.mgt.sent = mgmtResponse type d.seq
    status body
  let refused (t : State) (d : Datagram) : Prop := plain t 0x02 d 0x0B [] ∧ t.rn Reg.MGT_AUTH_FAIL = satAdd32 (s.rn Reg.MGT_AUTH_FAIL)
    1
    ∧ t.rb Reg.MGT_EVT 4 = true ∧ t.mgt.session = s.mgt.session ∧ t.mgt.challenge = s.mgt.challenge
    ∧ SameRegsBut (fun k => k = Reg.MGT_AUTH_FAIL ∨ k = Reg.MGT_EVT) s t
  (s.running 0 = true → s.mgt.link = false → Completes .mgtLinkUp s fun t => t.mgt = { s.mgt with link := true }
      ∧ (s.blockLive 0x2C = true → t.rb Reg.MGT_STATUS 0 = true ∧ t.rb Reg.MGT_EVT 0 = true) ∧ ChangesOnly [.regs, .mgt] s t)
  ∧ (s.mgt.link = true → Completes .mgtLinkDown s fun t => t.mgt = { s.mgt with link := false }
      ∧ (s.blockLive 0x2C = true → t.rb Reg.MGT_STATUS 0 = false ∧ t.rb Reg.MGT_EVT 1 = true) ∧ ChangesOnly [.regs, .mgt] s t)
  ∧ (hears → ∀ mac ip target, Completes (.arpRequest mac ip target) s fun t =>
      (target ≠ s.ipv4 → t = s)
      ∧ (target = s.ipv4 → t.mgt.sent.take 8 = [0, 1, 8, 0, 6, 4, 0, 2] ∧ t.mgt.sent.drop 8 = s.macAddress ++ beBytes 4 s.ipv4
          ++ beBytes 6 mac ++ beBytes 4 ip) ∧ ChangesOnly [.mgt] s t)
  ∧ (hears → ∀ target rest, Completes (.icmpEchoRequest target rest) s fun t =>
      (target ≠ s.ipv4 → t = s) ∧ (target = s.ipv4 → t.mgt.sent.take 2 = [0, 0] ∧ t.mgt.sent.drop 4 = rest) ∧ ChangesOnly [.mgt] s t)
  ∧ (hears → ∀ d : Datagram, d.payload.length ≤ 1280 →
    (Completes (.mgtHello d) s fun t =>
      (s.mgt.session.isSome = true → plain t 0x01 d 0x0B [] ∧ t.mgt.challenge = s.mgt.challenge)
      ∧ (s.mgt.session = none → ∃ c, c.length = 32 ∧ t.mgt.challenge = some c ∧ t.mgt.session = none
          ∧ plain t 0x01 d 0 (s.devId ++ leBytes 4 s.idState ++ c))
      ∧ ChangesOnly [.fresh, .mgt] s t)
    ∧ (Completes (.mgtOpen d) s fun t =>
      (∀ c, s.mgt.session = none → s.mgt.challenge = some c →
        let good := d.seq = 1 ∧ s.credential ≠ []
          ∧ ecdsaVerify s.credential (c ++ s.devId) (beNat (slice d.payload 0 48)) (beNat (slice d.payload 48 48)) = true
        (good → plain t 0x02 d 0 [] ∧ t.mgt.challenge = none ∧ t.rn Reg.MGT_SESSIONS = satAdd32 (s.rn Reg.MGT_SESSIONS) 1
          ∧ (∃ x, t.mgt.session = some x ∧ x.challenge = c ∧ x.lastSeq = 1) ∧ t.rb Reg.MGT_STATUS 1 = true ∧ t.rb Reg.MGT_EVT 2 = true)
        ∧ (¬ good → refused t d))
      ∧ (s.mgt.session = none → s.mgt.challenge = none → refused t d)
      ∧ (∀ x, s.mgt.session = some x → (d.seq = x.lastSeq → t.mgt = { s.mgt with sent := x.lastResponse } ∧ t.regs = s.regs)
          ∧ (d.seq ≠ x.lastSeq → refused t d))
      ∧ ChangesOnly [.regs, .mgt] s t)
    ∧ (Completes (.mgtEnroll d) s fun t =>
      let open_ := s.pins.mgtEnroll = true ∧ s.mgt.session = none ∧ s.emmc.credential = []
      let fit := d.payload.length = 97 ∧ (readKey d.payload).isSome = true
      (¬ open_ → plain t 0x03 d 0x0B [] ∧ t.emmc = s.emmc)
      ∧ (open_ → ¬ (s.sec.seed = true ∧ s.emmc.readable = true) → plain t 0x03 d 0x0C [] ∧ t.emmc = s.emmc)
      ∧ (open_ → s.sec.seed = true → s.emmc.readable = true → ¬ fit → plain t 0x03 d 3 [] ∧ t.emmc = s.emmc)
      ∧ (open_ → s.sec.seed = true → s.emmc.readable = true → fit → plain t 0x03 d 0 [] ∧ t.emmc = { s.emmc with credential :=
        d.payload }
          ∧ t.rb Reg.SEC_STATUS 4 = true ∧ t.rb Reg.SEC_EVT 4 = true)
      ∧ ChangesOnly [.regs, .evr, .emmc, .mgt] s t))
  ∧ (Completes .sessionTimeout s fun t => t.mgt = { s.mgt with session := none } ∧ (s.mgt.session = none → t = s)
      ∧ (s.mgt.session.isSome = true → s.blockLive 0x2C = true → t.rb Reg.MGT_STATUS 1 = false ∧ t.rb Reg.MGT_EVT 3 = true)
      ∧ ChangesOnly [.regs, .mgt] s t)

/-- R442, Table 22.7: the requests of a session. Without a session, or with a SEQ or signature that does not hold, a request is refused
and counted, and runs nothing; one repeated is answered as before and not run again; one that is valid runs, and its response is
kept under its SEQ. CLOSE ends the session, LOG_READ, MGT_ATTEST and MGT_CERT read, MGT_RESET and MGT_TEST ask for resets and the
test, UPDATE stages as the mailbox does, CRED_SET and PLANKEY replace keys, recorded in SEC_EVT. -/
def Obligations.ManagementRequests : Prop := ∀ (s : State) (d : Datagram), s.running 1 = true → s.mgt.link = true → d.payload.length ≤
  1280 →
  (∀ r ∈ mgmtRequests d,
    let refused : Prop := Completes r.1 s fun t => t.mgt = { s.mgt with sent := mgmtResponse r.2 d.seq 0x0B [] }
      ∧ t.rn Reg.MGT_AUTH_FAIL = satAdd32 (s.rn Reg.MGT_AUTH_FAIL) 1 ∧ t.rb Reg.MGT_EVT 4 = true
      ∧ SameRegsBut (fun k => k = Reg.MGT_AUTH_FAIL ∨ k = Reg.MGT_EVT) s t ∧ ChangesOnly [.regs, .mgt] s t
    (s.mgt.session = none → refused)
    ∧ (∀ x, s.mgt.session = some x → d.seq ≠ x.lastSeq → s.requestValid x d = false → refused)
    ∧ (∀ x, s.mgt.session = some x → d.seq = x.lastSeq →
        exec r.1 s = .next { s with mgt := { s.mgt with sent := x.lastResponse } }))
  ∧ (∀ x, s.mgt.session = some x → d.seq ≠ x.lastSeq → s.requestValid x d = true →
    let word := mgmtWord d
    let long (n : Nat) : Prop := n ≤ d.payload.length
    let answers (type status : Nat) (body : List Byte) (t : State) : Prop := t.mgt.sent = mgmtResponse type d.seq status body
      ∧ t.mgt.session = some { x with lastSeq := d.seq, lastResponse := mgmtResponse type d.seq status body }
    (Completes (.mgtClose d) s fun t => t.mgt.session = none ∧ t.mgt.sent = mgmtResponse 0x0F d.seq 0 [] ∧ t.rb Reg.MGT_EVT 3 = true
      ∧ t.rb Reg.MGT_STATUS 1 = false ∧ ChangesOnly [.regs, .mgt] s t)
    ∧ (Completes (.mgtLogRead d) s fun t =>
        (¬ long 12 → answers 0x10 1 [] t)
        ∧ (long 12 → ¬ (word 0 < 2 ∧ 1 ≤ word 2 ∧ word 2 ≤ 36) → answers 0x10 3 [] t)
        ∧ (long 12 → word 0 = 0 → word 2 = 1 → ∀ e : Record, tfind s.evr.last (word 1 % 1024) = some e → e.seq = word 1 →
            e.code % 65536 = e.code → e.code ≠ 0 → e.src < 256 → answers 0x10 0 (e.words.flatMap (leBytes 4)) t)
        ∧ (long 12 → word 0 = 0 → word 2 = 1 → tfind s.evr.last (word 1 % 1024) = none → answers 0x10 0 [] t)
        ∧ ChangesOnly [.regs, .written, .mgt] s t)
    ∧ (Completes (.mgtAttest d) s fun t =>
        (¬ long 40 → answers 0x11 1 [] t) ∧ (long 40 → s.sec.seed = false → answers 0x11 0xC [] t)
        ∧ (∀ k, long 40 → s.sec.seed = true → s.sec.attestKey = some k →
            (word 0 ≠ 0xFF → 128 ≤ word 0 → answers 0x11 3 [] t)
            ∧ (word 0 < 128 → s.hasCtx (word 0) = false → answers 0x11 4 [] t)
            ∧ (word 0 = 0xFF ∨ (word 0 < 128 ∧ s.hasCtx (word 0) = true) →
                answers 0x11 0 (window1024 (signed k s.fresh (s.reportBody (word 0) (slice d.payload 4 32))) (word 9)) t))
        ∧ ChangesOnly [.fresh, .regs, .mgt] s t)
    ∧ (Completes (.mgtCert d) s fun t => (¬ long 4 → answers 0x12 1 [] t)
        ∧ (long 4 → s.sec.seed = false ∨ s.sec.certificate = [] → answers 0x12 0xC [] t)
        ∧ (long 4 → s.sec.seed = true → s.sec.certificate ≠ [] → answers 0x12 0 (window1024 s.certBytes (word 0)) t) ∧ ChangesOnly
          [.regs, .mgt] s t)
    ∧ (Completes (.mgtReset d) s fun t => (¬ long 4 → answers 0x20 1 [] t)
        ∧ (long 4 → (word 0 &&& 0x13C) ≠ word 0 → answers 0x20 3 [] t ∧ t.domains = s.domains)
        ∧ (long 4 → (word 0 &&& 0x13C) = word 0 → answers 0x20 0 [] t
            ∧ (∀ e, (t.dom e).requests = (s.dom e).requests ++ (if bitOf (word 0) e = true then [{ requester := 1 }] else [])
                ∧ t.inReset e = s.inReset e))
        ∧ ChangesOnly [.regs, .domains, .mgt] s t)
    ∧ (Completes (.mgtTest d) s fun t => (¬ long 4 → answers 0x21 1 [] t) ∧ (long 4 → word 0 ≠ 1 → answers 0x21 3 [] t ∧ t.lkt = s.lkt)
        ∧ (∀ n, long 4 → word 0 = 1 → s.testRefusal = some n → answers 0x21 0xB [] t ∧ t.lkt = s.lkt)
        ∧ (long 4 → word 0 = 1 → s.testRefusal = none → answers 0x21 0 [] t ∧ t.lkt = { s.lkt with test := true }) ∧ ChangesOnly [.regs,
          .evr, .groves, .ctxs, .pages, .seqt, .sets, .lkt, .mgt] s t)
    ∧ (Completes (.mgtUpdate d) s fun t =>
        (word 0 = 0x20 → long 12 → 1 ≤ word 1 → word 1 ≤ 4 → word 2 ≤ s.slotSize (word 1) → s.boot.staging = none →
          s.emmc.commit = .idle → s.slotSelected (word 1) (s.inactiveSlot (word 1)) = false →
          answers 0x30 0 [] t ∧ t.boot.staging = some { component := word 1, bytes := word 2 }
            ∧ t.slotBytes (word 1) (s.inactiveSlot (word 1)) = [])
        ∧ (∀ g, word 0 = 0x21 → long (12 + word 2) → s.boot.staging = some g → word 2 ≤ 1024 → word 2 % 256 = 0 →
            word 1 + word 2 ≤ g.bytes → answers 0x30 0 [] t ∧ t.slotBytes g.component (s.inactiveSlot g.component)
              = overlay (padTo 0xFF g.bytes (s.slotBytes g.component (s.inactiveSlot g.component))) (word 1) (slice d.payload 12 (word
                2)))
        ∧ (word 0 = 0x26 ∨ word 0 = 0x27 → answers 0x30 6 [] t ∧ t.emmc = s.emmc)
        ∧ (word 0 < 0x20 ∨ 0x27 < word 0 → answers 0x30 1 [] t ∧ t.emmc = s.emmc ∧ t.flash = s.flash)
        ∧ ChangesOnly [.regs, .flash, .emmc, .boot, .mgt] s t)
    ∧ (Completes (.mgtCredSet d) s fun t =>
        let fit := d.payload.length = 97 ∧ (readKey d.payload).isSome = true
        (s.sec.seed = true → s.emmc.readable = true → ¬ fit → answers 0x40 3 [] t ∧ t.emmc = s.emmc)
        ∧ (s.sec.seed = true → s.emmc.readable = true → fit → answers 0x40 0 [] t ∧ t.emmc = { s.emmc with credential := d.payload }
            ∧ t.rb Reg.SEC_EVT 4 = true)
        ∧ ChangesOnly [.regs, .evr, .emmc, .mgt] s t)
    ∧ (Completes (.mgtPlankey d) s fun t =>
        let key := d.payload.drop 4
        let fit := word 0 < 4 ∧ (key = [] ∨ (key.length = 97 ∧ (readKey key).isSome = true))
        (¬ long 4 → answers 0x41 1 [] t) ∧ (long 4 → s.sec.seed = true → s.emmc.readable = true → ¬ fit → answers 0x41 3 [] t ∧ t.emmc =
          s.emmc)
        ∧ (long 4 → s.sec.seed = true → s.emmc.readable = true → fit → answers 0x41 0 [] t ∧ t.rb Reg.SEC_EVT 4 = true
            ∧ (∀ i, i < 4 → nth [] t.emmc.planKeys i = if i = word 0 then key else nth [] s.emmc.planKeys i)
            ∧ t.emmc.credential = s.emmc.credential)
        ∧ ChangesOnly [.regs, .evr, .emmc, .mgt] s t))
end

