-- ==== Sys2Proof/Laws/Tables.lean ====
section
/-! SUPPORT. Laws of sparse tables: what a put, a removal and a map of entries leave, and that each keeps the canonical form. -/
namespace Sys2Proof

variable {α : Type}

theorem tsorted_mono {lo hi : Nat} {t : Tbl α} (h : tsorted hi t = true) (le : lo ≤ hi) : tsorted lo t = true := by
  cases t with
  | nil => rfl
  | cons e t => obtain ⟨j, v⟩ := e; simp only [tsorted, Bool.and_eq_true, decide_eq_true_eq] at h ⊢; exact ⟨by omega, h.2⟩

theorem tdel_sorted {lo : Nat} {t : Tbl α} (k : Nat) (h : tsorted lo t = true) : tsorted lo (tdel t k) = true := by
  induction t generalizing lo with
  | nil => rfl
  | cons e t ih =>
    obtain ⟨j, v⟩ := e
    simp only [tsorted, Bool.and_eq_true, decide_eq_true_eq] at h
    simp only [tdel]
    split
    · exact tsorted_mono (ih h.2) (by omega)
    · simp only [tsorted, Bool.and_eq_true, decide_eq_true_eq]; exact ⟨h.1, ih h.2⟩

theorem tput_sorted {lo : Nat} {t : Tbl α} (k : Nat) (v : α) (h : tsorted lo t = true) :
    tsorted (min lo k) (tput t k v) = true := by
  induction t generalizing lo with
  | nil => simp only [tput, tsorted, Bool.and_true, decide_eq_true_eq]; omega
  | cons e t ih =>
    obtain ⟨j, w⟩ := e
    simp only [tsorted, Bool.and_eq_true, decide_eq_true_eq] at h
    simp only [tput]
    split
    · simp only [tsorted, Bool.and_eq_true, decide_eq_true_eq]
      exact ⟨by omega, tsorted_mono (ih h.2) (by omega)⟩
    · split
      · simp only [tsorted, Bool.and_eq_true, decide_eq_true_eq]
        exact ⟨by omega, tsorted_mono h.2 (by omega)⟩
      · simp only [tsorted, Bool.and_eq_true, decide_eq_true_eq]
        exact ⟨by omega, by omega, h.2⟩

theorem tdrop_sorted {lo : Nat} {t : Tbl α} (p : Nat → Bool) (h : tsorted lo t = true) : tsorted lo (tdrop p t) = true := by
  induction t generalizing lo with
  | nil => rfl
  | cons e t ih =>
    obtain ⟨j, v⟩ := e
    simp only [tsorted, Bool.and_eq_true, decide_eq_true_eq] at h
    simp only [tdrop]
    split
    · exact tsorted_mono (ih h.2) (by omega)
    · simp only [tsorted, Bool.and_eq_true, decide_eq_true_eq]; exact ⟨h.1, ih h.2⟩

theorem tdel_noDefault [DecidableEq α] {d : Nat → α} {t : Tbl α} (k : Nat) (h : tnoDefault d t = true) :
    tnoDefault d (tdel t k) = true := by
  induction t with
  | nil => rfl
  | cons e t ih =>
    obtain ⟨j, v⟩ := e
    simp only [tnoDefault, Bool.and_eq_true] at h
    simp only [tdel]
    split
    · exact ih h.2
    · simp only [tnoDefault, Bool.and_eq_true]; exact ⟨h.1, ih h.2⟩

theorem tput_noDefault [DecidableEq α] {d : Nat → α} {t : Tbl α} (k : Nat) (v : α) (hv : v ≠ d k) (h : tnoDefault d t = true) :
    tnoDefault d (tput t k v) = true := by
  induction t with
  | nil => simp [tput, tnoDefault, hv]
  | cons e t ih =>
    obtain ⟨j, w⟩ := e
    have h' := h
    simp only [tnoDefault, Bool.and_eq_true] at h
    simp only [tput]
    split
    · simp only [tnoDefault, Bool.and_eq_true]; exact ⟨h.1, ih h.2⟩
    · split
      · simp only [tnoDefault, Bool.and_eq_true, decide_eq_true_eq]; exact ⟨hv, h.2⟩
      · rw [tnoDefault, h']; simp [hv]

theorem tdrop_noDefault [DecidableEq α] {d : Nat → α} {t : Tbl α} (p : Nat → Bool) (h : tnoDefault d t = true) :
    tnoDefault d (tdrop p t) = true := by
  induction t with
  | nil => rfl
  | cons e t ih =>
    obtain ⟨j, v⟩ := e
    simp only [tnoDefault, Bool.and_eq_true] at h
    simp only [tdrop]
    split
    · exact ih h.2
    · simp only [tnoDefault, Bool.and_eq_true]; exact ⟨h.1, ih h.2⟩

/-- A canonical put keeps the canonical form. -/
theorem tputD_canonical [DecidableEq α] {d : Nat → α} {t : Tbl α} (k : Nat) (v : α)
    (h : (tsorted 0 t && tnoDefault d t) = true) : (tsorted 0 (tputD (d k) t k v) && tnoDefault d (tputD (d k) t k v)) = true := by
  simp only [Bool.and_eq_true] at h ⊢
  unfold tputD
  split
  · exact ⟨tdel_sorted k h.1, tdel_noDefault k h.2⟩
  · rename_i hv
    exact ⟨tsorted_mono (tput_sorted k v h.1) (by omega), tput_noDefault k v hv h.2⟩

theorem tdrop_canonical [DecidableEq α] {d : Nat → α} {t : Tbl α} (p : Nat → Bool)
    (h : (tsorted 0 t && tnoDefault d t) = true) : (tsorted 0 (tdrop p t) && tnoDefault d (tdrop p t)) = true := by
  simp only [Bool.and_eq_true] at h ⊢
  exact ⟨tdrop_sorted p h.1, tdrop_noDefault p h.2⟩

/-! ### What an entry reads as after a change -/

@[simp] theorem tfind_tdel_same (t : Tbl α) (k : Nat) : tfind (tdel t k) k = none := by
  induction t with
  | nil => rfl
  | cons e t ih =>
    obtain ⟨j, v⟩ := e
    simp only [tdel]
    split
    · exact ih
    · simp only [tfind, *, if_false]

theorem tfind_tdel_other (t : Tbl α) {k j : Nat} (h : j ≠ k) : tfind (tdel t k) j = tfind t j := by
  induction t with
  | nil => rfl
  | cons e t ih =>
    obtain ⟨i, v⟩ := e
    simp only [tdel]
    split
    · subst_vars; rw [ih]; simp only [tfind]; rw [if_neg (fun e => h e.symm)]
    · simp only [tfind, ih]

theorem tfind_below {lo : Nat} {t : Tbl α} (h : tsorted lo t = true) {k : Nat} (lt : k < lo) : tfind t k = none := by
  induction t generalizing lo with
  | nil => rfl
  | cons e t ih =>
    obtain ⟨j, v⟩ := e
    simp only [tsorted, Bool.and_eq_true, decide_eq_true_eq] at h
    simp only [tfind]
    rw [if_neg (by omega)]
    exact ih h.2 (by omega)

@[simp] theorem tfind_tput_same (t : Tbl α) (k : Nat) (v : α) : tfind (tput t k v) k = some v := by
  induction t with
  | nil => simp [tput, tfind]
  | cons e t ih =>
    obtain ⟨j, w⟩ := e
    simp only [tput]
    split
    · simp only [tfind]; rw [if_neg (by omega)]; exact ih
    · split <;> simp [tfind]

theorem tfind_tput_other (t : Tbl α) {k j : Nat} (v : α) (h : j ≠ k) : tfind (tput t k v) j = tfind t j := by
  induction t with
  | nil => simp only [tput, tfind]; rw [if_neg (fun e => h e.symm)]
  | cons e t ih =>
    obtain ⟨i, w⟩ := e
    simp only [tput]
    split
    · simp only [tfind, ih]
    · split
      · subst_vars; simp only [tfind]; rw [if_neg (fun e => h e.symm), if_neg (fun e => h e.symm)]
      · simp only [tfind]; rw [if_neg (fun e => h e.symm)]

@[simp] theorem tget_tput_same (d : α) (t : Tbl α) (k : Nat) (v : α) : tget d (tput t k v) k = v := by
  induction t with
  | nil => simp [tput, tget]
  | cons e t ih =>
    obtain ⟨j, w⟩ := e
    simp only [tput]
    split
    · simp only [tget]; rw [if_neg (by omega)]; exact ih
    · split <;> simp [tget]

theorem tget_tput_other (d : α) (t : Tbl α) {k j : Nat} (v : α) (h : j ≠ k) : tget d (tput t k v) j = tget d t j := by
  induction t with
  | nil => simp only [tput, tget]; rw [if_neg (fun e => h e.symm)]
  | cons e t ih =>
    obtain ⟨i, w⟩ := e
    simp only [tput]
    split
    · simp only [tget, ih]
    · split
      · subst_vars; simp only [tget]; rw [if_neg (fun e => h e.symm), if_neg (fun e => h e.symm)]
      · simp only [tget]; rw [if_neg (fun e => h e.symm)]

theorem tmem_tput {t : Tbl α} {k : Nat} {v : α} {e : Nat × α} (h : e ∈ tput t k v) : e = (k, v) ∨ e ∈ t := by
  induction t with
  | nil => simp only [tput, List.mem_singleton] at h; exact .inl h
  | cons f t ih =>
    obtain ⟨j, w⟩ := f
    simp only [tput] at h
    split at h
    · rcases List.mem_cons.1 h with h | h
      · exact .inr (h ▸ List.mem_cons_self)
      · exact (ih h).imp id (List.mem_cons_of_mem _)
    · split at h
      · rcases List.mem_cons.1 h with h | h
        · exact .inl h
        · exact .inr (List.mem_cons_of_mem _ h)
      · rcases List.mem_cons.1 h with h | h
        · exact .inl h
        · exact .inr h

end Sys2Proof
end

