-- ==== Sys2Proof/Laws/Follows.lean ====
section
/-! SUPPORT. One state follows another when the queue is as it was and what every step keeps is kept: the relation, how it composes,
and that each operation which writes what `State.Inv` speaks of stands in it. -/
namespace Sys2Proof.Machine
open Sys2Proof

/-- `t` comes of `s`: the queue is unchanged, and what every step keeps is kept. -/
def Follows (s t : State) : Prop := t.pending = s.pending ∧ (s.Inv → t.Inv)

namespace Follows

theorem same (s : State) : Follows s s := ⟨rfl, id⟩

theorem trans {a b c : State} (h : Follows a b) (k : Follows b c) : Follows a c := ⟨k.1.trans h.1, fun x => k.2 (h.2 x)⟩

theorem ite {c : Prop} [Decidable c] {a s t : State} (h : Follows a s) (k : Follows a t) : Follows a (if c then s else t) := by
  split <;> assumption

theorem cond {a s t : State} {c : Bool} (h : Follows a s) (k : Follows a t) : Follows a (bif c then s else t) := by
  cases c <;> assumption

theorem fst {α : Type} {a s : State} {x : State × α} {b : α} (h : x = (s, b)) (k : Follows a x.1) : Follows a s := by
  subst h; exact k

theorem foldl {α : Type} {a s : State} {l : List α} {f : State → α → State} (h : Follows a s)
    (k : ∀ t e, Follows a t → Follows a (f t e)) : Follows a (l.foldl f s) := by
  induction l generalizing s with
  | nil => exact h
  | cons e l ih => exact ih (k s e h)

theorem forRange {a s : State} {n : Nat} {f : State → Nat → State} (h : Follows a s)
    (k : ∀ t e, Follows a t → Follows a (f t e)) : Follows a (forRange n s f) := foldl h k

/-- A state that differs from `e` in nothing that `State.Inv` speaks of. -/
theorem upd {a e : State} (h : Follows a e) {v1 v2 v3 v4 v5 v6 v7 v8 v9 v10 v11 v12 v13 v14 v15 v16 v17 v18 v19 v20 v21 v22 v23 v24 v25
    v26 v27 v28 v29 v30 v31 v32}
    {evr : Recorder} {ddr : Ddr} {tap : Tap} {pins : Pins}
    (h1 : evr.seq = e.evr.seq) (h2 : evr.queue.length ≤ e.evr.queue.length) (h3 : ddr.checkDirty.length ≤ e.ddr.checkDirty.length)
    (h4 : tap.drive = e.tap.drive) (h5 : pins.testEn = e.pins.testEn) :
    Follows a { pending := e.pending, timeUs := v1, fresh := v2, epoch := v3, bus := v4, regs := e.regs, staged := v5, captured := v6,
                written := v7, mem := e.mem, lost := v8, badLines := v9, cap := v10, evr := evr, domains := e.domains, groves := v11,
                ctxs := v12, plan := v13, mode := v14, tick := v15, ddr := ddr, pages := v16, tiers := v17, dma := v18, seqt := v19,
                pic := v20, mic := v21, cam := v22, sets := v23, vil := v24, pwr := v25, lkt := v26, sec := v27, flash := v28,
                emmc := v29, boot := v30, pci := v31, mgt := v32, tap := tap, pins := pins } := by
  refine ⟨h.1, fun x => ?_⟩
  obtain ⟨i1, i2, i3, i4, i5, i6, i7⟩ := h.2 x
  refine ⟨i1, i2, i3, ?_, ?_, ?_, ?_⟩
  · exact ⟨i4.1, i4.2.1, fun k => i4.2.2 (h5 ▸ k)⟩
  · exact ⟨h1 ▸ i5.1, Nat.le_trans h2 i5.2⟩
  · exact Nat.le_trans h3 i6
  · exact fun k => h4 ▸ i7 (h5 ▸ k)

/-- The same, its conditions taken together. -/
theorem keep {a e : State} (h : Follows a e) {v1 v2 v3 v4 v5 v6 v7 v8 v9 v10 v11 v12 v13 v14 v15 v16 v17 v18 v19 v20 v21 v22 v23 v24 v25
    v26 v27 v28 v29 v30 v31 v32}
    {evr : Recorder} {ddr : Ddr} {tap : Tap} {pins : Pins}
    (k : evr.seq = e.evr.seq ∧ evr.queue.length ≤ e.evr.queue.length ∧ ddr.checkDirty.length ≤ e.ddr.checkDirty.length ∧
      tap.drive = e.tap.drive ∧ pins.testEn = e.pins.testEn) :
    Follows a { pending := e.pending, timeUs := v1, fresh := v2, epoch := v3, bus := v4, regs := e.regs, staged := v5, captured := v6,
                written := v7, mem := e.mem, lost := v8, badLines := v9, cap := v10, evr := evr, domains := e.domains, groves := v11,
                ctxs := v12, plan := v13, mode := v14, tick := v15, ddr := ddr, pages := v16, tiers := v17, dma := v18, seqt := v19,
                pic := v20, mic := v21, cam := v22, sets := v23, vil := v24, pwr := v25, lkt := v26, sec := v27, flash := v28,
                emmc := v29, boot := v30, pci := v31, mgt := v32, tap := tap, pins := pins } :=
  upd h k.1 k.2.1 k.2.2.1 k.2.2.2.1 k.2.2.2.2

/-- What is known of a state that a definition names. -/
theorem use {a s : State} {P : Prop} (h : Follows a s) (k : Follows a s → P) : P := k h

end Follows

/-- Where an outcome is a next state, that state comes of `a`. -/
def Yields (a : State) (o : Host.Outcome State Fault Refusal) : Prop := ∀ t, o = .next t → Follows a t

theorem Yields.next {a s : State} (h : Follows a s) : Yields a (.next s) := by
  intro t k; cases k; exact h

end Sys2Proof.Machine
end

