-- ==== Sys2Proof/Laws/Leaves.lean ====
section
/-! SUPPORT. The operations that write what `State.Inv` speaks of: registers, memory, the recorder, domains, the balls, and the resets
of D0. Each leaves a state that follows. -/
namespace Sys2Proof.Machine
open Sys2Proof

variable {a s : State}

/-! ### Registers -/

theorem State.setReg_follows {k v : Nat} (h : Follows a s) : Follows a (s.setReg k v) := by
  refine ⟨h.1, fun x => ?_⟩
  obtain ⟨i1, i2, i3, i4, i5, i6, i7⟩ := h.2 x
  exact ⟨i1, tputD_canonical k _ i2, i3, i4, i5, i6, i7⟩

theorem State.resetBlock_follows {b : Nat} (h : Follows a s) : Follows a (s.resetBlock b) := by
  refine ⟨h.1, fun x => ?_⟩
  obtain ⟨i1, i2, i3, i4, i5, i6, i7⟩ := h.2 x
  exact ⟨i1, tdrop_canonical _ i2, i3, i4, i5, i6, i7⟩

/-! ### Memory -/

theorem putCells_wf (bs : List Byte) : ∀ (m : List Host.Cell) (p : Nat), Memory.wf m = true → Memory.wf (putCells m p bs) = true := by
  induction bs with
  | nil => intro m p h; exact h
  | cons b bs ih => intro m p h; exact ih _ _ (tputD_canonical (d := fun _ => 0) p b h)

theorem dirtyChecks_length (x n : Nat) (ds : List Nat) : (dirtyChecks x n ds).length ≤ 2048 := by
  unfold dirtyChecks; exact List.length_take_le _ _

theorem State.wrBytes_follows {p : Nat} {bs : List Byte} (h : Follows a s) : Follows a (s.wrBytes p bs) := by
  unfold State.wrBytes
  split
  · exact h
  · refine ⟨h.1, fun x => ?_⟩
    obtain ⟨i1, i2, i3, i4, i5, i6, i7⟩ := h.2 x
    refine ⟨putCells_wf _ _ _ i1, i2, i3, i4, i5, ?_, i7⟩
    show List.length (Ddr.checkDirty (if _ then _ else _)) ≤ _
    split
    · exact i6
    · exact dirtyChecks_length _ _ _

theorem State.zeroMem_follows {p n : Nat} (h : Follows a s) : Follows a (s.zeroMem p n) := by
  refine ⟨h.1, fun x => ?_⟩
  obtain ⟨i1, i2, i3, i4, i5, i6, i7⟩ := h.2 x
  exact ⟨tdrop_canonical _ i1, i2, i3, i4, i5, i6, i7⟩

theorem State.loseMem_follows {p n : Nat} (h : Follows a s) : Follows a (s.loseMem p n) := by
  refine ⟨h.1, fun x => ?_⟩
  obtain ⟨i1, i2, i3, i4, i5, i6, i7⟩ := h.2 x
  exact ⟨tdrop_canonical _ i1, i2, i3, i4, i5, i6, i7⟩

theorem restoreCells_wf (l m : List Host.Cell) (h : Memory.wf m = true) :
    Memory.wf (l.foldl (fun m c => tputD 0 m c.1 c.2) m) = true := by
  induction l generalizing m with
  | nil => exact h
  | cons c l ih => exact ih _ (tputD_canonical (d := fun _ => 0) c.1 c.2 h)

theorem State.restoreRange_follows {old : State} {lo hi : Nat} (h : Follows a s) : Follows a (s.restoreRange old lo hi) := by
  refine ⟨h.1, fun x => ?_⟩
  obtain ⟨i1, i2, i3, i4, i5, i6, i7⟩ := h.2 x
  exact ⟨restoreCells_wf _ _ (tdrop_canonical _ i1), i2, i3, i4, i5, i6, i7⟩

/-! ### Domains -/

/-- A domain as every step leaves it. -/
def Domain.legal (x : Domain) : Prop := 1 ≤ x.tag ∧ x.tag ≤ 4095

theorem tget_legal {t : Tbl Domain} (h : t.all (fun e => decide (1 ≤ e.2.tag) && decide (e.2.tag ≤ 4095)) = true) (d : Nat) :
    (tget domainDefault t d).legal := by
  induction t with
  | nil => simp [tget, domainDefault, Domain.legal]
  | cons e t ih =>
    obtain ⟨j, x⟩ := e
    simp only [List.all_cons, Bool.and_eq_true, decide_eq_true_eq] at h
    simp only [tget]
    split
    · exact h.1
    · exact ih h.2

theorem State.dom_modDom (s : State) (d e : Nat) (f : Domain → Domain) :
    (s.modDom d f).dom e = if e = d then f (s.dom d) else s.dom e := by
  unfold State.modDom State.dom tmod
  split
  · subst_vars; simp
  · rename_i h; simp [tget_tput_other _ _ _ h]

theorem State.modDom_tags {d : Nat} {f : Domain → Domain} (h : s.tagsLegal = true) (hf : ∀ x : Domain, x.legal → (f x).legal) :
    (s.modDom d f).tagsLegal = true := by
  unfold State.tagsLegal at *
  rw [List.all_eq_true]
  intro e he
  simp only [Bool.and_eq_true, decide_eq_true_eq]
  rcases tmem_tput he with rfl | he
  · exact hf _ (tget_legal h d)
  · rw [List.all_eq_true] at h
    simpa using h e he

/-- A change of a domain that keeps its tag legal and does not take it out of reset. -/
theorem State.modDom_follows {d : Nat} {f : Domain → Domain} (hf : ∀ x : Domain, x.legal → (f x).legal)
    (hr : ∀ x : Domain, (f x).inReset = x.inReset) (h : Follows a s) : Follows a (s.modDom d f) := by
  refine ⟨h.1, fun x => ?_⟩
  obtain ⟨i1, i2, i3, i4, i5, i6, i7⟩ := h.2 x
  have key : ∀ e, (s.modDom d f).inReset e = s.inReset e := by
    intro e; unfold State.inReset; rw [State.dom_modDom]; split
    · subst_vars; exact hr _
    · rfl
  refine ⟨i1, i2, State.modDom_tags i3 hf, ?_, i5, i6, i7⟩
  refine ⟨fun k e => ?_, fun k => ?_, fun k e he => ?_⟩
  · rw [key] at k ⊢; exact i4.1 k e
  · rw [key] at k; rw [key, key]; exact i4.2.1 k
  · rw [key]; exact i4.2.2 k e he

theorem State.requestReset_follows {d : Nat} {q : ResetRequest} (h : Follows a s) : Follows a (s.requestReset d q) :=
  State.modDom_follows (fun _ x => x) (fun _ => rfl) h

theorem State.setPower_follows {d n : Nat} (h : Follows a s) : Follows a (s.setPower d n) :=
  State.modDom_follows (fun _ x => x) (fun _ => rfl) h

theorem State.dropRequests_follows {d : Nat} (h : Follows a s) : Follows a (s.modDom d (fun x => { x with requests := [] })) :=
  State.modDom_follows (fun _ x => x) (fun _ => rfl) h

theorem nextTag_legal (t : Nat) : 1 ≤ nextTag t ∧ nextTag t ≤ 4095 := by
  unfold nextTag; split <;> omega

theorem State.markReset_inReset (s : State) (d e : Nat) (hd : d ≠ 0) :
    (s.markReset d).inReset e = (s.inReset e || decide (e = d) || (decide (d = 1) && (decide (e = 2) || decide (e = 3)))) := by
  unfold State.markReset
  rw [if_neg hd]
  dsimp only
  unfold State.inReset
  split
  · subst_vars
    simp only [List.foldl_cons, List.foldl_nil, State.dom_modDom]
    by_cases h3 : e = 3
    · simp [h3]
    · by_cases h2 : e = 2
      · simp [h2]
      · by_cases h1 : e = 1
        · simp [h1]
        · simp [h1, h2, h3]
  · rename_i h1
    rw [State.dom_modDom]
    by_cases he : e = d
    · simp [he]
    · simp [he, h1]

theorem State.markReset_follows {d : Nat} (h : Follows a s) : Follows a (s.markReset d) := by
  by_cases hd : d = 0
  · unfold State.markReset; rw [if_pos hd]; exact h
  · have hp : (s.markReset d).pending = s.pending := by
      unfold State.markReset; rw [if_neg hd]; dsimp only; split <;> rfl
    refine ⟨hp.trans h.1, fun x => ?_⟩
    obtain ⟨i1, i2, i3, i4, i5, i6, i7⟩ := h.2 x
    have ht : (s.markReset d).tagsLegal = true := by
      unfold State.markReset; rw [if_neg hd]; dsimp only
      have h1 := State.modDom_tags (d := d) (f := fun x => { x with tag := nextTag x.tag, inReset := true, requests := [] }) i3
        (fun x _ => nextTag_legal x.tag)
      split
      · exact State.modDom_tags (State.modDom_tags h1 (fun _ y => y)) (fun _ y => y)
      · exact h1
    have hm : (s.markReset d).mem = s.mem ∧ (s.markReset d).regs = s.regs ∧ (s.markReset d).evr = s.evr ∧ (s.markReset d).ddr = s.ddr
        ∧ (s.markReset d).tap = s.tap ∧ (s.markReset d).pins = s.pins := by
      unfold State.markReset; rw [if_neg hd]; dsimp only; split <;> exact ⟨rfl, rfl, rfl, rfl, rfl, rfl⟩
    obtain ⟨m1, m2, m3, m4, m5, m6⟩ := hm
    refine ⟨by rw [m1]; exact i1, ?_, ht, ?_, ?_, ?_, ?_⟩
    · unfold State.regsCanonical at *; rw [m2]; exact i2
    · refine ⟨fun k e => ?_, fun k => ?_, fun k e he => ?_⟩
      · rw [State.markReset_inReset _ _ _ hd] at k ⊢
        have : s.inReset 0 = true := by
          simpa [Ne.symm hd] using k
        rw [i4.1 this e]; simp
      · rw [State.markReset_inReset _ _ _ hd] at k
        rw [State.markReset_inReset _ _ _ hd, State.markReset_inReset _ _ _ hd]
        by_cases h1 : d = 1
        · simp [h1]
        · have : s.inReset 1 = true := by simpa [h1, Ne.symm h1] using k
          rw [(i4.2.1 this).1, (i4.2.1 this).2]; simp
      · rw [m6] at k
        rw [State.markReset_inReset _ _ _ hd, i4.2.2 k e he]; simp
    · unfold State.recorderBounded at *; rw [m3]; exact i5
    · unfold State.cacheBounded at *; rw [m4]; exact i6
    · unfold State.ballsOwned at *; rw [m5, m6]; exact i7

theorem State.leaveReset_follows {d : Nat} (h : Follows a s) : Follows a (s.leaveReset d) := by
  unfold State.leaveReset
  split
  · exact h
  · rename_i hg
    simp only [Bool.or_eq_true, Bool.and_eq_true, beq_iff_eq, not_or, not_and, Bool.not_eq_true] at hg
    refine ⟨h.1, fun x => ?_⟩
    obtain ⟨i1, i2, i3, i4, i5, i6, i7⟩ := h.2 x
    refine ⟨i1, i2, State.modDom_tags i3 (fun _ y => y), ?_, i5, i6, i7⟩
    have key : ∀ e, (s.modDom d (fun x => { x with inReset := false, requests := [] })).inReset e
        = (s.inReset e && !decide (e = d)) := by
      intro e; unfold State.inReset; rw [State.dom_modDom]; split <;> simp_all
    refine ⟨fun k e => ?_, fun k => ?_, fun k e he => ?_⟩
    · rw [key, hg.1.1] at k; simp at k
    · rw [key] at k
      simp only [Bool.and_eq_true, Bool.not_eq_true', decide_eq_false_iff_not] at k
      have := i4.2.1 k.1
      rw [key, key]
      have h23 : d ≠ 2 ∧ d ≠ 3 := by
        constructor <;> intro hd
        · have := hg.2 (.inl hd); rw [k.1] at this; simp at this
        · have := hg.2 (.inr hd); rw [k.1] at this; simp at this
      simp [this.1, this.2, Ne.symm h23.1, Ne.symm h23.2]
    · exact absurd k (by rw [show (s.modDom d _).pins.testEn = s.pins.testEn from rfl, hg.1.2]; simp)

/-! ### The recorder -/

theorem State.addRecord_follows {q : List Record} (hq : q.length ≤ 16) (h : Follows a s) : Follows a { s with evr.queue := q } := by
  refine ⟨h.1, fun x => ?_⟩
  obtain ⟨i1, i2, i3, i4, i5, i6, i7⟩ := h.2 x
  exact ⟨i1, i2, i3, i4, ⟨i5.1, hq⟩, i6, i7⟩

theorem State.seqRecord_follows {n : Nat} {w : Bool} (hn : n < 2 ^ 32) (h : Follows a s) :
    Follows a { s with evr.seq := n, evr.wrapped := w } := by
  refine ⟨h.1, fun x => ?_⟩
  obtain ⟨i1, i2, i3, i4, i5, i6, i7⟩ := h.2 x
  exact ⟨i1, i2, i3, i4, ⟨hn, i5.2⟩, i6, i7⟩

theorem State.storeLast_follows {r : Record} (h : Follows a s) : Follows a (s.storeLast r) := by
  unfold State.storeLast State.setRb State.setRf
  refine State.setReg_follows ?_
  refine Follows.ite (State.setReg_follows ?_) ?_ <;>
    exact Follows.upd h rfl (Nat.le_refl _) (Nat.le_refl _) rfl rfl

theorem State.setRb_follows {k n : Nat} {b : Bool} (h : Follows a s) : Follows a (s.setRb k n b) := State.setReg_follows h

theorem State.keepFirst_follows {r : Record} (h : Follows a s) : Follows a (s.keepFirst r) := by
  unfold State.keepFirst
  have h0 : Follows a ({ s with evr.first := tput s.evr.first r.seq r } : State) :=
    Follows.upd h rfl (Nat.le_refl _) (Nat.le_refl _) rfl rfl
  exact Follows.ite (Follows.ite (State.setRb_follows (State.setRb_follows (State.setRb_follows h0))) (State.setRb_follows h0)) h

theorem State.keepFirst_queue (s : State) (r : Record) : (s.keepFirst r).evr.queue = s.evr.queue ∧ (s.keepFirst r).domains = s.domains := by
  unfold State.keepFirst; dsimp only
  split
  · split <;> exact ⟨rfl, rfl⟩
  · exact ⟨rfl, rfl⟩

theorem State.nextSeq_follows (h : Follows a s) : Follows a s.nextSeq := by
  unfold State.nextSeq
  have h1 := State.setReg_follows (k := Reg.EVR_HEAD) (v := (s.evr.seq + 1) % 2 ^ 32)
    (State.seqRecord_follows (n := (s.evr.seq + 1) % 2 ^ 32) (w := s.evr.wrapped || decide (s.evr.seq + 1 = 2 ^ 32))
      (Nat.mod_lt _ (by decide)) h)
  exact Follows.ite (State.setRb_follows h1) h1

theorem State.nextSeq_queue (s : State) : s.nextSeq.evr.queue = s.evr.queue ∧ s.nextSeq.domains = s.domains := by
  unfold State.nextSeq; dsimp only
  split <;> exact ⟨rfl, rfl⟩

theorem State.storeOrQueue_follows {r : Record} (hq : s.recorderOpen = true ∨ s.evr.queue.length < 16) (h : Follows a s) :
    Follows a (s.storeOrQueue r) := by
  unfold State.storeOrQueue
  split
  · exact State.storeLast_follows h
  · rename_i ho
    have hl : s.evr.queue.length < 16 := hq.resolve_left ho
    exact State.setReg_follows (State.addRecord_follows (by rw [List.length_append]; exact hl) h)

theorem State.loseRecord_follows (h : Follows a s) : Follows a s.loseRecord :=
  State.setRb_follows (State.setReg_follows (Follows.upd h rfl (Nat.le_refl _) (Nat.le_refl _) rfl rfl))

theorem State.number_follows {r : Record} (h : Follows a s) : Follows a (s.number r) := by
  unfold State.number
  dsimp only
  split
  · exact State.loseRecord_follows h
  · rename_i hfull
    refine State.storeOrQueue_follows ?_ (State.nextSeq_follows (State.keepFirst_follows h))
    rw [(State.nextSeq_queue _).1, (State.keepFirst_queue _ _).1]
    unfold State.recorderOpen State.inReset State.dom at *
    rw [(State.nextSeq_queue _).2, (State.keepFirst_queue _ _).2]
    cases ho : !(tget domainDefault s.domains 1).inReset && decide ((tget domainDefault s.domains 1).power ≠ .off)
    · rw [ho] at hfull
      right
      simpa using hfull
    · exact .inl rfl

/-! ### The balls and the resets of D0 -/

theorem State.resetD0_pins (s : State) : s.resetD0.pins.testEn = s.pins.testEn ∧ s.resetD0.tap = s.tap := by
  unfold State.resetD0 State.closeStaging; dsimp only; split
  · refine ⟨?_, ?_⟩ <;> (unfold State.setSlot; split <;> rfl)
  · exact ⟨rfl, rfl⟩

theorem State.resetD0_pending (s : State) : s.resetD0.pending = s.pending := by
  unfold State.resetD0 State.closeStaging; dsimp only; split
  · unfold State.setSlot; split <;> rfl
  · rfl

theorem State.resetD0_follows (h : Follows a s) : Follows a s.resetD0 := by
  refine ⟨s.resetD0_pending.trans h.1, fun x => ?_⟩
  obtain ⟨i1, i2, i3, i4, i5, i6, i7⟩ := h.2 x
  refine ⟨(by decide : Memory.wf [] = true), (by decide : (tsorted 0 ([] : Tbl Word) && tnoDefault regReset []) = true),
    (by decide : [((0 : Nat), ({ inReset := false } : Domain))].all _ = true), ?_, ?_, Nat.zero_le _, ?_⟩
  · have key0 : s.resetD0.inReset 0 = false := rfl
    have key1 : s.resetD0.inReset 1 = true := rfl
    refine ⟨fun k => absurd k (by rw [key0]; decide), fun _ => ⟨rfl, rfl⟩, fun _ e he => ?_⟩
    show (tget domainDefault [(0, { inReset := false })] e).inReset = true
    simp only [tget]; rw [if_neg (by omega)]; rfl
  · exact ⟨(by decide : 0 < 2 ^ 32), Nat.zero_le _⟩
  · intro k; rw [s.resetD0_pins.1] at k; rw [s.resetD0_pins.2]; exact i7 k

theorem State.holdD0_follows (h : Follows a s) : Follows a s.holdD0 := by
  refine ⟨h.1, fun x => ?_⟩
  obtain ⟨i1, i2, i3, i4, i5, i6, i7⟩ := h.2 x
  have key : ∀ e, s.holdD0.inReset e = true := by
    intro e
    show (tget domainDefault [(0, { inReset := true })] e).inReset = true
    simp only [tget]; split <;> rfl
  exact ⟨i1, i2, (by decide : [((0 : Nat), ({ inReset := true } : Domain))].all (fun e => decide (1 ≤ e.2.tag) && decide (e.2.tag ≤ 4095)) = true), ⟨fun _ => key, fun _ => ⟨key 2, key 3⟩, fun _ e _ => key e⟩, i5, i6, i7⟩

theorem State.tapLoad_follows {i : TapInstr} (h : Follows a s) : Follows a (s.tapLoad i) := by
  refine ⟨h.1, fun x => ?_⟩
  obtain ⟨i1, i2, i3, i4, i5, i6, i7⟩ := h.2 x
  refine ⟨i1, i2, i3, i4, i5, i6, fun k => ?_⟩
  have k : s.pins.testEn = false := k
  show tapDrives (s.tapActs i) = .device
  unfold State.tapActs; rw [k]; cases i <;> rfl

theorem State.releaseD0_follows (h : Follows a s) : Follows a s.releaseD0 := by
  unfold State.releaseD0
  split
  · refine ⟨h.1, fun x => ?_⟩
    obtain ⟨i1, i2, i3, i4, i5, i6, i7⟩ := h.2 x
    have key : ∀ e, e ≠ 0 → (tget domainDefault (tput s.domains 0 { inReset := false }) e).inReset = s.inReset e := by
      intro e he; rw [tget_tput_other _ _ _ he]; rfl
    refine ⟨i1, i2, ?_, ⟨fun k => ?_, fun k => ?_, fun k e he => ?_⟩, i5, i6, i7⟩
    · unfold State.tagsLegal; rw [List.all_eq_true]; intro e he
      rcases tmem_tput he with rfl | he
      · decide
      · unfold State.tagsLegal at i3; rw [List.all_eq_true] at i3; exact i3 e he
    · exfalso; revert k; show (tget domainDefault (tput s.domains 0 { inReset := false }) 0).inReset = true → False
      rw [tget_tput_same]; decide
    · have := i4.2.1 (by rw [← key 1 (by decide)]; exact k)
      exact ⟨by rw [← this.1]; exact key 2 (by decide), by rw [← this.2]; exact key 3 (by decide)⟩
    · rw [← i4.2.2 k e he]; exact key e (by omega)
  · exact h

theorem State.reset_inv : State.reset.Inv := by
  refine ⟨by decide, by decide, by decide, ?_, ?_, ?_, ?_⟩
  · refine ⟨fun k => absurd k (by decide), fun _ => by decide, fun k => absurd k (by decide)⟩
  · exact ⟨by decide, by decide⟩
  · exact Nat.zero_le _
  · intro _; rfl

end Sys2Proof.Machine
end

