-- ==== Sys2Proof/Laws/FollowsOps.lean ====
section
/-! SUPPORT. What Machine/Ops.lean does to the queue and to what every step keeps: one lemma for each definition that gives a state. -/
namespace Sys2Proof.Machine
open Sys2Proof

theorem State.setRf_follows {s : State} {k : Nat} {lo : Nat} {w : Nat} {v : Nat} {a : State} (h : Follows a s) :
    Follows a (State.setRf s k lo w v) := by
  unfold State.setRf
  with_reducible repeat' first
    | assumption | apply State.setReg_follows

theorem State.evt_follows {s : State} {k : Nat} {n : Nat} {a : State} (h : Follows a s) :
    Follows a (State.evt s k n) := by
  unfold State.evt
  with_reducible repeat' first
    | assumption | apply State.setRb_follows | apply Follows.ite
    | refine Follows.keep ?_ ⟨rfl, Nat.le_refl _, Nat.le_refl _, rfl, rfl⟩

theorem State.put_follows {s : State} {k : Nat} {v : Nat} {a : State} (h : Follows a s) :
    Follows a (State.put s k v) := by
  unfold State.put
  with_reducible repeat' first
    | assumption | apply State.setReg_follows | apply Follows.ite
    | refine Follows.keep ?_ ⟨rfl, Nat.le_refl _, Nat.le_refl _, rfl, rfl⟩

theorem State.incReg_follows {s : State} {k : Nat} {n : Nat} {a : State} (h : Follows a s) :
    Follows a (State.incReg s k n) := by
  unfold State.incReg
  with_reducible repeat' first
    | assumption | apply State.setReg_follows

theorem State.count_follows {s : State} {k : Nat} {n : Nat} {a : State} (h : Follows a s) :
    Follows a (State.count s k n) := by
  unfold State.count
  with_reducible repeat' first
    | assumption | apply State.incReg_follows | apply Follows.ite
    | refine Follows.keep ?_ ⟨rfl, Nat.le_refl _, Nat.le_refl _, rfl, rfl⟩

theorem State.record_follows {s : State} {r : Record} {a : State} (h : Follows a s) :
    Follows a (State.record s r) := by
  unfold State.record
  with_reducible repeat' first
    | assumption | apply State.number_follows | apply State.incReg_follows | apply Follows.ite
    | refine Follows.keep ?_ ⟨rfl, Nat.le_refl _, Nat.le_refl _, rfl, rfl⟩

theorem State.report_follows {s : State} {code : Nat} {src : Nat} {args : List Nat} {ctx : Option Nat} {stream : Option Nat} {a : State} (h : Follows a s) :
    Follows a (State.report s code src args ctx stream) := by
  unfold State.report
  with_reducible repeat' first
    | assumption | apply State.record_follows

theorem State.lookout_follows {s : State} {k : Nat} {domain : Nat} {grove : Option Nat} {ctx : Option Nat} {stream : Option Nat} {a : State} (h : Follows a s) :
    Follows a (State.lookout s k domain grove ctx stream) := by
  unfold State.lookout
  with_reducible repeat' first
    | assumption | apply State.evt_follows | apply State.put_follows | apply State.count_follows | apply State.report_follows

theorem State.msixSend_follows {s : State} {v : Nat} {a : State} (h : Follows a s) :
    Follows a (State.msixSend s v) := by
  unfold State.msixSend
  with_reducible repeat' first
    | assumption | apply Follows.ite | refine Follows.keep ?_ ⟨rfl, Nat.le_refl _, Nat.le_refl _, rfl, rfl⟩

theorem State.msixSignal_follows {s : State} {v : Nat} {a : State} (h : Follows a s) :
    Follows a (State.msixSignal s v) := by
  unfold State.msixSignal
  with_reducible repeat' first
    | assumption | apply State.msixSend_follows | apply Follows.ite
    | refine Follows.keep ?_ ⟨rfl, Nat.le_refl _, Nat.le_refl _, rfl, rfl⟩

theorem State.pciEvent_follows {s : State} {n : Nat} {a : State} (h : Follows a s) :
    Follows a (State.pciEvent s n) := by
  unfold State.pciEvent
  with_reducible repeat' first
    | assumption | apply State.evt_follows | apply State.msixSignal_follows | apply Follows.ite
    | refine Follows.keep ?_ ⟨rfl, Nat.le_refl _, Nat.le_refl _, rfl, rfl⟩

theorem State.putF_follows {s : State} {k : Nat} {lo : Nat} {w : Nat} {v : Nat} {a : State} (h : Follows a s) :
    Follows a (State.putF s k lo w v) := by
  unfold State.putF
  with_reducible repeat' first
    | assumption | apply State.setRf_follows | apply Follows.ite
    | refine Follows.keep ?_ ⟨rfl, Nat.le_refl _, Nat.le_refl _, rfl, rfl⟩

theorem State.corrected_follows {s : State} {a' : Nat} {a : State} (h : Follows a s) :
    Follows a (State.corrected s a') := by
  unfold State.corrected
  with_reducible repeat' first
    | assumption | apply State.count_follows | apply State.evt_follows | apply State.report_follows | apply Follows.ite
    | refine Follows.keep ?_ ⟨rfl, Nat.le_refl _, Nat.le_refl _, rfl, rfl⟩

theorem State.tickFresh_follows {s : State} {a : State} (h : Follows a s) :
    Follows a (State.tickFresh s) := by
  unfold State.tickFresh
  with_reducible repeat' first
    | assumption | apply Follows.ite | refine Follows.keep ?_ ⟨rfl, Nat.le_refl _, Nat.le_refl _, rfl, rfl⟩

theorem State.meetErrors_follows {s : State} {a' : Nat} {symbols : Nat} {a : State} (h : Follows a s) :
    Follows a (State.meetErrors s a' symbols) := by
  unfold State.meetErrors
  with_reducible repeat' first
    | assumption | apply State.corrected_follows | apply State.tickFresh_follows | apply State.loseMem_follows
    | (intro x; refine Follows.use (a := a) (s := x) ?_ ?_; unfold x; rotate_left; try clear_value x; intro hx) | intro x | lift_lets
    | apply Follows.ite | apply Follows.foldl | apply Follows.forRange | split | dsimp only | refine Follows.fst (by assumption) ?_
    | refine Follows.keep ?_ ⟨rfl, Nat.le_refl _, Nat.le_refl _, rfl, rfl⟩

theorem State.setR64_follows {s : State} {k : Nat} {v : Nat} {a : State} (h : Follows a s) :
    Follows a (State.setR64 s k v) := by
  unfold State.setR64
  with_reducible repeat' first
    | assumption | apply State.setReg_follows

theorem State.reportOwn_follows {s : State} {group : Nat} {evtReg : Nat} {site : Nat} {ctx : Option Nat} {stream : Option Nat} {a : State} (h : Follows a s) :
    Follows a (State.reportOwn s group evtReg site ctx stream) := by
  unfold State.reportOwn
  with_reducible repeat' first
    | assumption | apply State.report_follows

theorem State.wrLE_follows {s : State} {a' : Nat} {n : Nat} {v : Nat} {a : State} (h : Follows a s) :
    Follows a (State.wrLE s a' n v) := by
  unfold State.wrLE
  with_reducible repeat' first
    | assumption | apply State.wrBytes_follows

theorem State.uncorrectable_follows {s : State} {a' : Nat} {source : Nat} {a : State} (h : Follows a s) :
    Follows a (State.uncorrectable s a' source) := by
  unfold State.uncorrectable
  with_reducible repeat' first
    | assumption | apply State.count_follows | apply State.evt_follows | apply State.putF_follows | apply State.put_follows
    | apply State.report_follows | apply Follows.ite | refine Follows.keep ?_ ⟨rfl, Nat.le_refl _, Nat.le_refl _, rfl, rfl⟩

theorem State.reportBad_follows {s : State} {a' : Nat} {n : Nat} {source : Nat} {a : State} (h : Follows a s) :
    Follows a (State.reportBad s a' n source) := by
  unfold State.reportBad
  with_reducible repeat' first
    | assumption | apply State.uncorrectable_follows | apply Follows.ite | apply Follows.foldl | apply Follows.forRange | intro

theorem State.answer_follows {s : State} {b : BusAnswer} {a : State} (h : Follows a s) :
    Follows a (State.answer s b) := by
  unfold State.answer
  with_reducible repeat' first
    | assumption | apply Follows.ite | refine Follows.keep ?_ ⟨rfl, Nat.le_refl _, Nat.le_refl _, rfl, rfl⟩

theorem State.incR64_follows {s : State} {k : Nat} {n : Nat} {a : State} (h : Follows a s) :
    Follows a (State.incR64 s k n) := by
  unfold State.incR64
  with_reducible repeat' first
    | assumption | apply State.setR64_follows

theorem State.modGrove_follows {s : State} {g : Nat} {f : Grove → Grove} {a : State} (h : Follows a s) :
    Follows a (State.modGrove s g f) := by
  unfold State.modGrove
  with_reducible repeat' first
    | assumption | apply Follows.ite | refine Follows.keep ?_ ⟨rfl, Nat.le_refl _, Nat.le_refl _, rfl, rfl⟩

end Sys2Proof.Machine
end

