-- ==== Sys2Proof/Laws/FollowsPoolOps.lean ====
section
/-! SUPPORT. What Machine/PoolOps.lean does to the queue and to what every step keeps: one lemma for each definition that gives a state. -/
namespace Sys2Proof.Machine
open Sys2Proof

theorem State.releaseFrame_follows {s : State} {f : Nat} {a : State} (h : Follows a s) :
    Follows a (State.releaseFrame s f) := by
  unfold State.releaseFrame
  with_reducible repeat' first
    | assumption | apply Follows.ite | refine Follows.keep ?_ ⟨rfl, Nat.le_refl _, Nat.le_refl _, rfl, rfl⟩

theorem State.modFrame_follows {s : State} {f : Nat} {h' : Frame → Frame} {a : State} (h : Follows a s) :
    Follows a (State.modFrame s f h') := by
  unfold State.modFrame
  with_reducible repeat' first
    | assumption | apply Follows.ite | refine Follows.keep ?_ ⟨rfl, Nat.le_refl _, Nat.le_refl _, rfl, rfl⟩

theorem State.dropFrame_follows {s : State} {f : Nat} {a : State} (h : Follows a s) :
    Follows a (State.dropFrame s f) := by
  unfold State.dropFrame
  with_reducible repeat' first
    | assumption | apply State.modFrame_follows | apply State.releaseFrame_follows | apply Follows.ite
    | refine Follows.keep ?_ ⟨rfl, Nat.le_refl _, Nat.le_refl _, rfl, rfl⟩

theorem State.modSeqGroup_follows {s : State} {g : Nat} {f : SeqGroup → SeqGroup} {a : State} (h : Follows a s) :
    Follows a (State.modSeqGroup s g f) := by
  unfold State.modSeqGroup
  with_reducible repeat' first
    | assumption | apply Follows.ite | refine Follows.keep ?_ ⟨rfl, Nat.le_refl _, Nat.le_refl _, rfl, rfl⟩

theorem State.dropList_follows {s : State} {l : Nat} {a : State} (h : Follows a s) :
    Follows a (State.dropList s l) := by
  unfold State.dropList
  with_reducible repeat' first
    | assumption | apply State.dropFrame_follows
    | (intro x; refine Follows.use (a := a) (s := x) ?_ ?_; unfold x; rotate_left; try clear_value x; intro hx) | intro x | lift_lets
    | apply Follows.ite | apply Follows.foldl | apply Follows.forRange | split | dsimp only | refine Follows.fst (by assumption) ?_
    | refine Follows.keep ?_ ⟨rfl, Nat.le_refl _, Nat.le_refl _, rfl, rfl⟩

theorem State.freeEntry_follows {s : State} {e : Nat} {a : State} (h : Follows a s) :
    Follows a (State.freeEntry s e) := by
  unfold State.freeEntry
  with_reducible repeat' first
    | assumption | apply State.dropList_follows | apply Follows.ite
    | refine Follows.keep ?_ ⟨rfl, Nat.le_refl _, Nat.le_refl _, rfl, rfl⟩

theorem State.modEntry_follows {s : State} {e : Nat} {f : SeqEntry → SeqEntry} {a : State} (h : Follows a s) :
    Follows a (State.modEntry s e f) := by
  unfold State.modEntry
  with_reducible repeat' first
    | assumption | apply Follows.ite | refine Follows.keep ?_ ⟨rfl, Nat.le_refl _, Nat.le_refl _, rfl, rfl⟩

theorem State.endStepEntry_follows {s : State} {e : Nat} {a : State} (h : Follows a s) :
    Follows a (State.endStepEntry s e) := by
  unfold State.endStepEntry
  with_reducible repeat' first
    | assumption | apply State.freeEntry_follows | apply State.modEntry_follows | apply Follows.ite
    | refine Follows.keep ?_ ⟨rfl, Nat.le_refl _, Nat.le_refl _, rfl, rfl⟩

theorem State.abandonStep_follows {s : State} {g : Nat} {a : State} (h : Follows a s) :
    Follows a (State.abandonStep s g) := by
  unfold State.abandonStep
  with_reducible repeat' first
    | assumption | apply State.modSeqGroup_follows | apply State.evt_follows | apply State.endStepEntry_follows
    | (intro x; refine Follows.use (a := a) (s := x) ?_ ?_; unfold x; rotate_left; try clear_value x; intro hx) | intro x | lift_lets
    | apply Follows.ite | apply Follows.foldl | apply Follows.forRange | split | dsimp only | refine Follows.fst (by assumption) ?_
    | refine Follows.keep ?_ ⟨rfl, Nat.le_refl _, Nat.le_refl _, rfl, rfl⟩

theorem State.loseSets_follows {s : State} {c : Nat} {a : State} (h : Follows a s) :
    Follows a (State.loseSets s c) := by
  unfold State.loseSets
  with_reducible repeat' first
    | assumption | apply Follows.ite | refine Follows.keep ?_ ⟨rfl, Nat.le_refl _, Nat.le_refl _, rfl, rfl⟩

theorem State.retireEntry_follows {s : State} {e : Nat} {a : State} (h : Follows a s) :
    Follows a (State.retireEntry s e) := by
  unfold State.retireEntry
  with_reducible repeat' first
    | assumption | apply State.modEntry_follows | apply State.freeEntry_follows | apply Follows.ite
    | refine Follows.keep ?_ ⟨rfl, Nat.le_refl _, Nat.le_refl _, rfl, rfl⟩

theorem State.modList_follows {s : State} {l : Nat} {h' : PageList → PageList} {a : State} (h : Follows a s) :
    Follows a (State.modList s l h') := by
  unfold State.modList
  with_reducible repeat' first
    | assumption | apply Follows.ite | refine Follows.keep ?_ ⟨rfl, Nat.le_refl _, Nat.le_refl _, rfl, rfl⟩

theorem State.contextLost_follows {s : State} {c : Nat} {a : State} (h : Follows a s) :
    Follows a (State.contextLost s c) := by
  unfold State.contextLost
  with_reducible repeat' first
    | assumption | apply State.loseSets_follows | apply State.abandonStep_follows | apply State.retireEntry_follows
    | (intro x; refine Follows.use (a := a) (s := x) ?_ ?_; unfold x; rotate_left; try clear_value x; intro hx) | intro x | lift_lets
    | apply Follows.ite | apply Follows.foldl | apply Follows.forRange | split | dsimp only | refine Follows.fst (by assumption) ?_
    | refine Follows.keep ?_ ⟨rfl, Nat.le_refl _, Nat.le_refl _, rfl, rfl⟩

end Sys2Proof.Machine
end

