-- ==== Sys2Proof/Laws/FollowsGrove.lean ====
section
/-! SUPPORT. What Machine/Grove.lean does to the queue and to what every step keeps: one lemma for each definition that gives a state. -/
namespace Sys2Proof.Machine
open Sys2Proof

theorem State.modCtx_follows {s : State} {c : Nat} {f : Ctx → Ctx} {a : State} (h : Follows a s) :
    Follows a (State.modCtx s c f) := by
  unfold State.modCtx
  with_reducible repeat' first
    | assumption | apply Follows.ite | refine Follows.keep ?_ ⟨rfl, Nat.le_refl _, Nat.le_refl _, rfl, rfl⟩

theorem State.faultCtx_follows {s : State} {c : Nat} {cause : Nat} {a : State} (h : Follows a s) :
    Follows a (State.faultCtx s c cause) := by
  unfold State.faultCtx
  with_reducible repeat' first
    | assumption | apply State.modCtx_follows | apply State.contextLost_follows | apply State.report_follows | apply Follows.ite
    | refine Follows.keep ?_ ⟨rfl, Nat.le_refl _, Nat.le_refl _, rfl, rfl⟩

theorem State.partialWrites_follows {s : State} {g : Nat} {ws : List (Nat × List Byte)} {a : State} (h : Follows a s) :
    Follows a (State.partialWrites s g ws) := by
  unfold State.partialWrites
  with_reducible repeat' first
    | assumption | apply State.tickFresh_follows | apply State.wrBytes_follows | apply Follows.ite | apply Follows.foldl
    | apply Follows.forRange | intro

theorem State.wrGrove_follows {s : State} {g : Nat} {ws : List (Nat × List Byte)} {a : State} (h : Follows a s) :
    Follows a (State.wrGrove s g ws) := by
  unfold State.wrGrove
  with_reducible repeat' first
    | assumption | apply State.wrBytes_follows | apply Follows.ite | apply Follows.foldl | apply Follows.forRange | intro

theorem State.partialWords_follows {s : State} {g : Nat} {ws : List (Nat × List Byte)} {a : State} (h : Follows a s) :
    Follows a (State.partialWords s g ws) := by
  unfold State.partialWords
  with_reducible repeat' first
    | assumption | apply State.tickFresh_follows | apply State.wrBytes_follows | apply Follows.ite | apply Follows.foldl
    | apply Follows.forRange | intro

theorem State.stopDrains_follows {s : State} {g : Nat} {e : Exec} {a : State} (h : Follows a s) :
    Follows a (State.stopDrains s g e) := by
  unfold State.stopDrains
  with_reducible repeat' first
    | assumption | apply State.partialWords_follows | apply State.partialWrites_follows | apply State.wrGrove_follows
    | apply State.tickFresh_follows

theorem State.stopTally_follows {s : State} {g : Nat} {ws : List (Nat × List Byte)} {a : State} (h : Follows a s) :
    Follows a (State.stopTally s g ws) := by
  unfold State.stopTally
  with_reducible repeat' first
    | assumption | apply Follows.ite | apply State.partialWords_follows | apply State.partialWrites_follows
    | apply State.wrGrove_follows | apply State.tickFresh_follows

theorem State.stopWrites_follows {s : State} {g : Nat} {e : Exec} {a : State} (h : Follows a s) :
    Follows a (State.stopWrites s g e) := by
  unfold State.stopWrites
  with_reducible repeat' first
    | assumption | apply State.stopDrains_follows | apply State.stopTally_follows | apply State.partialWrites_follows | apply State.wrGrove_follows | apply Follows.ite
    | refine Follows.keep ?_ ⟨rfl, Nat.le_refl _, Nat.le_refl _, rfl, rfl⟩

theorem State.showFault_follows {s : State} {g : Nat} {o : Owner} {op : Nat} {index : Nat} {code : Nat} {cycles : Nat} {a : State} (h : Follows a s) :
    Follows a (State.showFault s g o op index code cycles) := by
  unfold State.showFault
  with_reducible repeat' first
    | assumption | apply State.put_follows | apply State.count_follows | apply State.evt_follows | apply State.report_follows
    | apply Follows.ite | refine Follows.keep ?_ ⟨rfl, Nat.le_refl _, Nat.le_refl _, rfl, rfl⟩

theorem State.groveFault_follows {s : State} {g : Nat} {o : Owner} {op : Nat} {index : Nat} {code : Nat} {cycles : Nat} {a : State} (h : Follows a s) :
    Follows a (State.groveFault s g o op index code cycles) := by
  unfold State.groveFault
  with_reducible repeat' first
    | assumption | apply State.showFault_follows | apply State.faultCtx_follows | apply State.modGrove_follows
    | (intro x; refine Follows.use (a := a) (s := x) ?_ ?_; unfold x; rotate_left; try clear_value x; intro hx) | intro x | lift_lets
    | apply Follows.ite | apply Follows.foldl | apply Follows.forRange | split | dsimp only | refine Follows.fst (by assumption) ?_
    | refine Follows.keep ?_ ⟨rfl, Nat.le_refl _, Nat.le_refl _, rfl, rfl⟩

theorem State.issueFault_follows {s : State} {f : Fetched} {code : Nat} {a : State} (h : Follows a s) :
    Follows a (State.issueFault s f code) := by
  unfold State.issueFault
  with_reducible repeat' first
    | assumption | apply State.modGrove_follows | apply State.groveFault_follows

theorem State.accountTile_follows {s : State} {g : Nat} {e : Exec} {cycles : Nat} {a : State} (h : Follows a s) :
    Follows a (State.accountTile s g e cycles) := by
  unfold State.accountTile
  with_reducible repeat' first
    | assumption | apply State.modGrove_follows | apply State.incR64_follows | apply State.modCtx_follows
    | (intro x; refine Follows.use (a := a) (s := x) ?_ ?_; unfold x; rotate_left; try clear_value x; intro hx) | intro x | lift_lets
    | apply Follows.ite | apply Follows.foldl | apply Follows.forRange | split | dsimp only | refine Follows.fst (by assumption) ?_
    | refine Follows.keep ?_ ⟨rfl, Nat.le_refl _, Nat.le_refl _, rfl, rfl⟩

theorem State.stopCommand_follows {s : State} {g : Nat} {e : Exec} {code : Nat} {cycles : Nat} {a : State} (h : Follows a s) :
    Follows a (State.stopCommand s g e code cycles) := by
  unfold State.stopCommand
  with_reducible repeat' first
    | assumption | apply State.stopWrites_follows | apply State.accountTile_follows | apply State.groveFault_follows

theorem State.blockCtx_follows {s : State} {c : Nat} {cause : Nat} {a : State} (h : Follows a s) :
    Follows a (State.blockCtx s c cause) := by
  unfold State.blockCtx
  with_reducible repeat' first
    | assumption | apply State.modCtx_follows | apply Follows.ite
    | refine Follows.keep ?_ ⟨rfl, Nat.le_refl _, Nat.le_refl _, rfl, rfl⟩

theorem State.blockOnSkid_follows {reissue : State → Fetched → Nat → State} {s : State} {f : Fetched} {missing : List Nat} {a : State} (hreissue : ∀ t y0 y1, Follows a t → Follows a (reissue t y0 y1)) (h : Follows a s) :
    Follows a (State.blockOnSkid reissue s f missing) := by
  unfold State.blockOnSkid
  with_reducible repeat' first
    | assumption | apply State.modCtx_follows | apply State.blockCtx_follows | apply hreissue
    | (intro x; refine Follows.use (a := a) (s := x) ?_ ?_; unfold x; rotate_left; try clear_value x; intro hx) | intro x | lift_lets
    | apply Follows.ite | apply Follows.foldl | apply Follows.forRange | split | dsimp only | refine Follows.fst (by assumption) ?_
    | refine Follows.keep ?_ ⟨rfl, Nat.le_refl _, Nat.le_refl _, rfl, rfl⟩

theorem State.touchSkid_follows {s : State} {f : Fetched} {rs : List CmdRegion} {a : State} (h : Follows a s) :
    Follows a (State.touchSkid s f rs) := by
  unfold State.touchSkid
  with_reducible repeat' first
    | assumption | apply State.modGrove_follows

theorem State.beginExec_follows {s : State} {f : Fetched} {e : Exec} {a : State} (h : Follows a s) :
    Follows a (State.beginExec s f e) := by
  unfold State.beginExec
  with_reducible repeat' first
    | assumption | apply State.modGrove_follows | apply State.modCtx_follows | apply State.incR64_follows
    | (intro x; refine Follows.use (a := a) (s := x) ?_ ?_; unfold x; rotate_left; try clear_value x; intro hx) | intro x | lift_lets
    | apply Follows.ite | apply Follows.foldl | apply Follows.forRange | split | dsimp only | refine Follows.fst (by assumption) ?_
    | refine Follows.keep ?_ ⟨rfl, Nat.le_refl _, Nat.le_refl _, rfl, rfl⟩

theorem State.issue_follows {reissue : State → Fetched → Nat → State} {s : State} {f : Fetched} {k : IssueCheck} {writes : State → List (Nat × List Byte)} {drains : State → List Drain} {a : State} (hreissue : ∀ t y0 y1, Follows a t → Follows a (reissue t y0 y1)) (h : Follows a s) :
    Follows a (State.issue reissue s f k writes drains) := by
  unfold State.issue
  with_reducible repeat' first
    | assumption | apply State.issueFault_follows | apply State.blockOnSkid_follows | apply State.tickFresh_follows
    | apply State.beginExec_follows | apply State.touchSkid_follows | apply hreissue
    | (intro x; refine Follows.use (a := a) (s := x) ?_ ?_; unfold x; rotate_left; try clear_value x; intro hx) | intro x | lift_lets
    | apply Follows.ite | apply Follows.foldl | apply Follows.forRange | split | dsimp only | refine Follows.fst (by assumption) ?_
    | refine Follows.keep ?_ ⟨rfl, Nat.le_refl _, Nat.le_refl _, rfl, rfl⟩

theorem State.wakeCtx_follows {s : State} {c : Nat} {a : State} (h : Follows a s) :
    Follows a (State.wakeCtx s c) := by
  unfold State.wakeCtx
  with_reducible repeat' first
    | assumption | apply State.modCtx_follows

end Sys2Proof.Machine
end

