-- ==== Sys2Proof/Laws/FollowsTick.lean ====
section
/-! SUPPORT. What Machine/Tick.lean does to the queue and to what every step keeps: one lemma for each definition that gives a state. -/
namespace Sys2Proof.Machine
open Sys2Proof

theorem State.toggleAlive_follows {s : State} {a : State} (h : Follows a s) :
    Follows a (State.toggleAlive s) := by
  unfold State.toggleAlive
  with_reducible repeat' first
    | assumption | apply Follows.ite | refine Follows.keep ?_ ⟨rfl, Nat.le_refl _, Nat.le_refl _, rfl, rfl⟩

theorem State.countTick_follows {s : State} {a : State} (h : Follows a s) :
    Follows a (State.countTick s) := by
  unfold State.countTick
  with_reducible repeat' first
    | assumption | apply State.incR64_follows | apply State.putF_follows | apply State.toggleAlive_follows | apply Follows.ite
    | refine Follows.keep ?_ ⟨rfl, Nat.le_refl _, Nat.le_refl _, rfl, rfl⟩

theorem State.showTick_follows {s : State} {a : State} (h : Follows a s) :
    Follows a (State.showTick s) := by
  unfold State.showTick
  with_reducible repeat' first
    | assumption | apply State.putF_follows | apply State.put_follows

theorem State.unlockKept_follows {s : State} {a : State} (h : Follows a s) :
    Follows a (State.unlockKept s) := by
  unfold State.unlockKept
  with_reducible repeat' first
    | assumption | apply State.showTick_follows | apply Follows.ite
    | refine Follows.keep ?_ ⟨rfl, Nat.le_refl _, Nat.le_refl _, rfl, rfl⟩

theorem State.endLock_follows {s : State} {a : State} (h : Follows a s) :
    Follows a (State.endLock s) := by
  unfold State.endLock
  with_reducible repeat' first
    | assumption | apply State.unlockKept_follows | apply Follows.ite
    | refine Follows.keep ?_ ⟨rfl, Nat.le_refl _, Nat.le_refl _, rfl, rfl⟩

theorem State.loseLock_follows {s : State} {now : Option Nat} {a : State} (h : Follows a s) :
    Follows a (State.loseLock s now) := by
  unfold State.loseLock
  with_reducible repeat' first
    | assumption | apply State.evt_follows | apply State.endLock_follows | apply Follows.ite
    | refine Follows.keep ?_ ⟨rfl, Nat.le_refl _, Nat.le_refl _, rfl, rfl⟩

theorem State.restartAcquisition_follows {s : State} {a : State} (h : Follows a s) :
    Follows a (State.restartAcquisition s) := by
  unfold State.restartAcquisition
  with_reducible repeat' first
    | assumption | apply Follows.ite | refine Follows.keep ?_ ⟨rfl, Nat.le_refl _, Nat.le_refl _, rfl, rfl⟩

theorem State.tickTimingChange_follows {s : State} {a : State} (h : Follows a s) :
    Follows a (State.tickTimingChange s) := by
  unfold State.tickTimingChange
  with_reducible repeat' first
    | assumption | apply State.loseLock_follows | apply State.restartAcquisition_follows | apply State.put_follows
    | apply State.putF_follows | apply Follows.ite | refine Follows.keep ?_ ⟨rfl, Nat.le_refl _, Nat.le_refl _, rfl, rfl⟩

theorem State.aliveTimerToggle_follows {s : State} {a : State} (h : Follows a s) :
    Follows a (State.aliveTimerToggle s) := by
  unfold State.aliveTimerToggle
  with_reducible repeat' first
    | assumption | apply State.toggleAlive_follows | apply Follows.ite
    | refine Follows.keep ?_ ⟨rfl, Nat.le_refl _, Nat.le_refl _, rfl, rfl⟩

theorem State.startLists_follows {s : State} {g : Nat} {a : State} (h : Follows a s) :
    Follows a (State.startLists s g) := by
  unfold State.startLists
  with_reducible repeat' first
    | assumption | apply State.modGrove_follows | apply Follows.ite
    | refine Follows.keep ?_ ⟨rfl, Nat.le_refl _, Nat.le_refl _, rfl, rfl⟩

theorem State.beginTick_follows {s : State} {start : Nat} {a : State} (h : Follows a s) :
    Follows a (State.beginTick s start) := by
  unfold State.beginTick
  with_reducible repeat' first
    | assumption | apply State.evt_follows | apply State.showTick_follows | apply Follows.ite
    | refine Follows.keep ?_ ⟨rfl, Nat.le_refl _, Nat.le_refl _, rfl, rfl⟩

theorem State.measureFrame_follows {s : State} {at_ : Nat} {a : State} (h : Follows a s) :
    Follows a (State.measureFrame s at_) := by
  unfold State.measureFrame
  with_reducible repeat' first
    | assumption | apply State.put_follows
    | (intro x; refine Follows.use (a := a) (s := x) ?_ ?_; unfold x; rotate_left; try clear_value x; intro hx) | intro x | lift_lets
    | apply Follows.ite | apply Follows.foldl | apply Follows.forRange | split | dsimp only | refine Follows.fst (by assumption) ?_
    | refine Follows.keep ?_ ⟨rfl, Nat.le_refl _, Nat.le_refl _, rfl, rfl⟩

theorem State.lockedFrame_follows {s : State} {at_ : Nat} {a : State} (h : Follows a s) :
    Follows a (State.lockedFrame s at_) := by
  unfold State.lockedFrame
  with_reducible repeat' first
    | assumption | apply State.measureFrame_follows | apply State.loseLock_follows | apply Follows.ite
    | refine Follows.keep ?_ ⟨rfl, Nat.le_refl _, Nat.le_refl _, rfl, rfl⟩

theorem State.freeFrame_follows {s : State} {at_ : Nat} {a : State} (h : Follows a s) :
    Follows a (State.freeFrame s at_) := by
  unfold State.freeFrame
  with_reducible repeat' first
    | assumption | apply State.measureFrame_follows | apply State.putF_follows | apply State.evt_follows | apply Follows.ite
    | refine Follows.keep ?_ ⟨rfl, Nat.le_refl _, Nat.le_refl _, rfl, rfl⟩

theorem State.tickFrameStart_follows {s : State} {at_ : Nat} {a : State} (h : Follows a s) :
    Follows a (State.tickFrameStart s at_) := by
  unfold State.tickFrameStart
  with_reducible repeat' first
    | assumption | apply State.lockedFrame_follows | apply State.freeFrame_follows | apply Follows.ite
    | refine Follows.keep ?_ ⟨rfl, Nat.le_refl _, Nat.le_refl _, rfl, rfl⟩

theorem State.missResult_follows {s : State} {stream : Nat} {a : State} (h : Follows a s) :
    Follows a (State.missResult s stream) := by
  unfold State.missResult
  with_reducible repeat' first
    | assumption | apply State.count_follows | apply State.evt_follows | apply State.report_follows | apply Follows.ite
    | refine Follows.keep ?_ ⟨rfl, Nat.le_refl _, Nat.le_refl _, rfl, rfl⟩

theorem State.frameStartTimeout_follows {s : State} {a : State} (h : Follows a s) :
    Follows a (State.frameStartTimeout s) := by
  unfold State.frameStartTimeout
  with_reducible repeat' first
    | assumption | apply State.loseLock_follows | apply State.restartAcquisition_follows
    | (intro x; refine Follows.use (a := a) (s := x) ?_ ?_; unfold x; rotate_left; try clear_value x; intro hx) | intro x | lift_lets
    | apply Follows.ite | apply Follows.foldl | apply Follows.forRange | split | dsimp only | refine Follows.fst (by assumption) ?_
    | refine Follows.keep ?_ ⟨rfl, Nat.le_refl _, Nat.le_refl _, rfl, rfl⟩

theorem State.boundaryLists_follows {s : State} {a : State} (h : Follows a s) :
    Follows a (State.boundaryLists s) := by
  unfold State.boundaryLists
  with_reducible repeat' first
    | assumption | apply State.missResult_follows | apply State.modGrove_follows | apply State.put_follows
    | apply State.startLists_follows
    | (intro x; refine Follows.use (a := a) (s := x) ?_ ?_; unfold x; rotate_left; try clear_value x; intro hx) | intro x | lift_lets
    | apply Follows.ite | apply Follows.foldl | apply Follows.forRange | split | dsimp only | refine Follows.fst (by assumption) ?_
    | refine Follows.keep ?_ ⟨rfl, Nat.le_refl _, Nat.le_refl _, rfl, rfl⟩

end Sys2Proof.Machine
end

