-- ==== Sys2Proof/Laws/FollowsAccess.lean ====
section
/-! SUPPORT. What Machine/Access.lean does to the queue and to what every step keeps: one lemma for each definition that gives a state. -/
namespace Sys2Proof.Machine
open Sys2Proof

theorem State.denyRk_follows {s : State} {init : Initiator} {k : Nat} {a : State} (h : Follows a s) :
    Follows a (State.denyRk s init k) := by
  unfold State.denyRk
  with_reducible repeat' first
    | assumption | apply State.count_follows | apply State.evt_follows | apply State.answer_follows | apply State.report_follows

theorem State.storeReg_follows {s : State} {kernel : Bool} {k : Nat} {v : Nat} {a : State} (h : Follows a s) :
    Follows a (State.storeReg s kernel k v) := by
  unfold State.storeReg
  with_reducible repeat' first
    | assumption | apply State.setReg_follows | apply Follows.ite
    | refine Follows.keep ?_ ⟨rfl, Nat.le_refl _, Nat.le_refl _, rfl, rfl⟩

theorem State.storePair_follows {s : State} {kernel : Bool} {k : Nat} {v : Nat} {a : State} (h : Follows a s) :
    Follows a (State.storePair s kernel k v) := by
  unfold State.storePair
  with_reducible repeat' first
    | assumption | apply State.storeReg_follows
    | (intro x; refine Follows.use (a := a) (s := x) ?_ ?_; unfold x; rotate_left; try clear_value x; intro hx) | intro x | lift_lets
    | apply Follows.ite | apply Follows.foldl | apply Follows.forRange | split | dsimp only | refine Follows.fst (by assumption) ?_
    | refine Follows.keep ?_ ⟨rfl, Nat.le_refl _, Nat.le_refl _, rfl, rfl⟩

theorem State.hold_follows {s : State} {init : Initiator} {kind : AccessKind} {addr : Nat} {size : Nat} {value : Nat} {a : State} (h : Follows a s) :
    Follows a (State.hold s init kind addr size value) := by
  unfold State.hold
  with_reducible repeat' first
    | assumption | apply Follows.ite | refine Follows.keep ?_ ⟨rfl, Nat.le_refl _, Nat.le_refl _, rfl, rfl⟩

theorem State.memAccess_follows {s : State} {init : Initiator} {kind : AccessKind} {addr : Nat} {size : Nat} {value : Nat} {symbols : Nat} {a : State} (h : Follows a s) :
    Follows a (State.memAccess s init kind addr size value symbols) := by
  unfold State.memAccess
  with_reducible repeat' first
    | assumption | apply State.answer_follows | apply State.tickFresh_follows | apply State.meetErrors_follows
    | apply State.reportBad_follows | apply State.wrLE_follows
    | (intro x; refine Follows.use (a := a) (s := x) ?_ ?_; unfold x; rotate_left; try clear_value x; intro hx) | intro x | lift_lets
    | apply Follows.ite | apply Follows.foldl | apply Follows.forRange | split | dsimp only | refine Follows.fst (by assumption) ?_
    | refine Follows.keep ?_ ⟨rfl, Nat.le_refl _, Nat.le_refl _, rfl, rfl⟩

theorem State.capChange_follows {s : State} {f : Tbl Word → Tbl Word} {a : State} (h : Follows a s) :
    Follows a (State.capChange s f) := by
  unfold State.capChange
  with_reducible repeat' first
    | assumption | apply Follows.ite | refine Follows.keep ?_ ⟨rfl, Nat.le_refl _, Nat.le_refl _, rfl, rfl⟩

theorem State.denyAccess_follows {s : State} {init : Initiator} {addr : Nat} {write : Bool} {a : State} (h : Follows a s) :
    Follows a (State.denyAccess s init addr write) := by
  unfold State.denyAccess
  with_reducible repeat' first
    | assumption | apply State.count_follows | apply State.evt_follows | apply State.report_follows | apply State.answer_follows
    | apply Follows.ite | refine Follows.keep ?_ ⟨rfl, Nat.le_refl _, Nat.le_refl _, rfl, rfl⟩

theorem State.viaWrite_follows {s : State} {init : Initiator} {k : Nat} {rk : Bool} {eff : State → State} {a : State} (h : Follows a s) (heff : ∀ t, Follows a t → Follows a (eff t)) :
    Follows a (State.viaWrite s init k rk eff) := by
  unfold State.viaWrite
  with_reducible repeat' first
    | assumption | apply State.denyRk_follows | apply State.answer_follows | apply State.denyAccess_follows | apply heff
    | (intro x; refine Follows.use (a := a) (s := x) ?_ ?_; unfold x; rotate_left; try clear_value x; intro hx) | intro x | lift_lets
    | apply Follows.ite | apply Follows.foldl | apply Follows.forRange | split | dsimp only | refine Follows.fst (by assumption) ?_
    | refine Follows.keep ?_ ⟨rfl, Nat.le_refl _, Nat.le_refl _, rfl, rfl⟩

theorem State.readPair_follows {s : State} {k : Nat} {v : Nat} {hi : Nat} {a : State} (h : Follows a s) :
    Follows a (State.readPair s k v hi).1 := by
  unfold State.readPair
  with_reducible repeat' first
    | assumption | (intro x; refine Follows.use (a := a) (s := x) ?_ ?_; unfold x; rotate_left; try clear_value x; intro hx)
    | intro x | lift_lets | apply Follows.ite | apply Follows.foldl | apply Follows.forRange | split | dsimp only
    | refine Follows.fst (by assumption) ?_ | refine Follows.keep ?_ ⟨rfl, Nat.le_refl _, Nat.le_refl _, rfl, rfl⟩

end Sys2Proof.Machine
end

