-- ==== Sys2Proof/Laws/FollowsTiles.lean ====
section
/-! SUPPORT. What Machine/Tiles.lean does to the queue and to what every step keeps: one lemma for each definition that gives a state. -/
namespace Sys2Proof.Machine
open Sys2Proof

theorem State.countBytes_follows {s : State} {payload : Nat} {stored : Nat} {a : State} (h : Follows a s) :
    Follows a (State.countBytes s payload stored) := by
  unfold State.countBytes
  with_reducible repeat' first
    | assumption | apply State.incR64_follows | apply Follows.ite
    | refine Follows.keep ?_ ⟨rfl, Nat.le_refl _, Nat.le_refl _, rfl, rfl⟩

theorem Follows.done {a : State} {r : OpResult} (h : Follows a r.state) : Follows a (ObjOutcome.done r).state := h

theorem Follows.waits {a s : State} (h : Follows a s) : Follows a (ObjOutcome.wait s).state := h

theorem State.modObj_follows {s : State} {k : Nat} {f : Obj → Obj} {a : State} (h : Follows a s) :
    Follows a (State.modObj s k f) := by
  unfold State.modObj
  with_reducible repeat' first
    | assumption | apply Follows.ite | refine Follows.keep ?_ ⟨rfl, Nat.le_refl _, Nat.le_refl _, rfl, rfl⟩

theorem State.putTile_follows {s : State} {l : TileLoc} {t : StoredTile} {a : State} (h : Follows a s) :
    Follows a (State.putTile s l t) := by
  unfold State.putTile
  with_reducible repeat' first
    | assumption | apply State.modObj_follows
    | (intro x; refine Follows.use (a := a) (s := x) ?_ ?_; unfold x; rotate_left; try clear_value x; intro hx) | intro x | lift_lets
    | apply Follows.ite | apply Follows.foldl | apply Follows.forRange | split | dsimp only | refine Follows.fst (by assumption) ?_
    | refine Follows.keep ?_ ⟨rfl, Nat.le_refl _, Nat.le_refl _, rfl, rfl⟩

theorem State.writeTile_follows {s : State} {l : TileLoc} {p : List Byte} {a : State} (h : Follows a s) :
    Follows a (State.writeTile s l p).1 := by
  unfold State.writeTile
  with_reducible repeat' first
    | assumption | apply State.countBytes_follows | apply State.putTile_follows
    | (intro x; refine Follows.use (a := a) (s := x) ?_ ?_; unfold x; rotate_left; try clear_value x; intro hx) | intro x | lift_lets
    | apply Follows.ite | apply Follows.foldl | apply Follows.forRange | split | dsimp only | refine Follows.fst (by assumption) ?_
    | refine Follows.keep ?_ ⟨rfl, Nat.le_refl _, Nat.le_refl _, rfl, rfl⟩

theorem State.meetTileErrors_follows {s : State} {l : TileLoc} {symbols : Nat} {a : State} (h : Follows a s) :
    Follows a (State.meetTileErrors s l symbols) := by
  unfold State.meetTileErrors
  with_reducible repeat' first
    | assumption | apply State.corrected_follows | apply State.putTile_follows | apply State.tickFresh_follows
    | (intro x; refine Follows.use (a := a) (s := x) ?_ ?_; unfold x; rotate_left; try clear_value x; intro hx) | intro x | lift_lets
    | apply Follows.ite | apply Follows.foldl | apply Follows.forRange | split | dsimp only | refine Follows.fst (by assumption) ?_
    | refine Follows.keep ?_ ⟨rfl, Nat.le_refl _, Nat.le_refl _, rfl, rfl⟩

theorem State.readTile_follows {s : State} {l : TileLoc} {symbols : Nat} {a : State} (h : Follows a s) :
    Follows a (State.readTile s l symbols).1 := by
  unfold State.readTile
  with_reducible repeat' first
    | assumption | apply State.meetTileErrors_follows | apply State.countBytes_follows | apply State.uncorrectable_follows
    | (intro x; refine Follows.use (a := a) (s := x) ?_ ?_; unfold x; rotate_left; try clear_value x; intro hx) | intro x | lift_lets
    | apply Follows.ite | apply Follows.foldl | apply Follows.forRange | split | dsimp only | refine Follows.fst (by assumption) ?_
    | refine Follows.keep ?_ ⟨rfl, Nat.le_refl _, Nat.le_refl _, rfl, rfl⟩

theorem State.mergeTile_follows {s : State} {l : TileLoc} {o : Nat} {bs : List Byte} {symbols : Nat} {a : State} (h : Follows a s) :
    Follows a (State.mergeTile s l o bs symbols).1 := by
  unfold State.mergeTile
  with_reducible repeat' first
    | assumption | apply State.writeTile_follows | apply State.readTile_follows
    | (intro x; refine Follows.use (a := a) (s := x) ?_ ?_; unfold x; rotate_left; try clear_value x; intro hx) | intro x | lift_lets
    | apply Follows.ite | apply Follows.foldl | apply Follows.forRange | split | dsimp only | refine Follows.fst (by assumption) ?_
    | refine Follows.keep ?_ ⟨rfl, Nat.le_refl _, Nat.le_refl _, rfl, rfl⟩

end Sys2Proof.Machine
end

