-- ==== Sys2Proof/Laws/FollowsPages.lean ====
section
/-! SUPPORT. What Machine/Pages.lean does to the queue and to what every step keeps: one lemma for each definition that gives a state. -/
namespace Sys2Proof.Machine
open Sys2Proof

theorem opFail_follows {s : State} {err : Nat} {a : State} (h : Follows a s) :
    Follows a (opFail s err).state := by
  unfold opFail
  with_reducible repeat' first
    | assumption

theorem opOk_follows {s : State} {result : Nat} {a : State} (h : Follows a s) :
    Follows a (opOk s result).state := by
  unfold opOk
  with_reducible repeat' first
    | assumption

theorem State.listNew_follows {s : State} {owner : Nat} {capacity : Nat} {a : State} (h : Follows a s) :
    Follows a (State.listNew s owner capacity).state := by
  unfold State.listNew
  with_reducible repeat' first
    | assumption | apply opFail_follows | apply opOk_follows
    | (intro x; refine Follows.use (a := a) (s := x) ?_ ?_; unfold x; rotate_left; try clear_value x; intro hx) | intro x | lift_lets
    | apply Follows.ite | apply Follows.foldl | apply Follows.forRange | split | dsimp only | refine Follows.fst (by assumption) ?_
    | refine Follows.keep ?_ ⟨rfl, Nat.le_refl _, Nat.le_refl _, rfl, rfl⟩

theorem State.listFree_follows {s : State} {l : Nat} {a : State} (h : Follows a s) :
    Follows a (State.listFree s l).state := by
  unfold State.listFree
  with_reducible repeat' first
    | assumption | apply opFail_follows | apply opOk_follows | apply State.dropList_follows
    | (intro x; refine Follows.use (a := a) (s := x) ?_ ?_; unfold x; rotate_left; try clear_value x; intro hx) | intro x | lift_lets
    | apply Follows.ite | apply Follows.foldl | apply Follows.forRange | split | dsimp only | refine Follows.fst (by assumption) ?_
    | refine Follows.keep ?_ ⟨rfl, Nat.le_refl _, Nat.le_refl _, rfl, rfl⟩

theorem State.takeFrame_follows {s : State} {o : Nat} {a : State} (h : Follows a s) :
    Follows a (State.takeFrame s o).1 := by
  unfold State.takeFrame
  with_reducible repeat' first
    | assumption | apply State.tickFresh_follows | apply Follows.ite
    | refine Follows.keep ?_ ⟨rfl, Nat.le_refl _, Nat.le_refl _, rfl, rfl⟩

theorem State.takeFrames_follows {s : State} {o : Nat} {x2 : Nat} {a : State} (h : Follows a s) :
    Follows a (State.takeFrames s o x2).1 := by
  fun_induction State.takeFrames s o x2
  all_goals with_reducible repeat' first
    | assumption | apply State.takeFrame_follows | apply_assumption -exfalso -symm
    | (intro x; refine Follows.use (a := a) (s := x) ?_ ?_; unfold x; rotate_left; try clear_value x; intro hx) | intro x | lift_lets
    | apply Follows.ite | apply Follows.foldl | apply Follows.forRange | split | dsimp only | refine Follows.fst (by assumption) ?_
    | refine Follows.keep ?_ ⟨rfl, Nat.le_refl _, Nat.le_refl _, rfl, rfl⟩

theorem State.listAppend_follows {s : State} {l : Nat} {n : Nat} {a : State} (h : Follows a s) :
    Follows a (State.listAppend s l n).state := by
  unfold State.listAppend
  with_reducible repeat' first
    | assumption | apply opFail_follows | apply State.takeFrames_follows | apply opOk_follows | apply State.modList_follows
    | (intro x; refine Follows.use (a := a) (s := x) ?_ ?_; unfold x; rotate_left; try clear_value x; intro hx) | intro x | lift_lets
    | apply Follows.ite | apply Follows.foldl | apply Follows.forRange | split | dsimp only | refine Follows.fst (by assumption) ?_
    | refine Follows.keep ?_ ⟨rfl, Nat.le_refl _, Nat.le_refl _, rfl, rfl⟩

theorem State.listTruncate_follows {s : State} {l : Nat} {n : Nat} {a : State} (h : Follows a s) :
    Follows a (State.listTruncate s l n).state := by
  unfold State.listTruncate
  with_reducible repeat' first
    | assumption | apply opFail_follows | apply State.modList_follows | apply opOk_follows | apply State.dropFrame_follows
    | (intro x; refine Follows.use (a := a) (s := x) ?_ ?_; unfold x; rotate_left; try clear_value x; intro hx) | intro x | lift_lets
    | apply Follows.ite | apply Follows.foldl | apply Follows.forRange | split | dsimp only | refine Follows.fst (by assumption) ?_
    | refine Follows.keep ?_ ⟨rfl, Nat.le_refl _, Nat.le_refl _, rfl, rfl⟩

theorem State.listFork_follows {s : State} {l : Nat} {src : Nat} {n : Nat} {a : State} (h : Follows a s) :
    Follows a (State.listFork s l src n).state := by
  unfold State.listFork
  with_reducible repeat' first
    | assumption | apply opFail_follows | apply State.modFrame_follows | apply opOk_follows | apply State.modList_follows
    | (intro x; refine Follows.use (a := a) (s := x) ?_ ?_; unfold x; rotate_left; try clear_value x; intro hx) | intro x | lift_lets
    | apply Follows.ite | apply Follows.foldl | apply Follows.forRange | split | dsimp only | refine Follows.fst (by assumption) ?_
    | refine Follows.keep ?_ ⟨rfl, Nat.le_refl _, Nat.le_refl _, rfl, rfl⟩

theorem State.listPublish_follows {s : State} {l : Nat} {a : State} (h : Follows a s) :
    Follows a (State.listPublish s l).state := by
  unfold State.listPublish
  with_reducible repeat' first
    | assumption | apply opFail_follows | apply State.modFrame_follows | apply opOk_follows | apply State.modList_follows
    | (intro x; refine Follows.use (a := a) (s := x) ?_ ?_; unfold x; rotate_left; try clear_value x; intro hx) | intro x | lift_lets
    | apply Follows.ite | apply Follows.foldl | apply Follows.forRange | split | dsimp only | refine Follows.fst (by assumption) ?_
    | refine Follows.keep ?_ ⟨rfl, Nat.le_refl _, Nat.le_refl _, rfl, rfl⟩

theorem State.listOp_follows {s : State} {op : Nat} {l : Nat} {arg0 : Nat} {arg1 : Nat} {a : State} (h : Follows a s) :
    Follows a (State.listOp s op l arg0 arg1).state := by
  unfold State.listOp
  with_reducible repeat' first
    | assumption | apply opFail_follows | apply State.listNew_follows | apply State.listFree_follows | apply State.listAppend_follows
    | apply State.listTruncate_follows | apply State.listFork_follows | apply State.listPublish_follows | apply opOk_follows
    | (intro x; refine Follows.use (a := a) (s := x) ?_ ?_; unfold x; rotate_left; try clear_value x; intro hx) | intro x | lift_lets
    | apply Follows.ite | apply Follows.foldl | apply Follows.forRange | split | dsimp only | refine Follows.fst (by assumption) ?_
    | refine Follows.keep ?_ ⟨rfl, Nat.le_refl _, Nat.le_refl _, rfl, rfl⟩

theorem State.showPageOp_follows {op : Nat} {r : OpResult} {a : State} (h : Follows a r.state) :
    Follows a (State.showPageOp op r) := by
  unfold State.showPageOp
  with_reducible repeat' first
    | assumption | apply State.put_follows | apply State.evt_follows | apply Follows.ite
    | refine Follows.keep ?_ ⟨rfl, Nat.le_refl _, Nat.le_refl _, rfl, rfl⟩

theorem State.pageOp_follows {s : State} {v : Nat} {a : State} (h : Follows a s) :
    Follows a (State.pageOp s v) := by
  unfold State.pageOp
  with_reducible repeat' first
    | assumption | apply State.storeReg_follows | apply State.showPageOp_follows | apply State.listOp_follows

theorem State.pageRow_follows {s : State} {init : Initiator} {op : Nat} {v : Word} {a : State} (h : Follows a s) :
    Follows a (State.pageRow s init op v) := by
  unfold State.pageRow
  with_reducible repeat' first
    | assumption | apply State.viaWrite_follows | apply State.pageOp_follows | apply Follows.ite | apply Follows.foldl
    | apply Follows.forRange | intro

theorem execListPublish_follows {init : Initiator} {value : Word} {s : State} {a : State} (h : Follows a s) :
    Yields a (execListPublish init value s) := by
  unfold execListPublish
  with_reducible repeat' first
    | apply Yields.next | assumption | apply State.pageRow_follows

theorem execListFree_follows {init : Initiator} {value : Word} {s : State} {a : State} (h : Follows a s) :
    Yields a (execListFree init value s) := by
  unfold execListFree
  with_reducible repeat' first
    | apply Yields.next | assumption | apply State.pageRow_follows

theorem execPoolAudit_follows {init : Initiator} {value : Word} {s : State} {a : State} (h : Follows a s) :
    Yields a (execPoolAudit init value s) := by
  unfold execPoolAudit
  with_reducible repeat' first
    | apply Yields.next | assumption | apply State.pageRow_follows

theorem execListTruncate_follows {init : Initiator} {value : Word} {s : State} {a : State} (h : Follows a s) :
    Yields a (execListTruncate init value s) := by
  unfold execListTruncate
  with_reducible repeat' first
    | apply Yields.next | assumption | apply State.pageRow_follows

theorem execListFork_follows {init : Initiator} {value : Word} {s : State} {a : State} (h : Follows a s) :
    Yields a (execListFork init value s) := by
  unfold execListFork
  with_reducible repeat' first
    | apply Yields.next | assumption | apply State.pageRow_follows

theorem execListAppend_follows {init : Initiator} {value : Word} {s : State} {a : State} (h : Follows a s) :
    Yields a (execListAppend init value s) := by
  unfold execListAppend
  with_reducible repeat' first
    | apply Yields.next | assumption | apply State.pageRow_follows

theorem execListNew_follows {init : Initiator} {value : Word} {s : State} {a : State} (h : Follows a s) :
    Yields a (execListNew init value s) := by
  unfold execListNew
  with_reducible repeat' first
    | apply Yields.next | assumption | apply State.pageRow_follows

theorem execFrameDrainEnd_follows {frame : Nat} {s : State} {a : State} (h : Follows a s) :
    Yields a (execFrameDrainEnd frame s) := by
  unfold execFrameDrainEnd
  with_reducible repeat' first
    | apply Yields.next | assumption | apply State.releaseFrame_follows | apply Follows.ite
    | refine Follows.keep ?_ ⟨rfl, Nat.le_refl _, Nat.le_refl _, rfl, rfl⟩

end Sys2Proof.Machine
end

