-- ==== Sys2Proof/Laws/FollowsDmaDesc.lean ====
section
/-! SUPPORT. What Machine/DmaDesc.lean does to the queue and to what every step keeps: one lemma for each definition that gives a state. -/
namespace Sys2Proof.Machine
open Sys2Proof

theorem State.checkWait_follows {s : State} {c : Nat} {a : State} (h : Follows a s) :
    Follows a (State.checkWait s c) := by
  unfold State.checkWait
  with_reducible repeat' first
    | assumption | apply State.wakeCtx_follows | apply Follows.ite
    | refine Follows.keep ?_ ⟨rfl, Nat.le_refl _, Nat.le_refl _, rfl, rfl⟩

theorem State.wakeOnGrove_follows {s : State} {g : Nat} {a : State} (h : Follows a s) :
    Follows a (State.wakeOnGrove s g) := by
  unfold State.wakeOnGrove
  with_reducible repeat' first
    | assumption | apply State.checkWait_follows | apply State.modCtx_follows
    | (intro x; refine Follows.use (a := a) (s := x) ?_ ?_; unfold x; rotate_left; try clear_value x; intro hx) | intro x | lift_lets
    | apply Follows.ite | apply Follows.foldl | apply Follows.forRange | split | dsimp only | refine Follows.fst (by assumption) ?_
    | refine Follows.keep ?_ ⟨rfl, Nat.le_refl _, Nat.le_refl _, rfl, rfl⟩

theorem State.blockFor_follows {s : State} {c : Nat} {mask : Nat} {a : State} (h : Follows a s) :
    Follows a (State.blockFor s c mask) := by
  unfold State.blockFor
  with_reducible repeat' first
    | assumption | apply State.modCtx_follows | apply State.blockCtx_follows

theorem State.modXfer_follows {s : State} {t : Nat} {f : Transfer → Transfer} {a : State} (h : Follows a s) :
    Follows a (State.modXfer s t f) := by
  unfold State.modXfer
  with_reducible repeat' first
    | assumption | apply Follows.ite | refine Follows.keep ?_ ⟨rfl, Nat.le_refl _, Nat.le_refl _, rfl, rfl⟩

end Sys2Proof.Machine
end

