-- ==== Sys2Proof/Laws/FollowsObjects.lean ====
section
/-! SUPPORT. What Machine/Objects.lean does to the queue and to what every step keeps: one lemma for each definition that gives a state. -/
namespace Sys2Proof.Machine
open Sys2Proof

theorem State.revokeObject_follows {s : State} {k : Nat} {a : State} (h : Follows a s) :
    Follows a (State.revokeObject s k) := by
  unfold State.revokeObject
  with_reducible repeat' first
    | assumption | apply State.setReg_follows
    | (intro x; refine Follows.use (a := a) (s := x) ?_ ?_; unfold x; rotate_left; try clear_value x; intro hx) | intro x | lift_lets
    | apply Follows.ite | apply Follows.foldl | apply Follows.forRange | split | dsimp only | refine Follows.fst (by assumption) ?_
    | refine Follows.keep ?_ ⟨rfl, Nat.le_refl _, Nat.le_refl _, rfl, rfl⟩

theorem State.startMove_follows {s : State} {k : Nat} {p : Nat} {a : State} (h : Follows a s) :
    Follows a (State.startMove s k p) := by
  unfold State.startMove
  with_reducible repeat' first
    | assumption | apply State.modObj_follows

theorem State.makeObj_follows {s : State} {k : Nat} {o : Obj} {tiles : Nat} {a : State} (h : Follows a s) :
    Follows a (State.makeObj s k o tiles) := by
  unfold State.makeObj
  with_reducible repeat' first
    | assumption | apply State.zeroMem_follows | apply Follows.ite
    | refine Follows.keep ?_ ⟨rfl, Nat.le_refl _, Nat.le_refl _, rfl, rfl⟩

theorem State.evictCopy_follows {s : State} {k : Nat} {a : State} (h : Follows a s) :
    Follows a (State.evictCopy s k) := by
  unfold State.evictCopy
  with_reducible repeat' first
    | assumption | apply State.countBytes_follows | apply State.modObj_follows | apply State.count_follows | apply State.evt_follows
    | apply State.report_follows

theorem State.makeRoom_follows {o n : Nat} {within : Bool} {fuel : Nat} {s a : State} (h : Follows a s) :
    (∀ t, State.makeRoom o n within fuel s = .ok t → Follows a t) ∧ (∀ t, State.makeRoom o n within fuel s = .wait t → Follows a t) := by
  fun_induction State.makeRoom o n within fuel s with
  | case1 => exact ⟨fun t k => (by cases k; exact h), fun t k => (by cases k)⟩
  | case2 => exact ⟨fun t k => (by cases k), fun t k => (by cases k; exact h)⟩
  | case3 => exact ⟨fun t k => (by cases k), fun t k => (by cases k)⟩
  | case4 => exact ⟨fun t k => (by cases k), fun t k => (by cases k)⟩
  | case5 => rename_i ih; exact ih (State.evictCopy_follows h)

theorem State.room_ok {s t a : State} {o n : Nat} (h : Follows a s) (e : s.room o n = .ok t) : Follows a t :=
  (State.makeRoom_follows h).1 t e

theorem State.room_wait {s t a : State} {o n : Nat} (h : Follows a s) (e : s.room o n = .wait t) : Follows a t :=
  (State.makeRoom_follows h).2 t e

theorem State.objNew_follows {s : State} {arg0 : Nat} {tiles : Nat} {a : State} (h : Follows a s) :
    Follows a (State.objNew s arg0 tiles).state := by
  unfold State.objNew
  with_reducible repeat' first
    | assumption | apply Follows.done | apply Follows.waits | exact State.room_ok h (by assumption)
    | exact State.room_wait h (by assumption) | apply opFail_follows | apply opOk_follows | apply State.makeObj_follows
    | (intro x; refine Follows.use (a := a) (s := x) ?_ ?_; unfold x; rotate_left; try clear_value x; intro hx) | intro x | lift_lets
    | apply Follows.ite | apply Follows.foldl | apply Follows.forRange | split | dsimp only | refine Follows.fst (by assumption) ?_
    | refine Follows.keep ?_ ⟨rfl, Nat.le_refl _, Nat.le_refl _, rfl, rfl⟩

theorem State.objFree_follows {s : State} {k : Nat} {a : State} (h : Follows a s) :
    Follows a (State.objFree s k).state := by
  unfold State.objFree
  with_reducible repeat' first
    | assumption | apply Follows.done | apply Follows.waits | apply opFail_follows | apply State.revokeObject_follows
    | apply opOk_follows | apply State.modObj_follows
    | (intro x; refine Follows.use (a := a) (s := x) ?_ ?_; unfold x; rotate_left; try clear_value x; intro hx) | intro x | lift_lets
    | apply Follows.ite | apply Follows.foldl | apply Follows.forRange | split | dsimp only | refine Follows.fst (by assumption) ?_
    | refine Follows.keep ?_ ⟨rfl, Nat.le_refl _, Nat.le_refl _, rfl, rfl⟩

theorem State.objPlace_follows {s : State} {k : Nat} {arg0 : Nat} {a : State} (h : Follows a s) :
    Follows a (State.objPlace s k arg0).state := by
  unfold State.objPlace
  with_reducible repeat' first
    | assumption | apply Follows.done | apply Follows.waits | exact State.room_ok h (by assumption)
    | exact State.room_wait h (by assumption) | apply opFail_follows | apply opOk_follows | apply State.startMove_follows
    | (intro x; refine Follows.use (a := a) (s := x) ?_ ?_; unfold x; rotate_left; try clear_value x; intro hx) | intro x | lift_lets
    | apply Follows.ite | apply Follows.foldl | apply Follows.forRange | split | dsimp only | refine Follows.fst (by assumption) ?_
    | refine Follows.keep ?_ ⟨rfl, Nat.le_refl _, Nat.le_refl _, rfl, rfl⟩

theorem State.objFlush_follows {s : State} {k : Nat} {a : State} (h : Follows a s) :
    Follows a (State.objFlush s k).state := by
  unfold State.objFlush
  with_reducible repeat' first
    | assumption | apply Follows.done | apply Follows.waits | apply opFail_follows | apply opOk_follows | apply State.modObj_follows
    | (intro x; refine Follows.use (a := a) (s := x) ?_ ?_; unfold x; rotate_left; try clear_value x; intro hx) | intro x | lift_lets
    | apply Follows.ite | apply Follows.foldl | apply Follows.forRange | split | dsimp only | refine Follows.fst (by assumption) ?_
    | refine Follows.keep ?_ ⟨rfl, Nat.le_refl _, Nat.le_refl _, rfl, rfl⟩

theorem State.objOp_follows {s : State} {op : Nat} {k : Nat} {arg0 : Nat} {arg1 : Nat} {a : State} (h : Follows a s) :
    Follows a (State.objOp s op k arg0 arg1).state := by
  unfold State.objOp
  with_reducible repeat' first
    | assumption | apply Follows.done | apply Follows.waits | apply State.objNew_follows | apply State.objFree_follows
    | apply State.objPlace_follows | apply State.objFlush_follows | apply opFail_follows
    | (intro x; refine Follows.use (a := a) (s := x) ?_ ?_; unfold x; rotate_left; try clear_value x; intro hx) | intro x | lift_lets
    | apply Follows.ite | apply Follows.foldl | apply Follows.forRange | split | dsimp only | refine Follows.fst (by assumption) ?_
    | refine Follows.keep ?_ ⟨rfl, Nat.le_refl _, Nat.le_refl _, rfl, rfl⟩

theorem State.showObjOp_follows {s : State} {q : Nat × Nat × Nat × Nat} {r : ObjOutcome} {a : State} (h : Follows a s)
    (h2 : Follows a r.state) : Follows a (State.showObjOp s q r) := by
  cases r with
  | wait t => exact State.put_follows (Follows.keep h2 ⟨rfl, Nat.le_refl _, Nat.le_refl _, rfl, rfl⟩)
  | done r =>
    have h2 : Follows a r.state := h2
    unfold State.showObjOp
    exact State.evt_follows (Follows.ite (State.put_follows (State.put_follows (Follows.keep h2 ⟨rfl, Nat.le_refl _, Nat.le_refl _, rfl, rfl⟩)))
      (State.put_follows (Follows.keep h2 ⟨rfl, Nat.le_refl _, Nat.le_refl _, rfl, rfl⟩)))

theorem State.retryTierOp_follows {s : State} {a : State} (h : Follows a s) :
    Follows a (State.retryTierOp s) := by
  unfold State.retryTierOp
  with_reducible repeat' first
    | assumption | apply State.showObjOp_follows | apply State.objOp_follows
    | (intro x; refine Follows.use (a := a) (s := x) ?_ ?_; unfold x; rotate_left; try clear_value x; intro hx) | intro x | lift_lets
    | apply Follows.ite | apply Follows.foldl | apply Follows.forRange | split | dsimp only | refine Follows.fst (by assumption) ?_
    | refine Follows.keep ?_ ⟨rfl, Nat.le_refl _, Nat.le_refl _, rfl, rfl⟩

theorem State.resumeMoving_follows {s : State} {k : Nat} {a : State} (h : Follows a s) :
    Follows a (State.resumeMoving s k) := by
  unfold State.resumeMoving
  with_reducible repeat' first
    | assumption | apply State.checkWait_follows
    | (intro x; refine Follows.use (a := a) (s := x) ?_ ?_; unfold x; rotate_left; try clear_value x; intro hx) | intro x | lift_lets
    | apply Follows.ite | apply Follows.foldl | apply Follows.forRange | split | dsimp only | refine Follows.fst (by assumption) ?_
    | refine Follows.keep ?_ ⟨rfl, Nat.le_refl _, Nat.le_refl _, rfl, rfl⟩

theorem State.moveDone_follows {s : State} {k : Nat} {a : State} (h : Follows a s) :
    Follows a (State.moveDone s k) := by
  unfold State.moveDone
  with_reducible repeat' first
    | assumption | apply State.modObj_follows | apply State.countBytes_follows | apply State.retryTierOp_follows
    | apply State.resumeMoving_follows | apply State.evt_follows | apply Follows.ite
    | refine Follows.keep ?_ ⟨rfl, Nat.le_refl _, Nat.le_refl _, rfl, rfl⟩

theorem execObjectMoveDone_follows {obj : Fin 4096} {s : State} {a : State} (h : Follows a s) :
    Yields a (execObjectMoveDone obj s) := by
  unfold execObjectMoveDone
  with_reducible repeat' first
    | apply Yields.next | assumption | apply State.moveDone_follows

theorem State.tierQuotaSel_follows {s : State} {v : Nat} {a : State} (h : Follows a s) :
    Follows a (State.tierQuotaSel s v) := by
  unfold State.tierQuotaSel
  with_reducible repeat' first
    | assumption | apply State.storeReg_follows | apply State.put_follows

theorem execTierQuotaSel_follows {init : Initiator} {value : Word} {s : State} {a : State} (h : Follows a s) :
    Yields a (execTierQuotaSel init value s) := by
  unfold execTierQuotaSel
  with_reducible repeat' first
    | apply Yields.next | assumption | apply State.viaWrite_follows | apply State.tierQuotaSel_follows | apply Follows.ite
    | apply Follows.foldl | apply Follows.forRange | intro

theorem State.tierOp_follows {s : State} {v : Nat} {a : State} (h : Follows a s) :
    Follows a (State.tierOp s v) := by
  unfold State.tierOp
  with_reducible repeat' first
    | assumption | apply State.evt_follows | apply State.storeReg_follows | apply State.showObjOp_follows | apply State.objOp_follows
    | apply Follows.ite | refine Follows.keep ?_ ⟨rfl, Nat.le_refl _, Nat.le_refl _, rfl, rfl⟩

theorem State.tierRow_follows {s : State} {init : Initiator} {op : Nat} {v : Word} {a : State} (h : Follows a s) :
    Follows a (State.tierRow s init op v) := by
  unfold State.tierRow
  with_reducible repeat' first
    | assumption | apply State.viaWrite_follows | apply State.tierOp_follows | apply Follows.ite | apply Follows.foldl
    | apply Follows.forRange | intro

theorem execObjNew_follows {init : Initiator} {value : Word} {s : State} {a : State} (h : Follows a s) :
    Yields a (execObjNew init value s) := by
  unfold execObjNew
  with_reducible repeat' first
    | apply Yields.next | assumption | apply State.tierRow_follows

theorem State.objDrainEnd_follows {s : State} {k : Nat} {a : State} (h : Follows a s) :
    Follows a (State.objDrainEnd s k) := by
  unfold State.objDrainEnd
  with_reducible repeat' first
    | assumption | apply State.retryTierOp_follows | apply Follows.ite
    | refine Follows.keep ?_ ⟨rfl, Nat.le_refl _, Nat.le_refl _, rfl, rfl⟩

theorem State.ageEvict_follows {x0 : Nat} {x1 : State} {a : State} (h : Follows a x1) :
    Follows a (State.ageEvict x0 x1) := by
  fun_induction State.ageEvict x0 x1
  all_goals with_reducible repeat' first
    | assumption | apply State.evictCopy_follows | apply_assumption -exfalso -symm
    | (intro x; refine Follows.use (a := a) (s := x) ?_ ?_; unfold x; rotate_left; try clear_value x; intro hx) | intro x | lift_lets
    | apply Follows.ite | apply Follows.foldl | apply Follows.forRange | split | dsimp only | refine Follows.fst (by assumption) ?_
    | refine Follows.keep ?_ ⟨rfl, Nat.le_refl _, Nat.le_refl _, rfl, rfl⟩

theorem execAgeEviction_follows {s : State} {a : State} (h : Follows a s) :
    Yields a (execAgeEviction s) := by
  unfold execAgeEviction
  with_reducible repeat' first
    | apply Yields.next | assumption | apply State.retryTierOp_follows | apply State.ageEvict_follows | apply Follows.ite
    | refine Follows.keep ?_ ⟨rfl, Nat.le_refl _, Nat.le_refl _, rfl, rfl⟩

theorem State.tierObjSel_follows {s : State} {v : Nat} {a : State} (h : Follows a s) :
    Follows a (State.tierObjSel s v) := by
  unfold State.tierObjSel
  with_reducible repeat' first
    | assumption | apply State.storeReg_follows | apply State.put_follows | apply Follows.ite | apply Follows.foldl
    | apply Follows.forRange | intro

theorem execObjPlace_follows {init : Initiator} {value : Word} {s : State} {a : State} (h : Follows a s) :
    Yields a (execObjPlace init value s) := by
  unfold execObjPlace
  with_reducible repeat' first
    | apply Yields.next | assumption | apply State.tierRow_follows

theorem execObjFlush_follows {init : Initiator} {value : Word} {s : State} {a : State} (h : Follows a s) :
    Yields a (execObjFlush init value s) := by
  unfold execObjFlush
  with_reducible repeat' first
    | apply Yields.next | assumption | apply State.tierRow_follows

theorem execObjFree_follows {init : Initiator} {value : Word} {s : State} {a : State} (h : Follows a s) :
    Yields a (execObjFree init value s) := by
  unfold execObjFree
  with_reducible repeat' first
    | apply Yields.next | assumption | apply State.tierRow_follows

theorem execTierObjSel_follows {init : Initiator} {value : Word} {s : State} {a : State} (h : Follows a s) :
    Yields a (execTierObjSel init value s) := by
  unfold execTierObjSel
  with_reducible repeat' first
    | apply Yields.next | assumption | apply State.viaWrite_follows | apply State.tierObjSel_follows | apply Follows.ite
    | apply Follows.foldl | apply Follows.forRange | intro

theorem execObjectDrainEnd_follows {obj : Fin 4096} {s : State} {a : State} (h : Follows a s) :
    Yields a (execObjectDrainEnd obj s) := by
  unfold execObjectDrainEnd
  with_reducible repeat' first
    | apply Yields.next | assumption | apply State.objDrainEnd_follows

end Sys2Proof.Machine
end

