-- ==== Sys2Proof/Laws/FollowsVilvaOps.lean ====
section
/-! SUPPORT. What Machine/VilvaOps.lean does to the queue and to what every step keeps: one lemma for each definition that gives a state. -/
namespace Sys2Proof.Machine
open Sys2Proof

theorem State.logFlit_follows {s : State} {p : Nat} {type : Nat} {f : Flit} {a : State} (h : Follows a s) :
    Follows a (State.logFlit s p type f) := by
  unfold State.logFlit
  with_reducible repeat' first
    | assumption | apply Follows.ite | refine Follows.keep ?_ ⟨rfl, Nat.le_refl _, Nat.le_refl _, rfl, rfl⟩

theorem State.sendIdle_follows {s : State} {p : Nat} {nak : Bool} {a : State} (h : Follows a s) :
    Follows a (State.sendIdle s p nak) := by
  unfold State.sendIdle
  with_reducible repeat' first
    | assumption | apply State.logFlit_follows | apply State.incR64_follows | apply Follows.ite
    | refine Follows.keep ?_ ⟨rfl, Nat.le_refl _, Nat.le_refl _, rfl, rfl⟩

theorem State.modPort_follows {s : State} {p : Nat} {f : Port → Port} {a : State} (h : Follows a s) :
    Follows a (State.modPort s p f) := by
  unfold State.modPort
  with_reducible repeat' first
    | assumption | apply Follows.ite | refine Follows.keep ?_ ⟨rfl, Nat.le_refl _, Nat.le_refl _, rfl, rfl⟩

theorem State.sendFlit_follows {s : State} {p : Nat} {type : Nat} {f : Flit} {a : State} (h : Follows a s) :
    Follows a (State.sendFlit s p type f) := by
  unfold State.sendFlit
  with_reducible repeat' first
    | assumption | apply State.modPort_follows | apply State.logFlit_follows | apply State.incR64_follows | apply Follows.ite
    | refine Follows.keep ?_ ⟨rfl, Nat.le_refl _, Nat.le_refl _, rfl, rfl⟩

end Sys2Proof.Machine
end

