-- ==== Sys2Proof/Laws/FollowsDma.lean ====
section
/-! SUPPORT. What Machine/Dma.lean does to the queue and to what every step keeps: one lemma for each definition that gives a state. -/
namespace Sys2Proof.Machine
open Sys2Proof

theorem State.advanceXfer_follows {s : State} {t : Nat} {n : Nat} {a : State} (h : Follows a s) :
    Follows a (State.advanceXfer s t n) := by
  unfold State.advanceXfer
  with_reducible repeat' first
    | assumption | apply State.modXfer_follows

theorem State.endXfer_follows {s : State} {t : Nat} {completed : Bool} {a : State} (h : Follows a s) :
    Follows a (State.endXfer s t completed) := by
  unfold State.endXfer
  with_reducible repeat' first
    | assumption | apply State.modGrove_follows | apply State.checkWait_follows | apply State.modCtx_follows
    | apply State.retryTierOp_follows | apply State.wakeOnGrove_follows
    | (intro x; refine Follows.use (a := a) (s := x) ?_ ?_; unfold x; rotate_left; try clear_value x; intro hx) | intro x | lift_lets
    | apply Follows.ite | apply Follows.foldl | apply Follows.forRange | split | dsimp only | refine Follows.fst (by assumption) ?_
    | refine Follows.keep ?_ ⟨rfl, Nat.le_refl _, Nat.le_refl _, rfl, rfl⟩

theorem State.failOwner_follows {s : State} {o : Owner} {g : Nat} {cause : Nat} {a : State} (h : Follows a s) :
    Follows a (State.failOwner s o g cause) := by
  unfold State.failOwner
  with_reducible repeat' first
    | assumption | apply State.faultCtx_follows | apply State.modGrove_follows
    | (intro x; refine Follows.use (a := a) (s := x) ?_ ?_; unfold x; rotate_left; try clear_value x; intro hx) | intro x | lift_lets
    | apply Follows.ite | apply Follows.foldl | apply Follows.forRange | split | dsimp only | refine Follows.fst (by assumption) ?_
    | refine Follows.keep ?_ ⟨rfl, Nat.le_refl _, Nat.le_refl _, rfl, rfl⟩

theorem State.pageFault_follows {s : State} {o : Owner} {g : Nat} {list : Nat} {lpage : Nat} {code : Nat} {a : State} (h : Follows a s) :
    Follows a (State.pageFault s o g list lpage code) := by
  unfold State.pageFault
  with_reducible repeat' first
    | assumption | apply State.evt_follows | apply State.put_follows | apply State.report_follows | apply State.failOwner_follows

theorem State.translate_follows {s : State} {t : Nat} {a : State} (h : Follows a s) :
    Follows a (State.translate s t).1 := by
  unfold State.translate
  with_reducible repeat' first
    | assumption | apply State.endXfer_follows | apply State.pageFault_follows | apply State.modXfer_follows
    | (intro x; refine Follows.use (a := a) (s := x) ?_ ?_; unfold x; rotate_left; try clear_value x; intro hx) | intro x | lift_lets
    | apply Follows.ite | apply Follows.foldl | apply Follows.forRange | split | dsimp only | refine Follows.fst (by assumption) ?_
    | refine Follows.keep ?_ ⟨rfl, Nat.le_refl _, Nat.le_refl _, rfl, rfl⟩

theorem State.showDmaFault_follows {s : State} {o : Owner} {g : Nat} {xid : Nat} {obj : Nat} {code : Nat} {a : State} (h : Follows a s) :
    Follows a (State.showDmaFault s o g xid obj code) := by
  unfold State.showDmaFault
  with_reducible repeat' first
    | assumption | apply State.evt_follows | apply State.put_follows | apply State.report_follows | apply Follows.ite
    | refine Follows.keep ?_ ⟨rfl, Nat.le_refl _, Nat.le_refl _, rfl, rfl⟩

theorem State.dmaFault_follows {s : State} {o : Owner} {g : Nat} {xid : Nat} {obj : Nat} {code : Nat} {a : State} (h : Follows a s) :
    Follows a (State.dmaFault s o g xid obj code) := by
  unfold State.dmaFault
  with_reducible repeat' first
    | assumption | apply State.failOwner_follows | apply State.showDmaFault_follows

theorem State.failXfer_follows {s : State} {t : Nat} {code : Nat} {a : State} (h : Follows a s) :
    Follows a (State.failXfer s t code) := by
  unfold State.failXfer
  with_reducible repeat' first
    | assumption | apply State.endXfer_follows | apply State.dmaFault_follows

theorem State.plainWrite_follows {s : State} {a' : Nat} {bs : List Byte} {a : State} (h : Follows a s) :
    Follows a (State.plainWrite s a' bs).1 := by
  unfold State.plainWrite
  with_reducible repeat' first
    | assumption | apply State.wrBytes_follows | apply State.reportBad_follows
    | (intro x; refine Follows.use (a := a) (s := x) ?_ ?_; unfold x; rotate_left; try clear_value x; intro hx) | intro x | lift_lets
    | apply Follows.ite | apply Follows.foldl | apply Follows.forRange | split | dsimp only | refine Follows.fst (by assumption) ?_
    | refine Follows.keep ?_ ⟨rfl, Nat.le_refl _, Nat.le_refl _, rfl, rfl⟩

theorem State.remoteWrite_follows {s : State} {x : Transfer} {m : Nat} {bs : List Byte} {a : State} (h : Follows a s) :
    Follows a (State.remoteWrite s x m bs).1 := by
  unfold State.remoteWrite
  with_reducible repeat' first
    | assumption | apply State.countBytes_follows | apply State.plainWrite_follows | apply State.mergeTile_follows
    | apply State.modObj_follows
    | (intro x; refine Follows.use (a := a) (s := x) ?_ ?_; unfold x; rotate_left; try clear_value x; intro hx) | intro x | lift_lets
    | apply Follows.ite | apply Follows.foldl | apply Follows.forRange | split | dsimp only | refine Follows.fst (by assumption) ?_
    | refine Follows.keep ?_ ⟨rfl, Nat.le_refl _, Nat.le_refl _, rfl, rfl⟩

theorem State.plainRead_follows {s : State} {a' : Nat} {n : Nat} {symbols : Nat} {a : State} (h : Follows a s) :
    Follows a (State.plainRead s a' n symbols).1 := by
  unfold State.plainRead
  with_reducible repeat' first
    | assumption | apply State.meetErrors_follows | apply State.reportBad_follows
    | (intro x; refine Follows.use (a := a) (s := x) ?_ ?_; unfold x; rotate_left; try clear_value x; intro hx) | intro x | lift_lets
    | apply Follows.ite | apply Follows.foldl | apply Follows.forRange | split | dsimp only | refine Follows.fst (by assumption) ?_
    | refine Follows.keep ?_ ⟨rfl, Nat.le_refl _, Nat.le_refl _, rfl, rfl⟩

theorem State.remoteRead_follows {s : State} {x : Transfer} {m : Nat} {n : Nat} {symbols : Nat} {a : State} (h : Follows a s) :
    Follows a (State.remoteRead s x m n symbols).1 := by
  unfold State.remoteRead
  with_reducible repeat' first
    | assumption | apply State.countBytes_follows | apply State.plainRead_follows | apply State.readTile_follows
    | (intro x; refine Follows.use (a := a) (s := x) ?_ ?_; unfold x; rotate_left; try clear_value x; intro hx) | intro x | lift_lets
    | apply Follows.ite | apply Follows.foldl | apply Follows.forRange | split | dsimp only | refine Follows.fst (by assumption) ?_
    | refine Follows.keep ?_ ⟨rfl, Nat.le_refl _, Nat.le_refl _, rfl, rfl⟩

theorem State.markDirty_follows {s : State} {c : Nat} {off : Nat} {n : Nat} {a : State} (h : Follows a s) :
    Follows a (State.markDirty s c off n) := by
  unfold State.markDirty
  with_reducible repeat' first
    | assumption | apply State.modCtx_follows | apply Follows.ite
    | refine Follows.keep ?_ ⟨rfl, Nat.le_refl _, Nat.le_refl _, rfl, rfl⟩

theorem State.localWrite_follows {s : State} {o : Owner} {g : Nat} {off : Nat} {bs : List Byte} {a : State} (h : Follows a s) :
    Follows a (State.localWrite s o g off bs) := by
  unfold State.localWrite
  with_reducible repeat' first
    | assumption | apply State.wrBytes_follows | apply State.markDirty_follows | apply State.modCtx_follows
    | (intro x; refine Follows.use (a := a) (s := x) ?_ ?_; unfold x; rotate_left; try clear_value x; intro hx) | intro x | lift_lets
    | apply Follows.ite | apply Follows.foldl | apply Follows.forRange | split | dsimp only | refine Follows.fst (by assumption) ?_
    | refine Follows.keep ?_ ⟨rfl, Nat.le_refl _, Nat.le_refl _, rfl, rfl⟩

theorem State.deliver_follows {s : State} {x : Transfer} {m : Nat} {bs : List Byte} {a : State} (h : Follows a s) :
    Follows a (State.deliver s x m bs) := by
  unfold State.deliver
  with_reducible repeat' first
    | assumption | apply State.modGrove_follows | apply State.localWrite_follows | apply Follows.ite
    | refine Follows.keep ?_ ⟨rfl, Nat.le_refl _, Nat.le_refl _, rfl, rfl⟩

theorem State.movePiece_follows {s : State} {t : Nat} {symbols : Nat} {a : State} (h : Follows a s) :
    Follows a (State.movePiece s t symbols) := by
  unfold State.movePiece
  with_reducible repeat' first
    | assumption | apply State.advanceXfer_follows | apply State.sendFlit_follows | apply State.translate_follows
    | apply State.meetErrors_follows | apply State.uncorrectable_follows | apply State.failXfer_follows
    | apply State.remoteWrite_follows | apply State.remoteRead_follows | apply State.deliver_follows
    | (intro x; refine Follows.use (a := a) (s := x) ?_ ?_; unfold x; rotate_left; try clear_value x; intro hx) | intro x | lift_lets
    | apply Follows.ite | apply Follows.foldl | apply Follows.forRange | split | dsimp only | refine Follows.fst (by assumption) ?_
    | refine Follows.keep ?_ ⟨rfl, Nat.le_refl _, Nat.le_refl _, rfl, rfl⟩

theorem State.transferPiece_follows {s : State} {symbols : Nat} {a : State} (h : Follows a s) :
    Follows a (State.transferPiece s symbols) := by
  unfold State.transferPiece
  with_reducible repeat' first
    | assumption | apply State.tickFresh_follows | apply State.movePiece_follows
    | (intro x; refine Follows.use (a := a) (s := x) ?_ ?_; unfold x; rotate_left; try clear_value x; intro hx) | intro x | lift_lets
    | apply Follows.ite | apply Follows.foldl | apply Follows.forRange | split | dsimp only | refine Follows.fst (by assumption) ?_
    | refine Follows.keep ?_ ⟨rfl, Nat.le_refl _, Nat.le_refl _, rfl, rfl⟩

theorem State.setRecord_follows {s : State} {o : Owner} {g : Nat} {off : Nat} {valid : Bool} {tag : Option Nat} {a : State} (h : Follows a s) :
    Follows a (State.setRecord s o g off valid tag) := by
  unfold State.setRecord
  with_reducible repeat' first
    | assumption | apply State.localWrite_follows

theorem State.enterXfer_follows {s : State} {o : Owner} {g : Nat} {xid : Nat} {raw : List Byte} {only : Option Nat} {a : State} (h : Follows a s) :
    Follows a (State.enterXfer s o g xid raw only) := by
  unfold State.enterXfer
  with_reducible repeat' first
    | assumption | apply State.modGrove_follows | apply State.modObj_follows | apply State.setRecord_follows
    | (intro x; refine Follows.use (a := a) (s := x) ?_ ?_; unfold x; rotate_left; try clear_value x; intro hx) | intro x | lift_lets
    | apply Follows.ite | apply Follows.foldl | apply Follows.forRange | split | dsimp only | refine Follows.fst (by assumption) ?_
    | refine Follows.keep ?_ ⟨rfl, Nat.le_refl _, Nat.le_refl _, rfl, rfl⟩

theorem State.copyTiles_follows {f : Nat} {h' : Nat} {symbols : Nat} {x3 : Nat} {x4 : State} {a : State} (h : Follows a x4) :
    Follows a (State.copyTiles f h' symbols x3 x4).1 := by
  fun_induction State.copyTiles f h' symbols x3 x4
  all_goals with_reducible repeat' first
    | assumption | apply State.readTile_follows | apply State.writeTile_follows | apply_assumption -exfalso -symm
    | (intro x; refine Follows.use (a := a) (s := x) ?_ ?_; unfold x; rotate_left; try clear_value x; intro hx) | intro x | lift_lets
    | apply Follows.ite | apply Follows.foldl | apply Follows.forRange | split | dsimp only | refine Follows.fst (by assumption) ?_
    | refine Follows.keep ?_ ⟨rfl, Nat.le_refl _, Nat.le_refl _, rfl, rfl⟩

theorem State.copyOnWrite_follows {s : State} {t : Nat} {symbols : Nat} {a : State} (h : Follows a s) :
    Follows a (State.copyOnWrite s t symbols) := by
  unfold State.copyOnWrite
  with_reducible repeat' first
    | assumption | apply State.modXfer_follows | apply State.modCtx_follows | apply State.takeFrame_follows
    | apply State.copyTiles_follows | apply State.failXfer_follows | apply State.releaseFrame_follows | apply State.modList_follows
    | apply State.dropFrame_follows | apply State.evt_follows | apply State.count_follows
    | (intro x; refine Follows.use (a := a) (s := x) ?_ ?_; unfold x; rotate_left; try clear_value x; intro hx) | intro x | lift_lets
    | apply Follows.ite | apply Follows.foldl | apply Follows.forRange | split | dsimp only | refine Follows.fst (by assumption) ?_
    | refine Follows.keep ?_ ⟨rfl, Nat.le_refl _, Nat.le_refl _, rfl, rfl⟩

theorem State.dmaIssue_follows {s : State} {o : Owner} {g : Nat} {xid : Nat} {raw : List Byte} {a : State} (h : Follows a s) :
    Follows a (State.dmaIssue s o g xid raw) := by
  unfold State.dmaIssue
  with_reducible repeat' first
    | assumption | apply State.dmaFault_follows | apply State.enterXfer_follows | apply State.count_follows
    | apply State.blockFor_follows
    | (intro x; refine Follows.use (a := a) (s := x) ?_ ?_; unfold x; rotate_left; try clear_value x; intro hx) | intro x | lift_lets
    | apply Follows.ite | apply Follows.foldl | apply Follows.forRange | split | dsimp only | refine Follows.fst (by assumption) ?_
    | refine Follows.keep ?_ ⟨rfl, Nat.le_refl _, Nat.le_refl _, rfl, rfl⟩

theorem State.countDropped_follows {s : State} {domain : Nat} {a : State} (h : Follows a s) :
    Follows a (State.countDropped s domain) := by
  unfold State.countDropped
  with_reducible repeat' first
    | assumption | apply State.count_follows | apply State.evt_follows

theorem State.transferComplete_follows {s : State} {t : Nat} {a : State} (h : Follows a s) :
    Follows a (State.transferComplete s t) := by
  unfold State.transferComplete
  with_reducible repeat' first
    | assumption | apply State.endXfer_follows | apply State.countDropped_follows | apply State.setRecord_follows | apply Follows.ite
    | refine Follows.keep ?_ ⟨rfl, Nat.le_refl _, Nat.le_refl _, rfl, rfl⟩

theorem execTransferComplete_follows {t : Nat} {s : State} {a : State} (h : Follows a s) :
    Yields a (execTransferComplete t s) := by
  unfold execTransferComplete
  with_reducible repeat' first
    | apply Yields.next | assumption | apply State.transferComplete_follows

theorem execTransferPiece_follows {symbols : Nat} {s : State} {a : State} (h : Follows a s) :
    Yields a (execTransferPiece symbols s) := by
  unfold execTransferPiece
  with_reducible repeat' first
    | apply Yields.next | assumption | apply State.transferPiece_follows

theorem State.refetch_follows {s : State} {f : Fetched} {v : Nat} {a : State} (h : Follows a s) :
    Follows a (State.refetch s f v) := by
  unfold State.refetch
  with_reducible repeat' first
    | assumption | apply State.evt_follows | apply State.dmaFault_follows | apply State.enterXfer_follows
    | (intro x; refine Follows.use (a := a) (s := x) ?_ ?_; unfold x; rotate_left; try clear_value x; intro hx) | intro x | lift_lets
    | apply Follows.ite | apply Follows.foldl | apply Follows.forRange | split | dsimp only | refine Follows.fst (by assumption) ?_
    | refine Follows.keep ?_ ⟨rfl, Nat.le_refl _, Nat.le_refl _, rfl, rfl⟩

theorem execCopyOnWrite_follows {t : Nat} {symbols : Nat} {s : State} {a : State} (h : Follows a s) :
    Yields a (execCopyOnWrite t symbols s) := by
  unfold execCopyOnWrite
  with_reducible repeat' first
    | apply Yields.next | assumption | apply State.copyOnWrite_follows

end Sys2Proof.Machine
end

