-- ==== Sys2Proof/Laws/FollowsIssue.lean ====
section
/-! SUPPORT. What Machine/Issue.lean does to the queue and to what every step keeps: one lemma for each definition that gives a state. -/
namespace Sys2Proof.Machine
open Sys2Proof

theorem State.issueIf_follows {s : State} {g : Nat} {is : Fetched → Bool} {go : State → Fetched → State} {a : State} (h : Follows a s) (hgo : ∀ t y0, Follows a t → Follows a (go t y0)) :
    Follows a (State.issueIf s g is go) := by
  unfold State.issueIf
  with_reducible repeat' first
    | assumption | apply hgo
    | (intro x; refine Follows.use (a := a) (s := x) ?_ ?_; unfold x; rotate_left; try clear_value x; intro hx) | intro x | lift_lets
    | apply Follows.ite | apply Follows.foldl | apply Follows.forRange | split | dsimp only | refine Follows.fst (by assumption) ?_
    | refine Follows.keep ?_ ⟨rfl, Nat.le_refl _, Nat.le_refl _, rfl, rfl⟩

theorem State.applyWrites_follows {s : State} {g : Nat} {e : Exec} {a : State} (h : Follows a s) :
    Follows a (State.applyWrites s g e) := by
  unfold State.applyWrites
  with_reducible repeat' first
    | assumption | apply State.wrGrove_follows | apply State.markDirty_follows
    | (intro x; refine Follows.use (a := a) (s := x) ?_ ?_; unfold x; rotate_left; try clear_value x; intro hx) | intro x | lift_lets
    | apply Follows.ite | apply Follows.foldl | apply Follows.forRange | split | dsimp only | refine Follows.fst (by assumption) ?_
    | refine Follows.keep ?_ ⟨rfl, Nat.le_refl _, Nat.le_refl _, rfl, rfl⟩

theorem State.commandComplete_follows {s : State} {g : Nat} {cycles : Nat} {a : State} (h : Follows a s) :
    Follows a (State.commandComplete s g cycles) := by
  unfold State.commandComplete
  with_reducible repeat' first
    | assumption | apply State.stopCommand_follows | apply State.uncorrectable_follows | apply State.dmaIssue_follows
    | apply State.accountTile_follows | apply State.applyWrites_follows
    | (intro x; refine Follows.use (a := a) (s := x) ?_ ?_; unfold x; rotate_left; try clear_value x; intro hx) | intro x | lift_lets
    | apply Follows.ite | apply Follows.foldl | apply Follows.forRange | split | dsimp only | refine Follows.fst (by assumption) ?_
    | refine Follows.keep ?_ ⟨rfl, Nat.le_refl _, Nat.le_refl _, rfl, rfl⟩

theorem State.issueWith_follows {s : State} {f : Fetched} {k : IssueCheck} {writes : State → List (Nat × List Byte)} {drains : State → List Drain} {a : State} (h : Follows a s) :
    Follows a (State.issueWith s f k writes drains) := by
  unfold State.issueWith
  with_reducible repeat' first
    | assumption | apply State.issue_follows | apply State.refetch_follows | apply Follows.ite | apply Follows.foldl
    | apply Follows.forRange | intro

theorem State.issueMove_follows {s : State} {f : Fetched} {a : State} (h : Follows a s) :
    Follows a (State.issueMove s f) := by
  unfold State.issueMove
  with_reducible repeat' first
    | assumption | apply State.issueWith_follows

theorem execMoveBytes_follows {g : Fin 16} {s : State} {a : State} (h : Follows a s) :
    Yields a (execMoveBytes g s) := by
  unfold execMoveBytes
  with_reducible repeat' first
    | apply Yields.next | assumption | apply State.issueIf_follows | apply State.issueMove_follows | apply Follows.ite
    | apply Follows.foldl | apply Follows.forRange | intro

theorem State.lookoutContext_follows {s : State} {c : Nat} {code : Nat} {a : State} (h : Follows a s) :
    Follows a (State.lookoutContext s c code) := by
  unfold State.lookoutContext
  with_reducible repeat' first
    | assumption | apply State.endXfer_follows | apply State.requestReset_follows
    | (intro x; refine Follows.use (a := a) (s := x) ?_ ?_; unfold x; rotate_left; try clear_value x; intro hx) | intro x | lift_lets
    | apply Follows.ite | apply Follows.foldl | apply Follows.forRange | split | dsimp only | refine Follows.fst (by assumption) ?_
    | refine Follows.keep ?_ ⟨rfl, Nat.le_refl _, Nat.le_refl _, rfl, rfl⟩

theorem State.issueTally_follows {s : State} {f : Fetched} {a : State} (h : Follows a s) :
    Follows a (State.issueTally s f) := by
  unfold State.issueTally
  with_reducible repeat' first
    | assumption | apply State.issueWith_follows

theorem State.issueConv_follows {s : State} {f : Fetched} {a : State} (h : Follows a s) :
    Follows a (State.issueConv s f) := by
  unfold State.issueConv
  with_reducible repeat' first
    | assumption | apply State.issueWith_follows

theorem execPoolAvg_follows {g : Fin 16} {s : State} {a : State} (h : Follows a s) :
    Yields a (execPoolAvg g s) := by
  unfold execPoolAvg
  with_reducible repeat' first
    | apply Yields.next | assumption | apply State.issueIf_follows | apply State.issueConv_follows | apply Follows.ite
    | apply Follows.foldl | apply Follows.forRange | intro

theorem State.capStop_follows {s : State} {g : Nat} {a : State} (h : Follows a s) :
    Follows a (State.capStop s g) := by
  unfold State.capStop
  with_reducible repeat' first
    | assumption | apply State.stopCommand_follows | apply State.lookout_follows | apply State.lookoutContext_follows
    | (intro x; refine Follows.use (a := a) (s := x) ?_ ?_; unfold x; rotate_left; try clear_value x; intro hx) | intro x | lift_lets
    | apply Follows.ite | apply Follows.foldl | apply Follows.forRange | split | dsimp only | refine Follows.fst (by assumption) ?_
    | refine Follows.keep ?_ ⟨rfl, Nat.le_refl _, Nat.le_refl _, rfl, rfl⟩

theorem execCapStop_follows {g : Fin 16} {s : State} {a : State} (h : Follows a s) :
    Yields a (execCapStop g s) := by
  unfold execCapStop
  with_reducible repeat' first
    | apply Yields.next | assumption | apply State.capStop_follows

theorem State.issueNop_follows {s : State} {f : Fetched} {a : State} (h : Follows a s) :
    Follows a (State.issueNop s f) := by
  unfold State.issueNop
  with_reducible repeat' first
    | assumption | apply State.issueWith_follows | apply State.issueFault_follows | apply Follows.ite
    | refine Follows.keep ?_ ⟨rfl, Nat.le_refl _, Nat.le_refl _, rfl, rfl⟩

theorem State.issueEw_follows {s : State} {f : Fetched} {a : State} (h : Follows a s) :
    Follows a (State.issueEw s f) := by
  unfold State.issueEw
  with_reducible repeat' first
    | assumption | apply State.issueWith_follows

theorem execEw_follows {g : Fin 16} {s : State} {a : State} (h : Follows a s) :
    Yields a (execEw g s) := by
  unfold execEw
  with_reducible repeat' first
    | apply Yields.next | assumption | apply State.issueIf_follows | apply State.issueEw_follows | apply Follows.ite
    | apply Follows.foldl | apply Follows.forRange | intro

theorem State.issueWait_follows {s : State} {f : Fetched} {a : State} (h : Follows a s) :
    Follows a (State.issueWait s f) := by
  unfold State.issueWait
  with_reducible repeat' first
    | assumption | apply State.issueFault_follows | apply State.modCtx_follows | apply State.incR64_follows
    | apply State.blockFor_follows | apply State.beginExec_follows
    | (intro x; refine Follows.use (a := a) (s := x) ?_ ?_; unfold x; rotate_left; try clear_value x; intro hx) | intro x | lift_lets
    | apply Follows.ite | apply Follows.foldl | apply Follows.forRange | split | dsimp only | refine Follows.fst (by assumption) ?_
    | refine Follows.keep ?_ ⟨rfl, Nat.le_refl _, Nat.le_refl _, rfl, rfl⟩

theorem execCommandComplete_follows {g : Fin 16} {cycles : Nat} {s : State} {a : State} (h : Follows a s) :
    Yields a (execCommandComplete g cycles s) := by
  unfold execCommandComplete
  with_reducible repeat' first
    | apply Yields.next | assumption | apply State.commandComplete_follows

theorem execPoolMax_follows {g : Fin 16} {s : State} {a : State} (h : Follows a s) :
    Yields a (execPoolMax g s) := by
  unfold execPoolMax
  with_reducible repeat' first
    | apply Yields.next | assumption | apply State.issueIf_follows | apply State.issueConv_follows | apply Follows.ite
    | apply Follows.foldl | apply Follows.forRange | intro

theorem State.issueAttn_follows {s : State} {f : Fetched} {a : State} (h : Follows a s) :
    Follows a (State.issueAttn s f) := by
  unfold State.issueAttn
  with_reducible repeat' first
    | assumption | apply State.issueWith_follows

theorem execAttn_follows {g : Fin 16} {s : State} {a : State} (h : Follows a s) :
    Yields a (execAttn g s) := by
  unfold execAttn
  with_reducible repeat' first
    | apply Yields.next | assumption | apply State.issueIf_follows | apply State.issueAttn_follows | apply Follows.ite
    | apply Follows.foldl | apply Follows.forRange | intro

theorem execTally_follows {g : Fin 16} {s : State} {a : State} (h : Follows a s) :
    Yields a (execTally g s) := by
  unfold execTally
  with_reducible repeat' first
    | apply Yields.next | assumption | apply State.issueIf_follows | apply State.issueTally_follows | apply Follows.ite
    | apply Follows.foldl | apply Follows.forRange | intro

theorem State.issueMatmul_follows {s : State} {f : Fetched} {a : State} (h : Follows a s) :
    Follows a (State.issueMatmul s f) := by
  unfold State.issueMatmul
  with_reducible repeat' first
    | assumption | apply State.issueWith_follows

theorem execMatmul_follows {g : Fin 16} {s : State} {a : State} (h : Follows a s) :
    Yields a (execMatmul g s) := by
  unfold execMatmul
  with_reducible repeat' first
    | apply Yields.next | assumption | apply State.issueIf_follows | apply State.issueMatmul_follows | apply Follows.ite
    | apply Follows.foldl | apply Follows.forRange | intro

theorem execArgmax_follows {g : Fin 16} {s : State} {a : State} (h : Follows a s) :
    Yields a (execArgmax g s) := by
  unfold execArgmax
  with_reducible repeat' first
    | apply Yields.next | assumption | apply State.issueIf_follows | apply State.issueConv_follows | apply Follows.ite
    | apply Follows.foldl | apply Follows.forRange | intro

theorem State.issueXfer_follows {s : State} {f : Fetched} {a : State} (h : Follows a s) :
    Follows a (State.issueXfer s f) := by
  unfold State.issueXfer
  with_reducible repeat' first
    | assumption | apply State.issueFault_follows | apply State.beginExec_follows | apply State.blockFor_follows
    | apply State.dmaIssue_follows
    | (intro x; refine Follows.use (a := a) (s := x) ?_ ?_; unfold x; rotate_left; try clear_value x; intro hx) | intro x | lift_lets
    | apply Follows.ite | apply Follows.foldl | apply Follows.forRange | split | dsimp only | refine Follows.fst (by assumption) ?_
    | refine Follows.keep ?_ ⟨rfl, Nat.le_refl _, Nat.le_refl _, rfl, rfl⟩

theorem execWaitXfers_follows {g : Fin 16} {s : State} {a : State} (h : Follows a s) :
    Yields a (execWaitXfers g s) := by
  unfold execWaitXfers
  with_reducible repeat' first
    | apply Yields.next | assumption | apply State.issueIf_follows | apply State.issueWait_follows | apply Follows.ite
    | apply Follows.foldl | apply Follows.forRange | intro

theorem State.issueScan_follows {s : State} {f : Fetched} {a : State} (h : Follows a s) :
    Follows a (State.issueScan s f) := by
  unfold State.issueScan
  with_reducible repeat' first
    | assumption | apply State.issueFault_follows | apply State.issueWith_follows | apply State.blockFor_follows
    | apply State.report_follows
    | (intro x; refine Follows.use (a := a) (s := x) ?_ ?_; unfold x; rotate_left; try clear_value x; intro hx) | intro x | lift_lets
    | apply Follows.ite | apply Follows.foldl | apply Follows.forRange | split | dsimp only | refine Follows.fst (by assumption) ?_
    | refine Follows.keep ?_ ⟨rfl, Nat.le_refl _, Nat.le_refl _, rfl, rfl⟩

theorem execScan_follows {g : Fin 16} {s : State} {a : State} (h : Follows a s) :
    Yields a (execScan g s) := by
  unfold execScan
  with_reducible repeat' first
    | apply Yields.next | assumption | apply State.issueIf_follows | apply State.issueScan_follows | apply Follows.ite
    | apply Follows.foldl | apply Follows.forRange | intro

theorem execNop_follows {g : Fin 16} {s : State} {a : State} (h : Follows a s) :
    Yields a (execNop g s) := by
  unfold execNop
  with_reducible repeat' first
    | apply Yields.next | assumption | apply State.issueIf_follows | apply State.issueNop_follows | apply Follows.ite
    | apply Follows.foldl | apply Follows.forRange | intro

theorem execXfer_follows {g : Fin 16} {s : State} {a : State} (h : Follows a s) :
    Yields a (execXfer g s) := by
  unfold execXfer
  with_reducible repeat' first
    | apply Yields.next | assumption | apply State.issueIf_follows | apply State.issueXfer_follows | apply Follows.ite
    | apply Follows.foldl | apply Follows.forRange | intro

theorem execConv_follows {g : Fin 16} {s : State} {a : State} (h : Follows a s) :
    Yields a (execConv g s) := by
  unfold execConv
  with_reducible repeat' first
    | apply Yields.next | assumption | apply State.issueIf_follows | apply State.issueConv_follows | apply Follows.ite
    | apply Follows.foldl | apply Follows.forRange | intro

end Sys2Proof.Machine
end

