-- ==== Sys2Proof/Laws/FollowsSched.lean ====
section
/-! SUPPORT. What Machine/Sched.lean does to the queue and to what every step keeps: one lemma for each definition that gives a state. -/
namespace Sys2Proof.Machine
open Sys2Proof

theorem State.considerSwap_follows {s : State} {c : Nat} {a : State} (h : Follows a s) :
    Follows a (State.considerSwap s c) := by
  unfold State.considerSwap
  with_reducible repeat' first
    | assumption | apply State.modGrove_follows
    | (intro x; refine Follows.use (a := a) (s := x) ?_ ?_; unfold x; rotate_left; try clear_value x; intro hx) | intro x | lift_lets
    | apply Follows.ite | apply Follows.foldl | apply Follows.forRange | split | dsimp only | refine Follows.fst (by assumption) ?_
    | refine Follows.keep ?_ ⟨rfl, Nat.le_refl _, Nat.le_refl _, rfl, rfl⟩

theorem State.considerSwaps_follows {s : State} {a : State} (h : Follows a s) :
    Follows a (State.considerSwaps s) := by
  unfold State.considerSwaps
  with_reducible repeat' first
    | assumption | apply State.considerSwap_follows
    | (intro x; refine Follows.use (a := a) (s := x) ?_ ?_; unfold x; rotate_left; try clear_value x; intro hx) | intro x | lift_lets
    | apply Follows.ite | apply Follows.foldl | apply Follows.forRange | split | dsimp only | refine Follows.fst (by assumption) ?_
    | refine Follows.keep ?_ ⟨rfl, Nat.le_refl _, Nat.le_refl _, rfl, rfl⟩

theorem State.ringDoorbell_follows {s : State} {c : Nat} {tail : Nat} {a : State} (h : Follows a s) :
    Follows a (State.ringDoorbell s c tail) := by
  unfold State.ringDoorbell
  with_reducible repeat' first
    | assumption | apply State.reportOwn_follows | apply State.faultCtx_follows | apply State.modCtx_follows
    | apply State.wakeCtx_follows | apply State.considerSwaps_follows | apply Follows.ite
    | refine Follows.keep ?_ ⟨rfl, Nat.le_refl _, Nat.le_refl _, rfl, rfl⟩

theorem State.doorbell_follows {s : State} {c : Nat} {v : Nat} {a : State} (h : Follows a s) :
    Follows a (State.doorbell s c v) := by
  unfold State.doorbell
  with_reducible repeat' first
    | assumption | apply State.storeReg_follows | apply State.ringDoorbell_follows

theorem State.schCtxSel_follows {s : State} {v : Nat} {a : State} (h : Follows a s) :
    Follows a (State.schCtxSel s v) := by
  unfold State.schCtxSel
  with_reducible repeat' first
    | assumption | apply State.storeReg_follows | apply State.put_follows | apply Follows.ite | apply Follows.foldl
    | apply Follows.forRange | intro

theorem execSchCtxSel_follows {init : Initiator} {value : Word} {s : State} {a : State} (h : Follows a s) :
    Yields a (execSchCtxSel init value s) := by
  unfold execSchCtxSel
  with_reducible repeat' first
    | apply Yields.next | assumption | apply State.viaWrite_follows | apply State.schCtxSel_follows | apply Follows.ite
    | apply Follows.foldl | apply Follows.forRange | intro

theorem execDoorbellWrite_follows {init : Initiator} {ctx : Fin 128} {value : Word} {s : State} {a : State} (h : Follows a s) :
    Yields a (execDoorbellWrite init ctx value s) := by
  unfold execDoorbellWrite
  with_reducible repeat' first
    | apply Yields.next | assumption | apply State.viaWrite_follows | apply State.doorbell_follows | apply Follows.ite
    | apply Follows.foldl | apply Follows.forRange | intro

theorem State.saveImage_follows {s : State} {c : Nat} {a : State} (h : Follows a s) :
    Follows a (State.saveImage s c) := by
  unfold State.saveImage
  with_reducible repeat' first
    | assumption | apply State.countBytes_follows | apply State.modCtx_follows

theorem State.evictCtx_follows {s : State} {c : Nat} {a : State} (h : Follows a s) :
    Follows a (State.evictCtx s c) := by
  unfold State.evictCtx
  with_reducible repeat' first
    | assumption | exact Follows.same _ | apply State.saveImage_follows | apply State.modCtx_follows | apply State.faultCtx_follows
    | apply State.showDmaFault_follows | apply State.uncorrectable_follows
    | (intro x; refine Follows.use (a := a) (s := x) ?_ ?_; unfold x; rotate_left; try clear_value x; intro hx)
    | (intro x; refine Follows.use (a := a) (s := x.1) ?_ ?_; unfold x; rotate_left; try clear_value x; intro hx)
    | (intro x; refine Follows.use (a := a) (s := x.state) ?_ ?_; unfold x; rotate_left; try clear_value x; intro hx)
    | (intro x; clear_value x) | intro x | lift_lets | apply Follows.ite | apply Follows.cond | apply Follows.foldl
    | apply Follows.forRange | split | dsimp only | refine Follows.fst (by assumption) ?_
    | refine Follows.keep ?_ ⟨rfl, Nat.le_refl _, Nat.le_refl _, rfl, rfl⟩
    | refine Follows.keep ?_ ⟨rfl, Nat.le_refl _, Nat.zero_le _, rfl, rfl⟩
    | refine Follows.keep ?_ ⟨rfl, Nat.zero_le _, Nat.le_refl _, rfl, rfl⟩

theorem State.moveSram_follows {s : State} {g : Nat} {src : Nat} {dst : Nat} {n : Nat} {a : State} (h : Follows a s) :
    Follows a (State.moveSram s g src dst n) := by
  unfold State.moveSram
  with_reducible repeat' first
    | assumption | apply State.wrBytes_follows | apply Follows.ite
    | refine Follows.keep ?_ ⟨rfl, Nat.le_refl _, Nat.le_refl _, rfl, rfl⟩

theorem State.slideCtx_follows {s : State} {g : Nat} {at_ : Nat} {c : Nat} {a : State} (h : Follows a s) :
    Follows a (State.slideCtx s g at_ c) := by
  unfold State.slideCtx
  with_reducible repeat' first
    | assumption | apply State.moveSram_follows | apply State.modCtx_follows | apply State.modGrove_follows

theorem State.slideAll_follows {s : State} {g : Nat} {p : Nat} {x3 : List Nat} {a : State} (h : Follows a s) :
    Follows a (State.slideAll s g p x3) := by
  fun_induction State.slideAll s g p x3
  all_goals with_reducible repeat' first
    | assumption | apply State.slideCtx_follows | apply_assumption -exfalso -symm
    | (intro x; refine Follows.use (a := a) (s := x) ?_ ?_; unfold x; rotate_left; try clear_value x; intro hx) | intro x | lift_lets
    | apply Follows.ite | apply Follows.foldl | apply Follows.forRange | split | dsimp only | refine Follows.fst (by assumption) ?_
    | refine Follows.keep ?_ ⟨rfl, Nat.le_refl _, Nat.le_refl _, rfl, rfl⟩

theorem State.compact_follows {s : State} {g : Nat} {a : State} (h : Follows a s) :
    Follows a (State.compact s g) := by
  unfold State.compact
  with_reducible repeat' first
    | assumption | apply State.slideAll_follows

theorem State.bringIn_follows {s : State} {g : Nat} {c : Nat} {a : State} (h : Follows a s) :
    Follows a (State.bringIn s g c) := by
  unfold State.bringIn
  with_reducible repeat' first
    | assumption | apply State.compact_follows | apply State.wrBytes_follows | apply State.countBytes_follows
    | apply State.modCtx_follows

theorem State.unbindCtx_follows {s : State} {c : Nat} {a : State} (h : Follows a s) :
    Follows a (State.unbindCtx s c) := by
  unfold State.unbindCtx
  with_reducible repeat' first
    | assumption | apply State.setReg_follows
    | (intro x; refine Follows.use (a := a) (s := x) ?_ ?_; unfold x; rotate_left; try clear_value x; intro hx) | intro x | lift_lets
    | apply Follows.ite | apply Follows.foldl | apply Follows.forRange | split | dsimp only | refine Follows.fst (by assumption) ?_
    | refine Follows.keep ?_ ⟨rfl, Nat.le_refl _, Nat.le_refl _, rfl, rfl⟩

theorem State.revokeCtx_follows {s : State} {c : Nat} {a : State} (h : Follows a s) :
    Follows a (State.revokeCtx s c) := by
  unfold State.revokeCtx
  with_reducible repeat' first
    | assumption | apply State.setReg_follows
    | (intro x; refine Follows.use (a := a) (s := x) ?_ ?_; unfold x; rotate_left; try clear_value x; intro hx) | intro x | lift_lets
    | apply Follows.ite | apply Follows.foldl | apply Follows.forRange | split | dsimp only | refine Follows.fst (by assumption) ?_
    | refine Follows.keep ?_ ⟨rfl, Nat.le_refl _, Nat.le_refl _, rfl, rfl⟩

theorem State.stopNow_follows {s : State} {c : Nat} {a : State} (h : Follows a s) :
    Follows a (State.stopNow s c) := by
  unfold State.stopNow
  with_reducible repeat' first
    | assumption | apply State.modCtx_follows | apply State.contextLost_follows | apply State.unbindCtx_follows
    | apply State.revokeCtx_follows | apply Follows.ite | refine Follows.keep ?_ ⟨rfl, Nat.le_refl _, Nat.le_refl _, rfl, rfl⟩

theorem State.swapComplete_follows {s : State} {g : Nat} {elapsedUs : Nat} {a : State} (h : Follows a s) :
    Follows a (State.swapComplete s g elapsedUs) := by
  unfold State.swapComplete
  with_reducible repeat' first
    | assumption | apply State.evictCtx_follows | apply State.bringIn_follows | apply State.modCtx_follows
    | apply State.modGrove_follows | apply State.stopNow_follows | apply State.considerSwaps_follows
    | (intro x; refine Follows.use (a := a) (s := x) ?_ ?_; unfold x; rotate_left; try clear_value x; intro hx) | intro x | lift_lets
    | apply Follows.ite | apply Follows.foldl | apply Follows.forRange | split | dsimp only | refine Follows.fst (by assumption) ?_
    | refine Follows.keep ?_ ⟨rfl, Nat.le_refl _, Nat.le_refl _, rfl, rfl⟩

theorem execSwapComplete_follows {g : Fin 16} {elapsedUs : Nat} {s : State} {a : State} (h : Follows a s) :
    Yields a (execSwapComplete g elapsedUs s) := by
  unfold execSwapComplete
  with_reducible repeat' first
    | apply Yields.next | assumption | apply State.swapComplete_follows

theorem State.blockEmpty_follows {s : State} {g : Nat} {a : State} (h : Follows a s) :
    Follows a (State.blockEmpty s g) := by
  unfold State.blockEmpty
  with_reducible repeat' first
    | assumption | apply State.blockCtx_follows
    | (intro x; refine Follows.use (a := a) (s := x) ?_ ?_; unfold x; rotate_left; try clear_value x; intro hx) | intro x | lift_lets
    | apply Follows.ite | apply Follows.foldl | apply Follows.forRange | split | dsimp only | refine Follows.fst (by assumption) ?_
    | refine Follows.keep ?_ ⟨rfl, Nat.le_refl _, Nat.le_refl _, rfl, rfl⟩

theorem State.settleCtx_follows {s : State} {g : Nat} {a : State} (h : Follows a s) :
    Follows a (State.settleCtx s g) := by
  unfold State.settleCtx
  with_reducible repeat' first
    | assumption | apply State.stopNow_follows | apply State.blockCtx_follows
    | (intro x; refine Follows.use (a := a) (s := x) ?_ ?_; unfold x; rotate_left; try clear_value x; intro hx) | intro x | lift_lets
    | apply Follows.ite | apply Follows.foldl | apply Follows.forRange | split | dsimp only | refine Follows.fst (by assumption) ?_
    | refine Follows.keep ?_ ⟨rfl, Nat.le_refl _, Nat.le_refl _, rfl, rfl⟩

theorem State.dispatch_follows {s : State} {g : Nat} {a : State} (h : Follows a s) :
    Follows a (State.dispatch s g) := by
  unfold State.dispatch
  with_reducible repeat' first
    | assumption | exact Follows.same _ | apply State.modCtx_follows | apply State.modGrove_follows
    | (intro x; refine Follows.use (a := a) (s := x) ?_ ?_; unfold x; rotate_left; try clear_value x; intro hx)
    | (intro x; refine Follows.use (a := a) (s := x.1) ?_ ?_; unfold x; rotate_left; try clear_value x; intro hx)
    | (intro x; refine Follows.use (a := a) (s := x.state) ?_ ?_; unfold x; rotate_left; try clear_value x; intro hx)
    | (intro x; clear_value x) | intro x | lift_lets | apply Follows.ite | apply Follows.cond | apply Follows.foldl
    | apply Follows.forRange | split | dsimp only | refine Follows.fst (by assumption) ?_
    | refine Follows.keep ?_ ⟨rfl, Nat.le_refl _, Nat.le_refl _, rfl, rfl⟩
    | refine Follows.keep ?_ ⟨rfl, Nat.le_refl _, Nat.zero_le _, rfl, rfl⟩
    | refine Follows.keep ?_ ⟨rfl, Nat.zero_le _, Nat.le_refl _, rfl, rfl⟩

theorem State.tileBoundary_follows {s : State} {g : Nat} {a : State} (h : Follows a s) :
    Follows a (State.tileBoundary s g) := by
  unfold State.tileBoundary
  with_reducible repeat' first
    | assumption | apply State.considerSwaps_follows | apply State.blockEmpty_follows | apply State.settleCtx_follows
    | apply State.dispatch_follows | apply State.modGrove_follows | apply State.modCtx_follows
    | (intro x; refine Follows.use (a := a) (s := x) ?_ ?_; unfold x; rotate_left; try clear_value x; intro hx) | intro x | lift_lets
    | apply Follows.ite | apply Follows.foldl | apply Follows.forRange | split | dsimp only | refine Follows.fst (by assumption) ?_
    | refine Follows.keep ?_ ⟨rfl, Nat.le_refl _, Nat.le_refl _, rfl, rfl⟩

theorem execTileBoundary_follows {g : Fin 16} {s : State} {a : State} (h : Follows a s) :
    Yields a (execTileBoundary g s) := by
  unfold execTileBoundary
  with_reducible repeat' first
    | apply Yields.next | assumption | apply State.tileBoundary_follows

theorem State.setSwapRate_follows {s : State} {g : Nat} {v : Nat} {a : State} (h : Follows a s) :
    Follows a (State.setSwapRate s g v) := by
  unfold State.setSwapRate
  with_reducible repeat' first
    | assumption | apply State.put_follows | apply State.reportOwn_follows | apply Follows.ite
    | refine Follows.keep ?_ ⟨rfl, Nat.le_refl _, Nat.le_refl _, rfl, rfl⟩

theorem execSchSwapMbps_follows {init : Initiator} {g : Fin 16} {value : Word} {s : State} {a : State} (h : Follows a s) :
    Yields a (execSchSwapMbps init g value s) := by
  unfold execSchSwapMbps
  with_reducible repeat' first
    | apply Yields.next | assumption | apply State.viaWrite_follows | apply State.setSwapRate_follows | apply Follows.ite
    | apply Follows.foldl | apply Follows.forRange | intro

theorem State.evictAll_follows {s : State} {g : Nat} {a : State} (h : Follows a s) :
    Follows a (State.evictAll s g) := by
  unfold State.evictAll
  with_reducible repeat' first
    | assumption | apply State.evictCtx_follows | apply Follows.ite | apply Follows.foldl | apply Follows.forRange | intro

theorem State.setWindows_follows {s : State} {a : State} (h : Follows a s) :
    Follows a (State.setWindows s) := by
  unfold State.setWindows
  with_reducible repeat' first
    | assumption | apply State.modGrove_follows | apply State.reportOwn_follows | apply Follows.ite | apply Follows.foldl
    | apply Follows.forRange | intro

theorem State.windowBoundary_follows {s : State} {g : Nat} {c : Nat} {begins : Bool} {a : State} (h : Follows a s) :
    Follows a (State.windowBoundary s g c begins) := by
  unfold State.windowBoundary
  with_reducible repeat' first
    | assumption | apply State.modGrove_follows | apply Follows.ite
    | refine Follows.keep ?_ ⟨rfl, Nat.le_refl _, Nat.le_refl _, rfl, rfl⟩

theorem execWindowBoundary_follows {g : Fin 16} {ctx : Fin 128} {begins : Bool} {s : State} {a : State} (h : Follows a s) :
    Yields a (execWindowBoundary g ctx begins s) := by
  unfold execWindowBoundary
  with_reducible repeat' first
    | apply Yields.next | assumption | apply State.windowBoundary_follows

theorem State.stopCtx_follows {s : State} {c : Nat} {a : State} (h : Follows a s) :
    Follows a (State.stopCtx s c) := by
  unfold State.stopCtx
  with_reducible repeat' first
    | assumption | apply State.modCtx_follows | apply State.stopNow_follows | apply Follows.ite
    | refine Follows.keep ?_ ⟨rfl, Nat.le_refl _, Nat.le_refl _, rfl, rfl⟩

end Sys2Proof.Machine
end

