-- ==== Sys2Proof/Laws/FollowsSeq.lean ====
section
/-! SUPPORT. What Machine/Seq.lean does to the queue and to what every step keeps: one lemma for each definition that gives a state. -/
namespace Sys2Proof.Machine
open Sys2Proof

theorem State.seqHold_follows {s : State} {e : Nat} {a : State} (h : Follows a s) :
    Follows a (State.seqHold s e).state := by
  unfold State.seqHold
  with_reducible repeat' first
    | assumption | apply opFail_follows | apply opOk_follows | apply State.modEntry_follows
    | (intro x; refine Follows.use (a := a) (s := x) ?_ ?_; unfold x; rotate_left; try clear_value x; intro hx) | intro x | lift_lets
    | apply Follows.ite | apply Follows.foldl | apply Follows.forRange | split | dsimp only | refine Follows.fst (by assumption) ?_
    | refine Follows.keep ?_ ⟨rfl, Nat.le_refl _, Nat.le_refl _, rfl, rfl⟩

theorem State.seqPrio_follows {s : State} {e : Nat} {p : Nat} {a : State} (h : Follows a s) :
    Follows a (State.seqPrio s e p).state := by
  unfold State.seqPrio
  with_reducible repeat' first
    | assumption | apply opFail_follows | apply opOk_follows | apply State.modEntry_follows
    | (intro x; refine Follows.use (a := a) (s := x) ?_ ?_; unfold x; rotate_left; try clear_value x; intro hx) | intro x | lift_lets
    | apply Follows.ite | apply Follows.foldl | apply Follows.forRange | split | dsimp only | refine Follows.fst (by assumption) ?_
    | refine Follows.keep ?_ ⟨rfl, Nat.le_refl _, Nat.le_refl _, rfl, rfl⟩

theorem State.writeRecord_follows {s : State} {wl : Nat} {i : Nat} {r : RowGroup} {a : State} (h : Follows a s) :
    Follows a (State.writeRecord s wl i r) := by
  unfold State.writeRecord
  with_reducible repeat' first
    | assumption | apply State.wrBytes_follows | apply State.zeroMem_follows

theorem State.writeRecords_follows {s : State} {wl : Nat} {x2 : Nat} {x3 : List RowGroup} {a : State} (h : Follows a s) :
    Follows a (State.writeRecords s wl x2 x3) := by
  fun_induction State.writeRecords s wl x2 x3
  all_goals with_reducible repeat' first
    | assumption | apply State.writeRecord_follows | apply_assumption -exfalso -symm
    | (intro x; refine Follows.use (a := a) (s := x) ?_ ?_; unfold x; rotate_left; try clear_value x; intro hx) | intro x | lift_lets
    | apply Follows.ite | apply Follows.foldl | apply Follows.forRange | split | dsimp only | refine Follows.fst (by assumption) ?_
    | refine Follows.keep ?_ ⟨rfl, Nat.le_refl _, Nat.le_refl _, rfl, rfl⟩

theorem State.writeWorkList_follows {s : State} {g : Nat} {step : Nat} {rows : Nat} {groups : List RowGroup} {tokens : List Nat} {a : State} (h : Follows a s) :
    Follows a (State.writeWorkList s g step rows groups tokens) := by
  unfold State.writeWorkList
  with_reducible repeat' first
    | assumption | apply State.wrBytes_follows | apply State.writeRecords_follows

theorem State.faultEntry_follows {s : State} {e : Nat} {a : State} (h : Follows a s) :
    Follows a (State.faultEntry s e) := by
  unfold State.faultEntry
  with_reducible repeat' first
    | assumption | apply State.evt_follows | apply State.modEntry_follows | apply State.reportOwn_follows

theorem State.putResult_follows {s : State} {e : Nat} {token : Nat} {a : State} (h : Follows a s) :
    Follows a (State.putResult s e token) := by
  unfold State.putResult
  with_reducible repeat' first
    | assumption | apply State.faultEntry_follows | apply State.plainWrite_follows | apply State.modEntry_follows
    | (intro x; refine Follows.use (a := a) (s := x) ?_ ?_; unfold x; rotate_left; try clear_value x; intro hx) | intro x | lift_lets
    | apply Follows.ite | apply Follows.foldl | apply Follows.forRange | split | dsimp only | refine Follows.fst (by assumption) ?_
    | refine Follows.keep ?_ ⟨rfl, Nat.le_refl _, Nat.le_refl _, rfl, rfl⟩

theorem State.applyRecord_follows {s : State} {g : Nat} {step : Nat} {i : Nat} {r : RowGroup} {a : State} (h : Follows a s) :
    Follows a (State.applyRecord s g step i r) := by
  unfold State.applyRecord
  with_reducible repeat' first
    | assumption | apply State.freeEntry_follows | apply State.plainRead_follows | apply State.modEntry_follows
    | apply State.faultEntry_follows | apply State.modSeqGroup_follows | apply State.putResult_follows
    | apply State.endStepEntry_follows | apply Follows.ite | refine Follows.keep ?_ ⟨rfl, Nat.le_refl _, Nat.le_refl _, rfl, rfl⟩

theorem State.applyRecords_follows {s : State} {g : Nat} {step : Nat} {x3 : Nat} {x4 : List RowGroup} {a : State} (h : Follows a s) :
    Follows a (State.applyRecords s g step x3 x4) := by
  fun_induction State.applyRecords s g step x3 x4
  all_goals with_reducible repeat' first
    | assumption | apply State.applyRecord_follows | apply_assumption -exfalso -symm
    | (intro x; refine Follows.use (a := a) (s := x) ?_ ?_; unfold x; rotate_left; try clear_value x; intro hx) | intro x | lift_lets
    | apply Follows.ite | apply Follows.foldl | apply Follows.forRange | split | dsimp only | refine Follows.fst (by assumption) ?_
    | refine Follows.keep ?_ ⟨rfl, Nat.le_refl _, Nat.le_refl _, rfl, rfl⟩

theorem State.outAck_follows {s : State} {e : Nat} {head : Nat} {a : State} (h : Follows a s) :
    Follows a (State.outAck s e head) := by
  unfold State.outAck
  with_reducible repeat' first
    | assumption | apply State.modEntry_follows | apply Follows.ite
    | refine Follows.keep ?_ ⟨rfl, Nat.le_refl _, Nat.le_refl _, rfl, rfl⟩

theorem execSeqOutack_follows {init : Initiator} {e : Fin 512} {value : Word} {s : State} {a : State} (h : Follows a s) :
    Yields a (execSeqOutack init e value s) := by
  unfold execSeqOutack
  with_reducible repeat' first
    | apply Yields.next | assumption | apply State.viaWrite_follows | apply State.outAck_follows | apply State.storeReg_follows
    | apply Follows.ite | apply Follows.foldl | apply Follows.forRange | intro

theorem State.deliverOutbox_follows {s : State} {g : Nat} {a : State} (h : Follows a s) :
    Follows a (State.deliverOutbox s g) := by
  unfold State.deliverOutbox
  with_reducible repeat' first
    | assumption | apply State.putResult_follows | apply State.modSeqGroup_follows | apply Follows.ite | apply Follows.foldl
    | apply Follows.forRange | intro

theorem Build.leaveOut_follows {b : Build} {e : Nat} {stall : Nat} {a : State} (h : Follows a b.state) :
    Follows a (Build.leaveOut b e stall).state := by
  unfold Build.leaveOut
  with_reducible repeat' first
    | assumption | apply State.modEntry_follows

theorem State.seqEntSel_follows {s : State} {v : Nat} {a : State} (h : Follows a s) :
    Follows a (State.seqEntSel s v) := by
  unfold State.seqEntSel
  with_reducible repeat' first
    | assumption | apply State.storeReg_follows | apply State.setReg_follows | apply Follows.ite | apply Follows.foldl
    | apply Follows.forRange | intro

theorem State.seqAdmit_follows {s : State} {a : State} (h : Follows a s) :
    Follows a (State.seqAdmit s).state := by
  unfold State.seqAdmit
  with_reducible repeat' first
    | assumption | apply opOk_follows | apply opFail_follows
    | (intro x; refine Follows.use (a := a) (s := x) ?_ ?_; unfold x; rotate_left; try clear_value x; intro hx) | intro x | lift_lets
    | apply Follows.ite | apply Follows.foldl | apply Follows.forRange | split | dsimp only | refine Follows.fst (by assumption) ?_
    | refine Follows.keep ?_ ⟨rfl, Nat.le_refl _, Nat.le_refl _, rfl, rfl⟩

theorem State.seqRetire_follows {s : State} {e : Nat} {a : State} (h : Follows a s) :
    Follows a (State.seqRetire s e).state := by
  unfold State.seqRetire
  with_reducible repeat' first
    | assumption | apply opOk_follows | apply State.retireEntry_follows | apply opFail_follows
    | (intro x; refine Follows.use (a := a) (s := x) ?_ ?_; unfold x; rotate_left; try clear_value x; intro hx) | intro x | lift_lets
    | apply Follows.ite | apply Follows.foldl | apply Follows.forRange | split | dsimp only | refine Follows.fst (by assumption) ?_
    | refine Follows.keep ?_ ⟨rfl, Nat.le_refl _, Nat.le_refl _, rfl, rfl⟩

theorem State.seqRelease_follows {s : State} {e : Nat} {a : State} (h : Follows a s) :
    Follows a (State.seqRelease s e).state := by
  unfold State.seqRelease
  with_reducible repeat' first
    | assumption | apply opOk_follows | apply State.modEntry_follows | apply opFail_follows
    | (intro x; refine Follows.use (a := a) (s := x) ?_ ?_; unfold x; rotate_left; try clear_value x; intro hx) | intro x | lift_lets
    | apply Follows.ite | apply Follows.foldl | apply Follows.forRange | split | dsimp only | refine Follows.fst (by assumption) ?_
    | refine Follows.keep ?_ ⟨rfl, Nat.le_refl _, Nat.le_refl _, rfl, rfl⟩

theorem State.seqOpRun_follows {s : State} {word : Nat} {a : State} (h : Follows a s) :
    Follows a (State.seqOpRun s word).state := by
  unfold State.seqOpRun
  with_reducible repeat' first
    | assumption | apply opFail_follows | apply State.seqAdmit_follows | apply State.seqRetire_follows | apply State.seqHold_follows
    | apply State.seqRelease_follows | apply State.seqPrio_follows
    | (intro x; refine Follows.use (a := a) (s := x) ?_ ?_; unfold x; rotate_left; try clear_value x; intro hx) | intro x | lift_lets
    | apply Follows.ite | apply Follows.foldl | apply Follows.forRange | split | dsimp only | refine Follows.fst (by assumption) ?_
    | refine Follows.keep ?_ ⟨rfl, Nat.le_refl _, Nat.le_refl _, rfl, rfl⟩

theorem State.seqOp_follows {s : State} {v : Nat} {a : State} (h : Follows a s) :
    Follows a (State.seqOp s v) := by
  unfold State.seqOp
  with_reducible repeat' first
    | assumption | apply State.storeReg_follows | apply State.seqOpRun_follows | apply State.put_follows | apply Follows.ite
    | refine Follows.keep ?_ ⟨rfl, Nat.le_refl _, Nat.le_refl _, rfl, rfl⟩

theorem State.seqRow_follows {s : State} {init : Initiator} {op : Nat} {v : Word} {a : State} (h : Follows a s) :
    Follows a (State.seqRow s init op v) := by
  unfold State.seqRow
  with_reducible repeat' first
    | assumption | apply State.viaWrite_follows | apply State.seqOp_follows | apply Follows.ite | apply Follows.foldl
    | apply Follows.forRange | intro

theorem execSeqHold_follows {init : Initiator} {value : Word} {s : State} {a : State} (h : Follows a s) :
    Yields a (execSeqHold init value s) := by
  unfold execSeqHold
  with_reducible repeat' first
    | apply Yields.next | assumption | apply State.seqRow_follows

theorem State.appendFrames_follows {s : State} {l : Nat} {x2 : Nat} {x3 : Nat} {a : State} (h : Follows a s) :
    Follows a (State.appendFrames s l x2 x3).1 := by
  fun_induction State.appendFrames s l x2 x3
  all_goals with_reducible repeat' first
    | assumption | apply State.listAppend_follows | apply_assumption -exfalso -symm
    | (intro x; refine Follows.use (a := a) (s := x) ?_ ?_; unfold x; rotate_left; try clear_value x; intro hx) | intro x | lift_lets
    | apply Follows.ite | apply Follows.foldl | apply Follows.forRange | split | dsimp only | refine Follows.fst (by assumption) ?_
    | refine Follows.keep ?_ ⟨rfl, Nat.le_refl _, Nat.le_refl _, rfl, rfl⟩

theorem State.ringTokens_follows {s : State} {x : SeqEntry} {vocab : Nat} {x3 : Nat} {a : State} (h : Follows a s) :
    Follows a (State.ringTokens s x vocab x3).1 := by
  fun_induction State.ringTokens s x vocab x3
  all_goals with_reducible repeat' first
    | assumption | apply State.plainRead_follows | apply_assumption -exfalso -symm
    | (intro x; refine Follows.use (a := a) (s := x) ?_ ?_; unfold x; rotate_left; try clear_value x; intro hx) | intro x | lift_lets
    | apply Follows.ite | apply Follows.foldl | apply Follows.forRange | split | dsimp only | refine Follows.fst (by assumption) ?_
    | refine Follows.keep ?_ ⟨rfl, Nat.le_refl _, Nat.le_refl _, rfl, rfl⟩

theorem Build.candidate_follows {g : Nat} {b : Build} {e : Nat} {a : State} (h : Follows a b.state) :
    Follows a (Build.candidate g b e).state := by
  unfold Build.candidate
  with_reducible repeat' first
    | assumption | apply Build.leaveOut_follows | apply State.appendFrames_follows | apply State.ringTokens_follows
    | apply State.modEntry_follows | apply State.faultEntry_follows
    | (intro x; refine Follows.use (a := a) (s := x) ?_ ?_; unfold x; rotate_left; try clear_value x; intro hx) | intro x | lift_lets
    | apply Follows.ite | apply Follows.foldl | apply Follows.forRange | split | dsimp only | refine Follows.fst (by assumption) ?_
    | refine Follows.keep ?_ ⟨rfl, Nat.le_refl _, Nat.le_refl _, rfl, rfl⟩

theorem State.stepBuild_follows {s : State} {g : Nat} {a : State} (h : Follows a s) :
    Follows a (State.stepBuild s g) := by
  have hb : ∀ (l : List Nat) (b : Build), Follows a b.state → Follows a (l.foldl (Build.candidate g) b).state := by
    intro l
    induction l with
    | nil => exact fun b k => k
    | cons e l ih => exact fun b k => ih _ (Build.candidate_follows k)
  unfold State.stepBuild
  split
  · exact h
  · have h1 := hb (s.candidates g) { state := s } h
    lift_lets
    intro b t
    split
    · exact h1
    · exact State.evt_follows (State.put_follows (State.modSeqGroup_follows (State.writeWorkList_follows h1)))

theorem execStepBuild_follows {grp : Fin 16} {s : State} {a : State} (h : Follows a s) :
    Yields a (execStepBuild grp s) := by
  unfold execStepBuild
  with_reducible repeat' first
    | apply Yields.next | assumption | apply State.stepBuild_follows

theorem State.dropCompletion_follows {s : State} {t : Nat} {a : State} (h : Follows a s) :
    Follows a (State.dropCompletion s t) := by
  unfold State.dropCompletion
  with_reducible repeat' first
    | assumption | apply State.countDropped_follows | apply State.evt_follows | apply State.endXfer_follows | apply Follows.ite
    | refine Follows.keep ?_ ⟨rfl, Nat.le_refl _, Nat.le_refl _, rfl, rfl⟩

theorem State.stepCompletion_follows {s : State} {t : Nat} {a : State} (h : Follows a s) :
    Follows a (State.stepCompletion s t) := by
  unfold State.stepCompletion
  with_reducible repeat' first
    | assumption | apply State.dropCompletion_follows | apply State.applyRecords_follows | apply State.modSeqGroup_follows
    | apply State.evt_follows | apply State.endXfer_follows
    | (intro x; refine Follows.use (a := a) (s := x) ?_ ?_; unfold x; rotate_left; try clear_value x; intro hx) | intro x | lift_lets
    | apply Follows.ite | apply Follows.foldl | apply Follows.forRange | split | dsimp only | refine Follows.fst (by assumption) ?_
    | refine Follows.keep ?_ ⟨rfl, Nat.le_refl _, Nat.le_refl _, rfl, rfl⟩

theorem execStepCompletion_follows {t : Nat} {s : State} {a : State} (h : Follows a s) :
    Yields a (execStepCompletion t s) := by
  unfold execStepCompletion
  with_reducible repeat' first
    | apply Yields.next | assumption | apply State.stepCompletion_follows

theorem execSeqEntSel_follows {init : Initiator} {value : Word} {s : State} {a : State} (h : Follows a s) :
    Yields a (execSeqEntSel init value s) := by
  unfold execSeqEntSel
  with_reducible repeat' first
    | apply Yields.next | assumption | apply State.viaWrite_follows | apply State.seqEntSel_follows | apply Follows.ite
    | apply Follows.foldl | apply Follows.forRange | intro

theorem State.submitTail_follows {s : State} {e : Nat} {tail : Nat} {a : State} (h : Follows a s) :
    Follows a (State.submitTail s e tail) := by
  unfold State.submitTail
  with_reducible repeat' first
    | assumption | apply State.reportOwn_follows | apply State.faultEntry_follows | apply State.modEntry_follows | apply Follows.ite
    | refine Follows.keep ?_ ⟨rfl, Nat.le_refl _, Nat.le_refl _, rfl, rfl⟩

theorem execSeqPrio_follows {init : Initiator} {value : Word} {s : State} {a : State} (h : Follows a s) :
    Yields a (execSeqPrio init value s) := by
  unfold execSeqPrio
  with_reducible repeat' first
    | apply Yields.next | assumption | apply State.seqRow_follows

theorem execSeqRetire_follows {init : Initiator} {value : Word} {s : State} {a : State} (h : Follows a s) :
    Yields a (execSeqRetire init value s) := by
  unfold execSeqRetire
  with_reducible repeat' first
    | apply Yields.next | assumption | apply State.seqRow_follows

theorem State.grpGo_follows {s : State} {g : Nat} {v : Nat} {a : State} (h : Follows a s) :
    Follows a (State.grpGo s g v) := by
  unfold State.grpGo
  with_reducible repeat' first
    | assumption | apply State.evt_follows | apply State.storeReg_follows | apply State.modSeqGroup_follows
    | apply State.ringDoorbell_follows | apply Follows.ite | refine Follows.keep ?_ ⟨rfl, Nat.le_refl _, Nat.le_refl _, rfl, rfl⟩

theorem State.overrunStep_follows {s : State} {g : Nat} {a : State} (h : Follows a s) :
    Follows a (State.overrunStep s g) := by
  unfold State.overrunStep
  with_reducible repeat' first
    | assumption | apply State.evt_follows | apply State.count_follows

theorem State.scheduledBoundary_follows {s : State} {g : Nat} {a : State} (h : Follows a s) :
    Follows a (State.scheduledBoundary s g) := by
  unfold State.scheduledBoundary
  with_reducible repeat' first
    | assumption | apply State.deliverOutbox_follows | apply State.abandonStep_follows | apply State.overrunStep_follows
    | apply State.ringDoorbell_follows | apply State.modSeqGroup_follows
    | (intro x; refine Follows.use (a := a) (s := x) ?_ ?_; unfold x; rotate_left; try clear_value x; intro hx) | intro x | lift_lets
    | apply Follows.ite | apply Follows.foldl | apply Follows.forRange | split | dsimp only | refine Follows.fst (by assumption) ?_
    | refine Follows.keep ?_ ⟨rfl, Nat.le_refl _, Nat.le_refl _, rfl, rfl⟩

theorem execScheduledBoundary_follows {grp : Fin 16} {s : State} {a : State} (h : Follows a s) :
    Yields a (execScheduledBoundary grp s) := by
  unfold execScheduledBoundary
  with_reducible repeat' first
    | apply Yields.next | assumption | apply State.scheduledBoundary_follows

theorem execSeqRelease_follows {init : Initiator} {value : Word} {s : State} {a : State} (h : Follows a s) :
    Yields a (execSeqRelease init value s) := by
  unfold execSeqRelease
  with_reducible repeat' first
    | apply Yields.next | assumption | apply State.seqRow_follows

theorem execSeqSubmit_follows {init : Initiator} {e : Fin 512} {value : Word} {s : State} {a : State} (h : Follows a s) :
    Yields a (execSeqSubmit init e value s) := by
  unfold execSeqSubmit
  with_reducible repeat' first
    | apply Yields.next | assumption | apply State.viaWrite_follows | apply State.submitTail_follows | apply State.storeReg_follows
    | apply Follows.ite | apply Follows.foldl | apply Follows.forRange | intro

theorem execSeqGrpGo_follows {init : Initiator} {grp : Fin 16} {value : Word} {s : State} {a : State} (h : Follows a s) :
    Yields a (execSeqGrpGo init grp value s) := by
  unfold execSeqGrpGo
  with_reducible repeat' first
    | apply Yields.next | assumption | apply State.viaWrite_follows | apply State.grpGo_follows | apply Follows.ite
    | apply Follows.foldl | apply Follows.forRange | intro

theorem execSeqAdmit_follows {init : Initiator} {value : Word} {s : State} {a : State} (h : Follows a s) :
    Yields a (execSeqAdmit init value s) := by
  unfold execSeqAdmit
  with_reducible repeat' first
    | apply Yields.next | assumption | apply State.seqRow_follows

end Sys2Proof.Machine
end

