-- ==== Sys2Proof/Laws/FollowsImages.lean ====
section
/-! SUPPORT. What Machine/Images.lean does to the queue and to what every step keeps: one lemma for each definition that gives a state. -/
namespace Sys2Proof.Machine
open Sys2Proof

theorem State.writeRegion_follows {s : State} {a' : Nat} {r : RegionRec} {a : State} (h : Follows a s) :
    Follows a (State.writeRegion s a' r) := by
  unfold State.writeRegion
  with_reducible repeat' first
    | assumption | apply State.wrBytes_follows | apply State.zeroMem_follows

theorem State.loadImage_follows {s : State} {p : Plan} {m : Nat} {g : Nat} {a : State} (h : Follows a s) :
    Follows a (State.loadImage s p m g) := by
  unfold State.loadImage
  with_reducible repeat' first
    | assumption | apply State.writeRegion_follows | apply State.setRecord_follows
    | (intro x; refine Follows.use (a := a) (s := x) ?_ ?_; unfold x; rotate_left; try clear_value x; intro hx) | intro x | lift_lets
    | apply Follows.ite | apply Follows.foldl | apply Follows.forRange | split | dsimp only | refine Follows.fst (by assumption) ?_
    | refine Follows.keep ?_ ⟨rfl, Nat.le_refl _, Nat.le_refl _, rfl, rfl⟩

theorem State.modeEvent_follows {s : State} {old : Nat} {new : Nat} {abandoned : Bool} {a : State} (h : Follows a s) :
    Follows a (State.modeEvent s old new abandoned) := by
  unfold State.modeEvent
  with_reducible repeat' first
    | assumption | apply State.report_follows

theorem State.parkPieces_follows {s : State} {x : Transfer} {n : Nat} {x3 : Nat} {x4 : Nat} {a : State} (h : Follows a s) :
    Follows a (State.parkPieces s x n x3 x4) := by
  fun_induction State.parkPieces s x n x3 x4
  all_goals with_reducible repeat' first
    | assumption | apply State.remoteWrite_follows | apply_assumption -exfalso -symm
    | (intro x; refine Follows.use (a := a) (s := x) ?_ ?_; unfold x; rotate_left; try clear_value x; intro hx) | intro x | lift_lets
    | apply Follows.ite | apply Follows.foldl | apply Follows.forRange | split | dsimp only | refine Follows.fst (by assumption) ?_
    | refine Follows.keep ?_ ⟨rfl, Nat.le_refl _, Nat.le_refl _, rfl, rfl⟩

theorem State.parkRecord_follows {s : State} {g : Nat} {stream : Nat} {raw : List Byte} {a : State} (h : Follows a s) :
    Follows a (State.parkRecord s g stream raw) := by
  unfold State.parkRecord
  with_reducible repeat' first
    | assumption | apply State.setRecord_follows | apply State.parkPieces_follows | apply Follows.ite
    | refine Follows.keep ?_ ⟨rfl, Nat.le_refl _, Nat.le_refl _, rfl, rfl⟩

theorem State.parkGrove_follows {s : State} {p : Plan} {m : Nat} {g : Nat} {a : State} (h : Follows a s) :
    Follows a (State.parkGrove s p m g) := by
  unfold State.parkGrove
  with_reducible repeat' first
    | assumption | apply State.parkRecord_follows
    | (intro x; refine Follows.use (a := a) (s := x) ?_ ?_; unfold x; rotate_left; try clear_value x; intro hx) | intro x | lift_lets
    | apply Follows.ite | apply Follows.foldl | apply Follows.forRange | split | dsimp only | refine Follows.fst (by assumption) ?_
    | refine Follows.keep ?_ ⟨rfl, Nat.le_refl _, Nat.le_refl _, rfl, rfl⟩

theorem State.putWords_follows {s : State} {k : Nat} {bs : List Byte} {o : Nat} {n : Nat} {a : State} (h : Follows a s) :
    Follows a (State.putWords s k bs o n) := by
  unfold State.putWords
  with_reducible repeat' first
    | assumption | apply State.put_follows | apply Follows.ite | apply Follows.foldl | apply Follows.forRange | intro

theorem State.writePicture_follows {s : State} {a : State} (h : Follows a s) :
    Follows a (State.writePicture s) := by
  unfold State.writePicture
  with_reducible repeat' first
    | assumption | apply State.put_follows | apply State.putWords_follows
    | (intro x; refine Follows.use (a := a) (s := x) ?_ ?_; unfold x; rotate_left; try clear_value x; intro hx) | intro x | lift_lets
    | apply Follows.ite | apply Follows.foldl | apply Follows.forRange | split | dsimp only | refine Follows.fst (by assumption) ?_
    | refine Follows.keep ?_ ⟨rfl, Nat.le_refl _, Nat.le_refl _, rfl, rfl⟩

theorem State.loadImages_follows {s : State} {p : Plan} {m : Nat} {gs : List Nat} {a : State} (h : Follows a s) :
    Follows a (State.loadImages s p m gs) := by
  unfold State.loadImages
  with_reducible repeat' first
    | assumption | apply State.loadImage_follows
    | (intro x; refine Follows.use (a := a) (s := x) ?_ ?_; unfold x; rotate_left; try clear_value x; intro hx) | intro x | lift_lets
    | apply Follows.ite | apply Follows.foldl | apply Follows.forRange | split | dsimp only | refine Follows.fst (by assumption) ?_
    | refine Follows.keep ?_ ⟨rfl, Nat.le_refl _, Nat.le_refl _, rfl, rfl⟩

theorem State.setRole_follows {s : State} {r : Role} {g : Nat} {a : State} (h : Follows a s) :
    Follows a (State.setRole s r g) := by
  unfold State.setRole
  with_reducible repeat' first
    | assumption | apply State.loseMem_follows | apply State.resetBlock_follows | apply State.modGrove_follows | apply Follows.ite
    | refine Follows.keep ?_ ⟨rfl, Nat.le_refl _, Nat.le_refl _, rfl, rfl⟩

theorem State.showMode_follows {s : State} {a : State} (h : Follows a s) :
    Follows a (State.showMode s) := by
  unfold State.showMode
  with_reducible repeat' first
    | assumption | apply State.put_follows

theorem State.abandonChange_follows {s : State} {reload : Bool} {a : State} (h : Follows a s) :
    Follows a (State.abandonChange s reload) := by
  unfold State.abandonChange
  with_reducible repeat' first
    | assumption | apply State.loadImages_follows | apply State.showMode_follows | apply State.evt_follows
    | apply State.modeEvent_follows | apply Follows.ite | refine Follows.keep ?_ ⟨rfl, Nat.le_refl _, Nat.le_refl _, rfl, rfl⟩

theorem State.setRoles_follows {s : State} {m : ModeRec} {a : State} (h : Follows a s) :
    Follows a (State.setRoles s m) := by
  unfold State.setRoles
  with_reducible repeat' first
    | assumption | apply State.setRole_follows | apply Follows.ite | apply Follows.foldl | apply Follows.forRange | intro

theorem State.writeEdid_follows {s : State} {a : State} (h : Follows a s) :
    Follows a (State.writeEdid s) := by
  unfold State.writeEdid
  with_reducible repeat' first
    | assumption | apply State.putWords_follows
    | (intro x; refine Follows.use (a := a) (s := x) ?_ ?_; unfold x; rotate_left; try clear_value x; intro hx) | intro x | lift_lets
    | apply Follows.ite | apply Follows.foldl | apply Follows.forRange | split | dsimp only | refine Follows.fst (by assumption) ?_
    | refine Follows.keep ?_ ⟨rfl, Nat.le_refl _, Nat.le_refl _, rfl, rfl⟩

end Sys2Proof.Machine
end

