-- ==== Sys2Proof/Laws/FollowsBoot.lean ====
section
/-! SUPPORT. What Machine/Boot.lean does to the queue and to what every step keeps: one lemma for each definition that gives a state. -/
namespace Sys2Proof.Machine
open Sys2Proof

theorem State.acceptImage_follows {s : State} {c : Nat} {a : State} (h : Follows a s) :
    Follows a (State.acceptImage s c).1 := by
  unfold State.acceptImage
  with_reducible repeat' first
    | assumption | apply State.reportOwn_follows
    | (intro x; refine Follows.use (a := a) (s := x) ?_ ?_; unfold x; rotate_left; try clear_value x; intro hx) | intro x | lift_lets
    | apply Follows.ite | apply Follows.foldl | apply Follows.forRange | split | dsimp only | refine Follows.fst (by assumption) ?_
    | refine Follows.keep ?_ ⟨rfl, Nat.le_refl _, Nat.le_refl _, rfl, rfl⟩

theorem State.showIdentity_follows {s : State} {a : State} (h : Follows a s) :
    Follows a (State.showIdentity s) := by
  unfold State.showIdentity
  with_reducible repeat' first
    | assumption | apply State.put_follows | apply State.putWords_follows | apply Follows.ite
    | refine Follows.keep ?_ ⟨rfl, Nat.le_refl _, Nat.le_refl _, rfl, rfl⟩

theorem State.commitFinish_follows {s : State} {a : State} (h : Follows a s) :
    Follows a (State.commitFinish s) := by
  unfold State.commitFinish
  with_reducible repeat' first
    | assumption | apply Follows.ite | refine Follows.keep ?_ ⟨rfl, Nat.le_refl _, Nat.le_refl _, rfl, rfl⟩

theorem State.commitCounters_follows {s : State} {a : State} (h : Follows a s) :
    Follows a (State.commitCounters s) := by
  unfold State.commitCounters
  with_reducible repeat' first
    | assumption | apply Follows.ite | refine Follows.keep ?_ ⟨rfl, Nat.le_refl _, Nat.le_refl _, rfl, rfl⟩

theorem State.commitDirectory_follows {s : State} {a : State} (h : Follows a s) :
    Follows a (State.commitDirectory s) := by
  unfold State.commitDirectory
  with_reducible repeat' first
    | assumption | (intro x; refine Follows.use (a := a) (s := x) ?_ ?_; unfold x; rotate_left; try clear_value x; intro hx)
    | intro x | lift_lets | apply Follows.ite | apply Follows.foldl | apply Follows.forRange | split | dsimp only
    | refine Follows.fst (by assumption) ?_ | refine Follows.keep ?_ ⟨rfl, Nat.le_refl _, Nat.le_refl _, rfl, rfl⟩

theorem State.resolveCommit_follows {s : State} {a : State} (h : Follows a s) :
    Follows a (State.resolveCommit s) := by
  unfold State.resolveCommit
  with_reducible repeat' first
    | assumption | apply State.commitFinish_follows | apply State.commitCounters_follows | apply State.commitDirectory_follows
    | apply State.reportOwn_follows
    | (intro x; refine Follows.use (a := a) (s := x) ?_ ?_; unfold x; rotate_left; try clear_value x; intro hx) | intro x | lift_lets
    | apply Follows.ite | apply Follows.foldl | apply Follows.forRange | split | dsimp only | refine Follows.fst (by assumption) ?_
    | refine Follows.keep ?_ ⟨rfl, Nat.le_refl _, Nat.le_refl _, rfl, rfl⟩

theorem State.makeLayout_follows {s : State} {a : State} (h : Follows a s) :
    Follows a (State.makeLayout s) := by
  unfold State.makeLayout
  with_reducible repeat' first
    | assumption | apply State.reportOwn_follows | apply Follows.ite
    | refine Follows.keep ?_ ⟨rfl, Nat.le_refl _, Nat.le_refl _, rfl, rfl⟩

theorem State.setSlot_follows {s : State} {c : Nat} {slot : Nat} {b : List Byte} {a : State} (h : Follows a s) :
    Follows a (State.setSlot s c slot b) := by
  unfold State.setSlot
  with_reducible repeat' first
    | assumption | (intro x; refine Follows.use (a := a) (s := x) ?_ ?_; unfold x; rotate_left; try clear_value x; intro hx)
    | intro x | lift_lets | apply Follows.ite | apply Follows.foldl | apply Follows.forRange | split | dsimp only
    | refine Follows.fst (by assumption) ?_ | refine Follows.keep ?_ ⟨rfl, Nat.le_refl _, Nat.le_refl _, rfl, rfl⟩

theorem State.recoverIdentity_follows {s : State} {a : State} (h : Follows a s) :
    Follows a (State.recoverIdentity s) := by
  unfold State.recoverIdentity
  with_reducible repeat' first
    | assumption | apply State.evt_follows | apply State.showIdentity_follows | apply State.tickFresh_follows
    | apply State.report_follows | apply Follows.ite | refine Follows.keep ?_ ⟨rfl, Nat.le_refl _, Nat.le_refl _, rfl, rfl⟩

theorem State.makeCertificate_follows {s : State} {a : State} (h : Follows a s) :
    Follows a (State.makeCertificate s) := by
  unfold State.makeCertificate
  with_reducible repeat' first
    | assumption | apply State.tickFresh_follows
    | (intro x; refine Follows.use (a := a) (s := x) ?_ ?_; unfold x; rotate_left; try clear_value x; intro hx) | intro x | lift_lets
    | apply Follows.ite | apply Follows.foldl | apply Follows.forRange | split | dsimp only | refine Follows.fst (by assumption) ?_
    | refine Follows.keep ?_ ⟨rfl, Nat.le_refl _, Nat.le_refl _, rfl, rfl⟩

theorem State.showLayout_follows {s : State} {a : State} (h : Follows a s) :
    Follows a (State.showLayout s) := by
  unfold State.showLayout
  with_reducible repeat' first
    | assumption | apply State.setR64_follows | apply Follows.ite | apply Follows.foldl | apply Follows.forRange | intro

theorem State.loadService_follows {s : State} {a : State} (h : Follows a s) :
    Follows a (State.loadService s) := by
  unfold State.loadService
  with_reducible repeat' first
    | assumption | apply State.wrBytes_follows | apply Follows.ite
    | refine Follows.keep ?_ ⟨rfl, Nat.le_refl _, Nat.le_refl _, rfl, rfl⟩

theorem State.loadOs_follows {s : State} {a : State} (h : Follows a s) :
    Follows a (State.loadOs s) := by
  unfold State.loadOs
  with_reducible repeat' first
    | assumption | apply State.wrBytes_follows | apply Follows.ite
    | refine Follows.keep ?_ ⟨rfl, Nat.le_refl _, Nat.le_refl _, rfl, rfl⟩

end Sys2Proof.Machine
end

