-- ==== Sys2Proof/Laws/FollowsPowerOps.lean ====
section
/-! SUPPORT. What Machine/PowerOps.lean does to the queue and to what every step keeps: one lemma for each definition that gives a state. -/
namespace Sys2Proof.Machine
open Sys2Proof

theorem State.showPower_follows {s : State} {a : State} (h : Follows a s) :
    Follows a (State.showPower s) := by
  unfold State.showPower
  with_reducible repeat' first
    | assumption | apply State.setReg_follows | apply State.setRf_follows
    | (intro x; refine Follows.use (a := a) (s := x) ?_ ?_; unfold x; rotate_left; try clear_value x; intro hx) | intro x | lift_lets
    | apply Follows.ite | apply Follows.foldl | apply Follows.forRange | split | dsimp only | refine Follows.fst (by assumption) ?_
    | refine Follows.keep ?_ ⟨rfl, Nat.le_refl _, Nat.le_refl _, rfl, rfl⟩

theorem State.aimAt_follows {s : State} {t : Nat} {a : State} (h : Follows a s) :
    Follows a (State.aimAt s t) := by
  unfold State.aimAt
  with_reducible repeat' first
    | assumption | apply State.showPower_follows | apply Follows.ite
    | refine Follows.keep ?_ ⟨rfl, Nat.le_refl _, Nat.le_refl _, rfl, rfl⟩

theorem State.aimNowhere_follows {s : State} {a : State} (h : Follows a s) :
    Follows a (State.aimNowhere s) := by
  unfold State.aimNowhere
  with_reducible repeat' first
    | assumption | apply State.showPower_follows | apply Follows.ite
    | refine Follows.keep ?_ ⟨rfl, Nat.le_refl _, Nat.le_refl _, rfl, rfl⟩

end Sys2Proof.Machine
end

