-- ==== Sys2Proof/Laws/FollowsDomains.lean ====
section
/-! SUPPORT. What Machine/Domains.lean does to the queue and to what every step keeps: one lemma for each definition that gives a state. -/
namespace Sys2Proof.Machine
open Sys2Proof

theorem State.clearMailbox_follows {s : State} {b : Nat} {a : State} (h : Follows a s) :
    Follows a (State.clearMailbox s b) := by
  unfold State.clearMailbox
  with_reducible repeat' first
    | assumption | apply State.put_follows

theorem State.endSet_follows {s : State} {e : Nat} {err : Nat} {a : State} (h : Follows a s) :
    Follows a (State.endSet s e err) := by
  unfold State.endSet
  with_reducible repeat' first
    | assumption | apply State.setReg_follows | apply State.setRf_follows | apply Follows.ite
    | refine Follows.keep ?_ ⟨rfl, Nat.le_refl _, Nat.le_refl _, rfl, rfl⟩

theorem State.endSets_follows {s : State} {err : Nat} {a : State} (h : Follows a s) :
    Follows a (State.endSets s err) := by
  unfold State.endSets
  with_reducible repeat' first
    | assumption | apply State.endSet_follows | apply Follows.ite | apply Follows.foldl | apply Follows.forRange | intro

theorem State.closeStaging_follows {s : State} {a : State} (h : Follows a s) :
    Follows a (State.closeStaging s) := by
  unfold State.closeStaging
  with_reducible repeat' first
    | assumption | apply State.setSlot_follows
    | (intro x; refine Follows.use (a := a) (s := x) ?_ ?_; unfold x; rotate_left; try clear_value x; intro hx) | intro x | lift_lets
    | apply Follows.ite | apply Follows.foldl | apply Follows.forRange | split | dsimp only | refine Follows.fst (by assumption) ?_
    | refine Follows.keep ?_ ⟨rfl, Nat.le_refl _, Nat.le_refl _, rfl, rfl⟩

theorem State.clearD1_follows {s : State} {a : State} (h : Follows a s) :
    Follows a (State.clearD1 s) := by
  unfold State.clearD1
  with_reducible repeat' first
    | assumption | exact Follows.same _ | apply State.evt_follows | apply State.endSets_follows | apply State.resetBlock_follows
    | apply State.capChange_follows | apply State.closeStaging_follows
    | (intro x; refine Follows.use (a := a) (s := x) ?_ ?_; unfold x; rotate_left; try clear_value x; intro hx)
    | (intro x; refine Follows.use (a := a) (s := x.1) ?_ ?_; unfold x; rotate_left; try clear_value x; intro hx)
    | (intro x; refine Follows.use (a := a) (s := x.state) ?_ ?_; unfold x; rotate_left; try clear_value x; intro hx)
    | (intro x; clear_value x) | intro x | lift_lets | apply Follows.ite | apply Follows.cond | apply Follows.foldl
    | apply Follows.forRange | split | dsimp only | refine Follows.fst (by assumption) ?_
    | refine Follows.keep ?_ ⟨rfl, Nat.le_refl _, Nat.le_refl _, rfl, rfl⟩
    | refine Follows.keep ?_ ⟨rfl, Nat.le_refl _, Nat.zero_le _, rfl, rfl⟩
    | refine Follows.keep ?_ ⟨rfl, Nat.zero_le _, Nat.le_refl _, rfl, rfl⟩

theorem State.clearGrove_follows {s : State} {g : Nat} {a : State} (h : Follows a s) :
    Follows a (State.clearGrove s g) := by
  unfold State.clearGrove
  with_reducible repeat' first
    | assumption | apply State.modGrove_follows | apply State.resetBlock_follows

theorem State.awaitRestart_follows {s : State} {a : State} (h : Follows a s) :
    Follows a (State.awaitRestart s) := by
  unfold State.awaitRestart
  with_reducible repeat' first
    | assumption | apply Follows.ite | refine Follows.keep ?_ ⟨rfl, Nat.le_refl _, Nat.le_refl _, rfl, rfl⟩

theorem State.markDawn_follows {s : State} {a : State} (h : Follows a s) :
    Follows a (State.markDawn s) := by
  unfold State.markDawn
  with_reducible repeat' first
    | assumption | apply State.putF_follows | apply Follows.ite
    | refine Follows.keep ?_ ⟨rfl, Nat.le_refl _, Nat.le_refl _, rfl, rfl⟩

theorem State.abandonTest_follows {s : State} {a : State} (h : Follows a s) :
    Follows a (State.abandonTest s) := by
  unfold State.abandonTest
  with_reducible repeat' first
    | assumption | apply State.showPower_follows | apply State.evt_follows | apply State.put_follows | apply Follows.ite
    | refine Follows.keep ?_ ⟨rfl, Nat.le_refl _, Nat.le_refl _, rfl, rfl⟩

theorem State.clearD2_follows {s : State} {a : State} (h : Follows a s) :
    Follows a (State.clearD2 s) := by
  unfold State.clearD2
  with_reducible repeat' first
    | assumption | apply State.missResult_follows | apply State.abandonChange_follows | apply State.clearGrove_follows
    | apply State.awaitRestart_follows | apply State.markDawn_follows | apply State.abandonTest_follows
    | (intro x; refine Follows.use (a := a) (s := x) ?_ ?_; unfold x; rotate_left; try clear_value x; intro hx) | intro x | lift_lets
    | apply Follows.ite | apply Follows.foldl | apply Follows.forRange | split | dsimp only | refine Follows.fst (by assumption) ?_
    | refine Follows.keep ?_ ⟨rfl, Nat.le_refl _, Nat.le_refl _, rfl, rfl⟩

theorem State.clearD3_follows {s : State} {a : State} (h : Follows a s) :
    Follows a (State.clearD3 s) := by
  unfold State.clearD3
  with_reducible repeat' first
    | assumption | apply State.abandonChange_follows | apply State.evictCtx_follows | apply State.modGrove_follows
    | apply State.abandonStep_follows | apply State.clearGrove_follows | apply State.abandonTest_follows
    | (intro x; refine Follows.use (a := a) (s := x) ?_ ?_; unfold x; rotate_left; try clear_value x; intro hx) | intro x | lift_lets
    | apply Follows.ite | apply Follows.foldl | apply Follows.forRange | split | dsimp only | refine Follows.fst (by assumption) ?_
    | refine Follows.keep ?_ ⟨rfl, Nat.le_refl _, Nat.le_refl _, rfl, rfl⟩

theorem State.endPortXfers_follows {s : State} {p : Nat} {a : State} (h : Follows a s) :
    Follows a (State.endPortXfers s p) := by
  unfold State.endPortXfers
  with_reducible repeat' first
    | assumption | apply State.endXfer_follows | apply State.count_follows | apply Follows.ite | apply Follows.foldl
    | apply Follows.forRange | intro

theorem State.clearPort_follows {s : State} {p : Nat} {a : State} (h : Follows a s) :
    Follows a (State.clearPort s p) := by
  unfold State.clearPort
  with_reducible repeat' first
    | assumption | apply State.resetBlock_follows | apply State.modPort_follows | apply State.endPortXfers_follows

theorem State.clearD8_follows {s : State} {a : State} (h : Follows a s) :
    Follows a (State.clearD8 s) := by
  unfold State.clearD8
  with_reducible repeat' first
    | assumption | apply State.loseLock_follows | apply State.resetBlock_follows | apply State.endSet_follows
    | (intro x; refine Follows.use (a := a) (s := x) ?_ ?_; unfold x; rotate_left; try clear_value x; intro hx) | intro x | lift_lets
    | apply Follows.ite | apply Follows.foldl | apply Follows.forRange | split | dsimp only | refine Follows.fst (by assumption) ?_
    | refine Follows.keep ?_ ⟨rfl, Nat.le_refl _, Nat.le_refl _, rfl, rfl⟩

theorem State.clearDomain_follows {s : State} {d : Nat} {a : State} (h : Follows a s) :
    Follows a (State.clearDomain s d) := by
  unfold State.clearDomain
  with_reducible repeat' first
    | assumption | apply State.clearD1_follows | apply State.clearD2_follows | apply State.clearD3_follows
    | apply State.clearMailbox_follows | apply State.closeStaging_follows | apply State.clearPort_follows
    | apply State.clearD8_follows
    | (intro x; refine Follows.use (a := a) (s := x) ?_ ?_; unfold x; rotate_left; try clear_value x; intro hx) | intro x | lift_lets
    | apply Follows.ite | apply Follows.foldl | apply Follows.forRange | split | dsimp only | refine Follows.fst (by assumption) ?_
    | refine Follows.keep ?_ ⟨rfl, Nat.le_refl _, Nat.le_refl _, rfl, rfl⟩

theorem State.enterReset_follows {s : State} {d : Nat} {q : ResetRequest} {a : State} (h : Follows a s) :
    Follows a (State.enterReset s d q) := by
  unfold State.enterReset
  with_reducible repeat' first
    | assumption | apply State.dropRequests_follows | apply State.modDom_follows | apply State.markReset_follows
    | apply State.clearDomain_follows | apply State.report_follows | apply Follows.ite
    | refine Follows.keep ?_ ⟨rfl, Nat.le_refl _, Nat.le_refl _, rfl, rfl⟩

theorem State.domainReq_follows {s : State} {v : Nat} {a : State} (h : Follows a s) :
    Follows a (State.domainReq s v) := by
  unfold State.domainReq
  with_reducible repeat' first
    | assumption | apply State.requestReset_follows | apply Follows.ite | apply Follows.foldl | apply Follows.forRange | intro

theorem execSysDomainReq_follows {init : Initiator} {value : Word} {s : State} {a : State} (h : Follows a s) :
    Yields a (execSysDomainReq init value s) := by
  unfold execSysDomainReq
  with_reducible repeat' first
    | apply Yields.next | assumption | apply State.viaWrite_follows | apply State.domainReq_follows | apply Follows.ite
    | apply Follows.foldl | apply Follows.forRange | intro

theorem execExternalReset_follows {pulseNs : Nat} {s : State} {a : State} (h : Follows a s) :
    Yields a (execExternalReset pulseNs s) := by
  unfold execExternalReset
  with_reducible repeat' first
    | apply Yields.next | assumption | apply State.holdD0_follows | apply State.tickFresh_follows | apply State.resetD0_follows
    | apply Follows.ite | refine Follows.keep ?_ ⟨rfl, Nat.le_refl _, Nat.le_refl _, rfl, rfl⟩

theorem State.clearLast_follows {s : State} {a : State} (h : Follows a s) :
    Follows a (State.clearLast s) := by
  unfold State.clearLast
  with_reducible repeat' first
    | assumption | apply Follows.ite | refine Follows.keep ?_ ⟨rfl, Nat.le_refl _, Nat.le_refl _, rfl, rfl⟩

theorem State.capLocal_follows {s : State} {a : State} (h : Follows a s) :
    Follows a (State.capLocal s) := by
  unfold State.capLocal
  with_reducible repeat' first
    | assumption | apply State.capChange_follows

theorem State.showMgmt_follows {s : State} {a : State} (h : Follows a s) :
    Follows a (State.showMgmt s) := by
  unfold State.showMgmt
  with_reducible repeat' first
    | assumption | apply State.put_follows

theorem State.showLink_follows {s : State} {a : State} (h : Follows a s) :
    Follows a (State.showLink s) := by
  unfold State.showLink
  with_reducible repeat' first
    | assumption | apply State.put_follows

theorem State.resumeRecorder_follows {s : State} {a : State} (h : Follows a s) :
    Follows a (State.resumeRecorder s) := by
  unfold State.resumeRecorder
  with_reducible repeat' first
    | assumption | exact Follows.same _ | apply State.storeLast_follows | apply State.setRf_follows | apply State.report_follows
    | (intro x; refine Follows.use (a := a) (s := x) ?_ ?_; unfold x; rotate_left; try clear_value x; intro hx)
    | (intro x; refine Follows.use (a := a) (s := x.1) ?_ ?_; unfold x; rotate_left; try clear_value x; intro hx)
    | (intro x; refine Follows.use (a := a) (s := x.state) ?_ ?_; unfold x; rotate_left; try clear_value x; intro hx) | intro x
    | lift_lets | apply Follows.ite | apply Follows.cond | apply Follows.foldl | apply Follows.forRange | split | dsimp only
    | refine Follows.fst (by assumption) ?_ | refine Follows.keep ?_ ⟨rfl, Nat.le_refl _, Nat.le_refl _, rfl, rfl⟩
    | refine Follows.keep ?_ ⟨rfl, Nat.le_refl _, Nat.zero_le _, rfl, rfl⟩
    | refine Follows.keep ?_ ⟨rfl, Nat.zero_le _, Nat.le_refl _, rfl, rfl⟩

theorem State.releaseD1_follows {s : State} {a : State} (h : Follows a s) :
    Follows a (State.releaseD1 s) := by
  unfold State.releaseD1
  with_reducible repeat' first
    | assumption | apply State.putF_follows | apply State.leaveReset_follows | apply State.clearLast_follows | apply State.showMgmt_follows
    | apply State.showLink_follows | apply State.showMode_follows | apply State.capLocal_follows | apply State.resumeRecorder_follows
    | apply State.showLayout_follows | apply State.showIdentity_follows | apply State.resolveCommit_follows | apply Follows.ite
    | apply Follows.foldl | apply Follows.forRange | intro

theorem State.releaseD3_follows {s : State} {a : State} (h : Follows a s) :
    Follows a (State.releaseD3 s) := by
  unfold State.releaseD3
  with_reducible repeat' first
    | assumption | apply State.faultCtx_follows | apply State.modCtx_follows | apply State.stopNow_follows
    | (intro x; refine Follows.use (a := a) (s := x) ?_ ?_; unfold x; rotate_left; try clear_value x; intro hx) | intro x | lift_lets
    | apply Follows.ite | apply Follows.foldl | apply Follows.forRange | split | dsimp only | refine Follows.fst (by assumption) ?_
    | refine Follows.keep ?_ ⟨rfl, Nat.le_refl _, Nat.le_refl _, rfl, rfl⟩

theorem State.afterRelease_follows {s : State} {d : Nat} {a : State} (h : Follows a s) :
    Follows a (State.afterRelease s d) := by
  unfold State.afterRelease
  with_reducible repeat' first
    | assumption | apply State.releaseD3_follows | apply State.loadOs_follows | apply State.loadService_follows
    | (intro x; refine Follows.use (a := a) (s := x) ?_ ?_; unfold x; rotate_left; try clear_value x; intro hx) | intro x | lift_lets
    | apply Follows.ite | apply Follows.foldl | apply Follows.forRange | split | dsimp only | refine Follows.fst (by assumption) ?_
    | refine Follows.keep ?_ ⟨rfl, Nat.le_refl _, Nat.le_refl _, rfl, rfl⟩

theorem State.releaseDomain_follows {s : State} {d : Nat} {a : State} (h : Follows a s) :
    Follows a (State.releaseDomain s d) := by
  unfold State.releaseDomain
  with_reducible repeat' first
    | assumption | apply State.releaseD1_follows | apply State.afterRelease_follows | apply State.leaveReset_follows
    | apply Follows.ite | refine Follows.keep ?_ ⟨rfl, Nat.le_refl _, Nat.le_refl _, rfl, rfl⟩

theorem State.romRoles_follows {s : State} {a : State} (h : Follows a s) :
    Follows a (State.romRoles s) := by
  unfold State.romRoles
  with_reducible repeat' first
    | assumption | apply State.setRoles_follows

theorem State.resetDomain_follows {s : State} {d : Nat} {q : ResetRequest} {a : State} (h : Follows a s) :
    Follows a (State.resetDomain s d q) := by
  unfold State.resetDomain
  with_reducible repeat' first
    | assumption | apply State.romRoles_follows | apply State.enterReset_follows | apply Follows.ite
    | refine Follows.keep ?_ ⟨rfl, Nat.le_refl _, Nat.le_refl _, rfl, rfl⟩

theorem State.restartPasses_follows {s : State} {g : Nat} {a : State} (h : Follows a s) :
    Follows a (State.restartPasses s g) := by
  unfold State.restartPasses
  with_reducible repeat' first
    | assumption | apply State.modGrove_follows

theorem State.takeReset_follows {s : State} {d : Nat} {a : State} (h : Follows a s) :
    Follows a (State.takeReset s d) := by
  unfold State.takeReset
  with_reducible repeat' first
    | assumption | apply State.resetDomain_follows
    | (intro x; refine Follows.use (a := a) (s := x) ?_ ?_; unfold x; rotate_left; try clear_value x; intro hx) | intro x | lift_lets
    | apply Follows.ite | apply Follows.foldl | apply Follows.forRange | split | dsimp only | refine Follows.fst (by assumption) ?_
    | refine Follows.keep ?_ ⟨rfl, Nat.le_refl _, Nat.le_refl _, rfl, rfl⟩

theorem execDomainReset_follows {d : Fin 9} {s : State} {a : State} (h : Follows a s) :
    Yields a (execDomainReset d s) := by
  unfold execDomainReset
  with_reducible repeat' first
    | apply Yields.next | assumption | apply State.takeReset_follows

theorem execPowerOnReset_follows {s : State} {a : State} (h : Follows a s) :
    Yields a (execPowerOnReset s) := by
  unfold execPowerOnReset
  with_reducible repeat' first
    | apply Yields.next | assumption | apply State.holdD0_follows | apply State.resetD0_follows

end Sys2Proof.Machine
end

