-- ==== Sys2Proof/Laws/FollowsDdrCtl.lean ====
section
/-! SUPPORT. What Machine/DdrCtl.lean does to the queue and to what every step keeps: one lemma for each definition that gives a state. -/
namespace Sys2Proof.Machine
open Sys2Proof

theorem State.endTraining_follows {s : State} {r : Nat × Nat × Bool} {restored : Bool} {a : State} (h : Follows a s) :
    Follows a (State.endTraining s r restored) := by
  unfold State.endTraining
  with_reducible repeat' first
    | assumption | apply State.put_follows | apply State.evt_follows | apply State.reportOwn_follows | apply Follows.ite
    | refine Follows.keep ?_ ⟨rfl, Nat.le_refl _, Nat.le_refl _, rfl, rfl⟩

theorem State.fullTraining_follows {s : State} {oks : List Nat} {a : State} (h : Follows a s) :
    Follows a (State.fullTraining s oks) := by
  unfold State.fullTraining
  with_reducible repeat' first
    | assumption | apply State.endTraining_follows | apply Follows.ite
    | refine Follows.keep ?_ ⟨rfl, Nat.le_refl _, Nat.le_refl _, rfl, rfl⟩

theorem State.ddrTraining_follows {s : State} {oks : List Nat} {a : State} (h : Follows a s) :
    Follows a (State.ddrTraining s oks) := by
  unfold State.ddrTraining
  with_reducible repeat' first
    | assumption | apply State.fullTraining_follows | apply Follows.ite
    | refine Follows.keep ?_ ⟨rfl, Nat.le_refl _, Nat.le_refl _, rfl, rfl⟩

theorem execDdrTraining_follows {speeds : List Nat} {s : State} {a : State} (h : Follows a s) :
    Yields a (execDdrTraining speeds s) := by
  unfold execDdrTraining
  with_reducible repeat' first
    | apply Yields.next | assumption | apply State.ddrTraining_follows

theorem State.capDdr_follows {s : State} {a : State} (h : Follows a s) :
    Follows a (State.capDdr s) := by
  unfold State.capDdr
  with_reducible repeat' first
    | assumption | apply State.capChange_follows

theorem execDdrTrainingEnd_follows {s : State} {a : State} (h : Follows a s) :
    Yields a (execDdrTrainingEnd s) := by
  unfold execDdrTrainingEnd
  with_reducible repeat' first
    | apply Yields.next | assumption | apply State.capDdr_follows | apply Follows.ite
    | refine Follows.keep ?_ ⟨rfl, Nat.le_refl _, Nat.le_refl _, rfl, rfl⟩

theorem State.seekScrub_follows {s : State} {x1 : Nat} {a : State} (h : Follows a s) :
    Follows a (State.seekScrub s x1) := by
  fun_induction State.seekScrub s x1
  all_goals with_reducible repeat' first
    | assumption | apply_assumption -exfalso -symm
    | (intro x; refine Follows.use (a := a) (s := x) ?_ ?_; unfold x; rotate_left; try clear_value x; intro hx) | intro x | lift_lets
    | apply Follows.ite | apply Follows.foldl | apply Follows.forRange | split | dsimp only | refine Follows.fst (by assumption) ?_
    | refine Follows.keep ?_ ⟨rfl, Nat.le_refl _, Nat.le_refl _, rfl, rfl⟩

theorem State.scrubPass_follows {s : State} {a : State} (h : Follows a s) :
    Follows a (State.scrubPass s) := by
  unfold State.scrubPass
  with_reducible repeat' first
    | assumption | apply State.evt_follows | apply State.count_follows | apply Follows.ite
    | refine Follows.keep ?_ ⟨rfl, Nat.le_refl _, Nat.le_refl _, rfl, rfl⟩

theorem State.scrub_follows {s : State} {symbols : Nat} {a : State} (h : Follows a s) :
    Follows a (State.scrub s symbols) := by
  unfold State.scrub
  with_reducible repeat' first
    | assumption | apply State.seekScrub_follows | apply State.meetErrors_follows | apply State.reportBad_follows
    | apply State.scrubPass_follows | apply Follows.ite | refine Follows.keep ?_ ⟨rfl, Nat.le_refl _, Nat.le_refl _, rfl, rfl⟩

theorem State.completeHeld_follows {s : State} {a' : Initiator × AccessKind × Nat × Nat × Nat} {a : State} (h : Follows a s) :
    Follows a (State.completeHeld s a') := by
  unfold State.completeHeld
  with_reducible repeat' first
    | assumption | apply State.denyAccess_follows | apply State.memAccess_follows | apply Follows.ite
    | refine Follows.keep ?_ ⟨rfl, Nat.le_refl _, Nat.le_refl _, rfl, rfl⟩

theorem State.ddrRestore_follows {s : State} {ok : Bool} {oks : List Nat} {a : State} (h : Follows a s) :
    Follows a (State.ddrRestore s ok oks) := by
  unfold State.ddrRestore
  with_reducible repeat' first
    | assumption | apply State.endTraining_follows | apply State.fullTraining_follows | apply State.reportOwn_follows
    | apply State.loseMem_follows | apply State.capDdr_follows | apply State.completeHeld_follows
    | (intro x; refine Follows.use (a := a) (s := x) ?_ ?_; unfold x; rotate_left; try clear_value x; intro hx) | intro x | lift_lets
    | apply Follows.ite | apply Follows.foldl | apply Follows.forRange | split | dsimp only | refine Follows.fst (by assumption) ?_
    | refine Follows.keep ?_ ⟨rfl, Nat.le_refl _, Nat.le_refl _, rfl, rfl⟩

theorem execDdrRestore_follows {ok : Bool} {speeds : List Nat} {s : State} {a : State} (h : Follows a s) :
    Yields a (execDdrRestore ok speeds s) := by
  unfold execDdrRestore
  with_reducible repeat' first
    | apply Yields.next | assumption | apply State.ddrRestore_follows

theorem execScrubLine_follows {symbols : Nat} {s : State} {a : State} (h : Follows a s) :
    Yields a (execScrubLine symbols s) := by
  unfold execScrubLine
  with_reducible repeat' first
    | apply Yields.next | assumption | apply State.scrub_follows

end Sys2Proof.Machine
end

