-- ==== Sys2Proof/Laws/FollowsPicOps.lean ====
section
/-! SUPPORT. What Machine/PicOps.lean does to the queue and to what every step keeps: one lemma for each definition that gives a state. -/
namespace Sys2Proof.Machine
open Sys2Proof

theorem State.showGeometry_follows {s : State} {a : State} (h : Follows a s) :
    Follows a (State.showGeometry s) := by
  unfold State.showGeometry
  with_reducible repeat' first
    | assumption | apply State.writePicture_follows | apply State.putF_follows | apply State.evt_follows | apply State.put_follows
    | (intro x; refine Follows.use (a := a) (s := x) ?_ ?_; unfold x; rotate_left; try clear_value x; intro hx) | intro x | lift_lets
    | apply Follows.ite | apply Follows.foldl | apply Follows.forRange | split | dsimp only | refine Follows.fst (by assumption) ?_
    | refine Follows.keep ?_ ⟨rfl, Nat.le_refl _, Nat.le_refl _, rfl, rfl⟩

theorem State.showHpd_follows {s : State} {a : State} (h : Follows a s) :
    Follows a (State.showHpd s) := by
  unfold State.showHpd
  with_reducible repeat' first
    | assumption | apply State.putF_follows

theorem State.coverPending_follows {s : State} {a : State} (h : Follows a s) :
    Follows a (State.coverPending s) := by
  unfold State.coverPending
  with_reducible repeat' first
    | assumption | apply Follows.ite | refine Follows.keep ?_ ⟨rfl, Nat.le_refl _, Nat.le_refl _, rfl, rfl⟩

theorem State.loadEdid_follows {s : State} {a : State} (h : Follows a s) :
    Follows a (State.loadEdid s) := by
  unfold State.loadEdid
  with_reducible repeat' first
    | assumption | apply State.writeEdid_follows | apply State.put_follows
    | (intro x; refine Follows.use (a := a) (s := x) ?_ ?_; unfold x; rotate_left; try clear_value x; intro hx) | intro x | lift_lets
    | apply Follows.ite | apply Follows.foldl | apply Follows.forRange | split | dsimp only | refine Follows.fst (by assumption) ?_
    | refine Follows.keep ?_ ⟨rfl, Nat.le_refl _, Nat.le_refl _, rfl, rfl⟩

theorem State.clearFeatures_follows {s : State} {a : State} (h : Follows a s) :
    Follows a (State.clearFeatures s) := by
  unfold State.clearFeatures
  with_reducible repeat' first
    | assumption | apply State.evt_follows | apply Follows.ite | refine Follows.keep ?_ ⟨rfl, Nat.le_refl _, Nat.le_refl _, rfl, rfl⟩

end Sys2Proof.Machine
end

