-- ==== Sys2Proof/Laws/FollowsListenOps.lean ====
section
/-! SUPPORT. What Machine/ListenOps.lean does to the queue and to what every step keeps: one lemma for each definition that gives a state. -/
namespace Sys2Proof.Machine
open Sys2Proof

theorem State.cascadeEvent_follows {s : State} {bit : Nat} {a : State} (h : Follows a s) :
    Follows a (State.cascadeEvent s bit) := by
  unfold State.cascadeEvent
  with_reducible repeat' first
    | assumption | apply State.report_follows | apply State.evt_follows

theorem State.holdVote_follows {s : State} {on : Bool} {a : State} (h : Follows a s) :
    Follows a (State.holdVote s on) := by
  unfold State.holdVote
  with_reducible repeat' first
    | assumption | apply State.showPower_follows | apply State.put_follows | apply State.putF_follows

theorem State.setStage_follows {s : State} {n : Nat} {a : State} (h : Follows a s) :
    Follows a (State.setStage s n) := by
  unfold State.setStage
  with_reducible repeat' first
    | assumption | apply State.holdVote_follows | apply State.putF_follows

theorem State.assertWake_follows {s : State} {reason : Nat} {a : State} (h : Follows a s) :
    Follows a (State.assertWake s reason) := by
  unfold State.assertWake
  with_reducible repeat' first
    | assumption | apply State.put_follows | apply State.msixSignal_follows | apply Follows.ite
    | refine Follows.keep ?_ ⟨rfl, Nat.le_refl _, Nat.le_refl _, rfl, rfl⟩

theorem State.endCascade_follows {s : State} {reason : Nat} {a : State} (h : Follows a s) :
    Follows a (State.endCascade s reason) := by
  unfold State.endCascade
  with_reducible repeat' first
    | assumption | apply State.putF_follows | apply State.setStage_follows | apply State.assertWake_follows | apply Follows.ite
    | refine Follows.keep ?_ ⟨rfl, Nat.le_refl _, Nat.le_refl _, rfl, rfl⟩

theorem State.loseUtterance_follows {s : State} {a : State} (h : Follows a s) :
    Follows a (State.loseUtterance s) := by
  unfold State.loseUtterance
  with_reducible repeat' first
    | assumption | apply State.cascadeEvent_follows | apply State.count_follows | apply State.endCascade_follows

theorem State.checkStart_follows {s : State} {a : State} (h : Follows a s) :
    Follows a (State.checkStart s) := by
  unfold State.checkStart
  with_reducible repeat' first
    | assumption | apply State.loseUtterance_follows | apply Follows.ite
    | refine Follows.keep ?_ ⟨rfl, Nat.le_refl _, Nat.le_refl _, rfl, rfl⟩

theorem State.publish_follows {s : State} {a : State} (h : Follows a s) :
    Follows a (State.publish s) := by
  unfold State.publish
  with_reducible repeat' first
    | assumption | apply State.wrLE_follows
    | (intro x; refine Follows.use (a := a) (s := x) ?_ ?_; unfold x; rotate_left; try clear_value x; intro hx) | intro x | lift_lets
    | apply Follows.ite | apply Follows.foldl | apply Follows.forRange | split | dsimp only | refine Follows.fst (by assumption) ?_
    | refine Follows.keep ?_ ⟨rfl, Nat.le_refl _, Nat.le_refl _, rfl, rfl⟩

theorem State.afterDetection_follows {s : State} {a : State} (h : Follows a s) :
    Follows a (State.afterDetection s) := by
  unfold State.afterDetection
  with_reducible repeat' first
    | assumption | apply State.endCascade_follows | apply State.checkStart_follows | apply State.setStage_follows | apply Follows.ite
    | refine Follows.keep ?_ ⟨rfl, Nat.le_refl _, Nat.le_refl _, rfl, rfl⟩

theorem State.rejectVerdict_follows {s : State} {outside : Bool} {a : State} (h : Follows a s) :
    Follows a (State.rejectVerdict s outside) := by
  unfold State.rejectVerdict
  with_reducible repeat' first
    | assumption | apply State.evt_follows | apply State.count_follows | apply State.cascadeEvent_follows
    | apply State.endCascade_follows | apply Follows.ite | refine Follows.keep ?_ ⟨rfl, Nat.le_refl _, Nat.le_refl _, rfl, rfl⟩

theorem State.showPresence_follows {s : State} {a : State} (h : Follows a s) :
    Follows a (State.showPresence s) := by
  unfold State.showPresence
  with_reducible repeat' first
    | assumption | apply State.putF_follows
    | (intro x; refine Follows.use (a := a) (s := x) ?_ ?_; unfold x; rotate_left; try clear_value x; intro hx) | intro x | lift_lets
    | apply Follows.ite | apply Follows.foldl | apply Follows.forRange | split | dsimp only | refine Follows.fst (by assumption) ?_
    | refine Follows.keep ?_ ⟨rfl, Nat.le_refl _, Nat.le_refl _, rfl, rfl⟩

theorem State.takeVerdict_follows {s : State} {a' : Nat} {a : State} (h : Follows a s) :
    Follows a (State.takeVerdict s a') := by
  unfold State.takeVerdict
  lift_lets
  intro v u p0 inside s1 s2 m s3
  have h2 : Follows a s2 := State.put_follows (State.put_follows (State.put_follows (State.put_follows h)))
  have h3 : Follows a s3 := State.evt_follows (Follows.keep h2 ⟨rfl, Nat.le_refl _, Nat.le_refl _, rfl, rfl⟩)
  split
  · exact h
  · split
    · exact Follows.ite (Follows.ite (State.endCascade_follows h3) (State.checkStart_follows (State.setStage_follows h3)))
        (State.rejectVerdict_follows h)
    · exact State.rejectVerdict_follows h
    · exact h

theorem State.wakeAssist_follows {s : State} {a : State} (h : Follows a s) :
    Follows a (State.wakeAssist s) := by
  unfold State.wakeAssist
  with_reducible repeat' first
    | assumption | apply State.wakeCtx_follows | apply State.considerSwaps_follows | apply Follows.ite
    | refine Follows.keep ?_ ⟨rfl, Nat.le_refl _, Nat.le_refl _, rfl, rfl⟩

theorem State.deliverText_follows {s : State} {a' : Nat} {count : Nat} {end_ : Nat} {a : State} (h : Follows a s) :
    Follows a (State.deliverText s a' count end_) := by
  unfold State.deliverText
  lift_lets
  intro toks s1 s2 lapped s3 s4 s5 m s6
  have h1 : Follows a s1 := State.put_follows h
  have h2 : Follows a s2 := Follows.forRange h1 (fun _ _ k => State.put_follows k)
  have h3 : Follows a s3 := State.evt_follows (State.count_follows h2)
  have h4 : Follows a s4 := Follows.ite (State.evt_follows h3) h3
  have h5 : Follows a s5 := State.wakeAssist_follows h4
  have h6 : Follows a s6 := Follows.keep h5 ⟨rfl, Nat.le_refl _, Nat.le_refl _, rfl, rfl⟩
  exact Follows.ite (State.endCascade_follows h6) (State.putF_follows (State.assertWake_follows h6))

theorem State.takeResult_follows {s : State} {a' : Nat} {a : State} (h : Follows a s) :
    Follows a (State.takeResult s a') := by
  unfold State.takeResult
  with_reducible repeat' first
    | assumption | apply State.put_follows | apply State.putF_follows | apply State.deliverText_follows | apply Follows.ite
    | refine Follows.keep ?_ ⟨rfl, Nat.le_refl _, Nat.le_refl _, rfl, rfl⟩

theorem State.wakeBoundary_follows {s : State} {ran : Bool} {complete : Bool} {a : State} (h : Follows a s) :
    Follows a (State.wakeBoundary s ran complete) := by
  unfold State.wakeBoundary
  with_reducible repeat' first
    | assumption | apply State.putF_follows | apply State.takeVerdict_follows | apply State.takeResult_follows
    | apply State.evt_follows | apply State.count_follows | apply State.checkStart_follows | apply State.publish_follows
    | (intro x; refine Follows.use (a := a) (s := x) ?_ ?_; unfold x; rotate_left; try clear_value x; intro hx) | intro x | lift_lets
    | apply Follows.ite | apply Follows.foldl | apply Follows.forRange | split | dsimp only | refine Follows.fst (by assumption) ?_
    | refine Follows.keep ?_ ⟨rfl, Nat.le_refl _, Nat.le_refl _, rfl, rfl⟩

theorem State.showMic_follows {s : State} {a : State} (h : Follows a s) :
    Follows a (State.showMic s) := by
  unfold State.showMic
  with_reducible repeat' first
    | assumption | apply State.putF_follows

theorem State.writeListening_follows {s : State} {p : Plan} {a : State} (h : Follows a s) :
    Follows a (State.writeListening s p) := by
  unfold State.writeListening
  with_reducible repeat' first
    | assumption | apply State.put_follows | apply State.showMic_follows | apply State.evt_follows
    | (intro x; refine Follows.use (a := a) (s := x) ?_ ?_; unfold x; rotate_left; try clear_value x; intro hx) | intro x | lift_lets
    | apply Follows.ite | apply Follows.foldl | apply Follows.forRange | split | dsimp only | refine Follows.fst (by assumption) ?_
    | refine Follows.keep ?_ ⟨rfl, Nat.le_refl _, Nat.le_refl _, rfl, rfl⟩

theorem State.applyDepth_follows {s : State} {a : State} (h : Follows a s) :
    Follows a (State.applyDepth s) := by
  unfold State.applyDepth
  with_reducible repeat' first
    | assumption | apply State.putF_follows | apply State.endCascade_follows | apply Follows.ite
    | refine Follows.keep ?_ ⟨rfl, Nat.le_refl _, Nat.le_refl _, rfl, rfl⟩

end Sys2Proof.Machine
end

