-- ==== Sys2Proof/Laws/FollowsMode.lean ====
section
/-! SUPPORT. What Machine/Mode.lean does to the queue and to what every step keeps: one lemma for each definition that gives a state. -/
namespace Sys2Proof.Machine
open Sys2Proof

theorem State.newRegions_follows {s : State} {p : Plan} {old : Nat} {new : Nat} {a : State} (h : Follows a s) :
    Follows a (State.newRegions s p old new) := by
  unfold State.newRegions
  with_reducible repeat' first
    | assumption | apply State.writeRegion_follows | apply Follows.ite | apply Follows.foldl | apply Follows.forRange | intro

theorem State.switchTick_follows {s : State} {picture : Bool} {a : State} (h : Follows a s) :
    Follows a (State.switchTick s picture) := by
  unfold State.switchTick
  with_reducible repeat' first
    | assumption | apply State.putF_follows | apply State.evt_follows | apply State.endLock_follows | apply State.unlockKept_follows
    | apply Follows.ite | refine Follows.keep ?_ ⟨rfl, Nat.le_refl _, Nat.le_refl _, rfl, rfl⟩

theorem State.switchClock_follows {s : State} {a : State} (h : Follows a s) :
    Follows a (State.switchClock s) := by
  unfold State.switchClock
  with_reducible repeat' first
    | assumption | apply State.putF_follows | apply Follows.ite
    | refine Follows.keep ?_ ⟨rfl, Nat.le_refl _, Nat.le_refl _, rfl, rfl⟩

theorem State.enterMode_follows {s : State} {m : Nat} {a : State} (h : Follows a s) :
    Follows a (State.enterMode s m) := by
  unfold State.enterMode
  with_reducible repeat' first
    | assumption | apply State.coverPending_follows | apply State.setRoles_follows | apply State.switchTick_follows
    | apply State.switchClock_follows | apply State.showGeometry_follows | apply State.clearFeatures_follows
    | apply State.setWindows_follows | apply State.considerSwaps_follows | apply State.applyDepth_follows | apply Follows.ite
    | refine Follows.keep ?_ ⟨rfl, Nat.le_refl _, Nat.le_refl _, rfl, rfl⟩

theorem State.arrive_follows {s : State} {t : Nat} {a : State} (h : Follows a s) :
    Follows a (State.arrive s t) := by
  unfold State.arrive
  with_reducible repeat' first
    | assumption | apply State.aimNowhere_follows | apply State.evt_follows | apply State.setRf_follows

theorem State.powerUpper_follows {s : State} {a : State} (h : Follows a s) :
    Follows a (State.powerUpper s) := by
  unfold State.powerUpper
  with_reducible repeat' first
    | assumption | apply State.setPower_follows | apply Follows.ite | apply Follows.foldl | apply Follows.forRange | intro

theorem State.wantMode_follows {s : State} {t : Nat} {a : State} (h : Follows a s) :
    Follows a (State.wantMode s t) := by
  unfold State.wantMode
  with_reducible repeat' first
    | assumption | apply State.showMode_follows | apply Follows.ite
    | refine Follows.keep ?_ ⟨rfl, Nat.le_refl _, Nat.le_refl _, rfl, rfl⟩

theorem State.dropHeld_follows {s : State} {a : State} (h : Follows a s) :
    Follows a (State.dropHeld s) := by
  unfold State.dropHeld
  with_reducible repeat' first
    | assumption | apply Follows.ite | refine Follows.keep ?_ ⟨rfl, Nat.le_refl _, Nat.le_refl _, rfl, rfl⟩

theorem State.leaveS1_follows {s : State} {a : State} (h : Follows a s) :
    Follows a (State.leaveS1 s) := by
  unfold State.leaveS1
  with_reducible repeat' first
    | assumption | apply State.evt_follows | apply State.arrive_follows | apply State.powerUpper_follows
    | apply State.wantMode_follows | apply State.dropHeld_follows

theorem State.finishS1_follows {s : State} {a : State} (h : Follows a s) :
    Follows a (State.finishS1 s) := by
  unfold State.finishS1
  with_reducible repeat' first
    | assumption | apply State.arrive_follows | apply State.leaveS1_follows | apply State.aimAt_follows
    | (intro x; refine Follows.use (a := a) (s := x) ?_ ?_; unfold x; rotate_left; try clear_value x; intro hx) | intro x | lift_lets
    | apply Follows.ite | apply Follows.foldl | apply Follows.forRange | split | dsimp only | refine Follows.fst (by assumption) ?_
    | refine Follows.keep ?_ ⟨rfl, Nat.le_refl _, Nat.le_refl _, rfl, rfl⟩

theorem State.modeSwitch_follows {s : State} {a : State} (h : Follows a s) :
    Follows a (State.modeSwitch s) := by
  unfold State.modeSwitch
  with_reducible repeat' first
    | assumption | apply State.newRegions_follows | apply State.enterMode_follows | apply State.showMode_follows
    | apply State.evt_follows | apply State.put_follows | apply State.modeEvent_follows | apply State.finishS1_follows
    | apply Follows.ite | refine Follows.keep ?_ ⟨rfl, Nat.le_refl _, Nat.le_refl _, rfl, rfl⟩

theorem State.startRaise_follows {s : State} {op : Nat} {a : State} (h : Follows a s) :
    Follows a (State.startRaise s op) := by
  unfold State.startRaise
  with_reducible repeat' first
    | assumption | apply Follows.ite | refine Follows.keep ?_ ⟨rfl, Nat.le_refl _, Nat.le_refl _, rfl, rfl⟩

theorem State.takeChange_follows {s : State} {a : State} (h : Follows a s) :
    Follows a (State.takeChange s) := by
  unfold State.takeChange
  with_reducible repeat' first
    | assumption | apply State.showMode_follows | apply State.startRaise_follows
    | (intro x; refine Follows.use (a := a) (s := x) ?_ ?_; unfold x; rotate_left; try clear_value x; intro hx) | intro x | lift_lets
    | apply Follows.ite | apply Follows.foldl | apply Follows.forRange | split | dsimp only | refine Follows.fst (by assumption) ?_
    | refine Follows.keep ?_ ⟨rfl, Nat.le_refl _, Nat.le_refl _, rfl, rfl⟩

theorem execModeChangeTake_follows {s : State} {a : State} (h : Follows a s) :
    Yields a (execModeChangeTake s) := by
  unfold execModeChangeTake
  with_reducible repeat' first
    | apply Yields.next | assumption | apply State.takeChange_follows

theorem State.weightsResident_follows {s : State} {a : State} (h : Follows a s) :
    Follows a (State.weightsResident s) := by
  unfold State.weightsResident
  with_reducible repeat' first
    | assumption | apply State.evictAll_follows | apply State.parkGrove_follows | apply State.loadImages_follows
    | (intro x; refine Follows.use (a := a) (s := x) ?_ ?_; unfold x; rotate_left; try clear_value x; intro hx) | intro x | lift_lets
    | apply Follows.ite | apply Follows.foldl | apply Follows.forRange | split | dsimp only | refine Follows.fst (by assumption) ?_
    | refine Follows.keep ?_ ⟨rfl, Nat.le_refl _, Nat.le_refl _, rfl, rfl⟩

theorem execModeWeightsResident_follows {s : State} {a : State} (h : Follows a s) :
    Yields a (execModeWeightsResident s) := by
  unfold execModeWeightsResident
  with_reducible repeat' first
    | apply Yields.next | assumption | apply State.weightsResident_follows

theorem State.holdChange_follows {s : State} {a : State} (h : Follows a s) :
    Follows a (State.holdChange s) := by
  unfold State.holdChange
  with_reducible repeat' first
    | assumption | apply State.abandonChange_follows | apply State.showMode_follows | apply Follows.ite
    | refine Follows.keep ?_ ⟨rfl, Nat.le_refl _, Nat.le_refl _, rfl, rfl⟩

theorem execModeSwitch_follows {s : State} {a : State} (h : Follows a s) :
    Yields a (execModeSwitch s) := by
  unfold execModeSwitch
  with_reducible repeat' first
    | apply Yields.next | assumption | apply State.modeSwitch_follows

theorem State.requestMode_follows {s : State} {t : Nat} {a : State} (h : Follows a s) :
    Follows a (State.requestMode s t) := by
  unfold State.requestMode
  with_reducible repeat' first
    | assumption | apply State.reportOwn_follows | apply State.evt_follows | apply State.showMode_follows
    | apply State.wantMode_follows | apply Follows.ite | refine Follows.keep ?_ ⟨rfl, Nat.le_refl _, Nat.le_refl _, rfl, rfl⟩

theorem State.modeReq_follows {s : State} {kernel : Bool} {v : Nat} {a : State} (h : Follows a s) :
    Follows a (State.modeReq s kernel v) := by
  unfold State.modeReq
  with_reducible repeat' first
    | assumption | apply State.requestMode_follows | apply State.storeReg_follows

theorem execModeReq_follows {init : Initiator} {value : Word} {s : State} {a : State} (h : Follows a s) :
    Yields a (execModeReq init value s) := by
  unfold execModeReq
  with_reducible repeat' first
    | apply Yields.next | assumption | apply State.viaWrite_follows | apply State.modeReq_follows | apply Follows.ite
    | apply Follows.foldl | apply Follows.forRange | intro

end Sys2Proof.Machine
end

