-- ==== Sys2Proof/Laws/FollowsRingOps.lean ====
section
/-! SUPPORT. What Machine/RingOps.lean does to the queue and to what every step keeps: one lemma for each definition that gives a state. -/
namespace Sys2Proof.Machine
open Sys2Proof

theorem State.holdPort_follows {s : State} {p : Nat} {q : ResetRequest} {a : State} (h : Follows a s) :
    Follows a (State.holdPort s p q) := by
  unfold State.holdPort
  with_reducible repeat' first
    | assumption | apply State.enterReset_follows

theorem State.capSolo_follows {s : State} {p : Plan} {a : State} (h : Follows a s) :
    Follows a (State.capSolo s p) := by
  unfold State.capSolo
  with_reducible repeat' first
    | assumption | apply State.capChange_follows

theorem State.goSolo_follows {s : State} {a : State} (h : Follows a s) :
    Follows a (State.goSolo s) := by
  unfold State.goSolo
  with_reducible repeat' first
    | assumption | apply State.evt_follows | apply State.capSolo_follows | apply State.holdPort_follows
    | apply State.wantMode_follows | apply Follows.ite | refine Follows.keep ?_ ⟨rfl, Nat.le_refl _, Nat.le_refl _, rfl, rfl⟩

theorem State.capRing_follows {s : State} {es : List (List Byte)} {a : State} (h : Follows a s) :
    Follows a (State.capRing s es) := by
  unfold State.capRing
  with_reducible repeat' first
    | assumption | apply State.capChange_follows

theorem State.showPorts_follows {s : State} {a : State} (h : Follows a s) :
    Follows a (State.showPorts s) := by
  unfold State.showPorts
  with_reducible repeat' first
    | assumption | apply State.put_follows | apply Follows.ite | apply Follows.foldl | apply Follows.forRange | intro

theorem State.breakRing_follows {s : State} {a : State} (h : Follows a s) :
    Follows a (State.breakRing s) := by
  unfold State.breakRing
  split
  · exact State.goSolo_follows h
  · lift_lets
    intro v s1 s2 m
    have h1 : Follows a s1 := State.showPorts_follows (Follows.keep h ⟨rfl, Nat.le_refl _, Nat.le_refl _, rfl, rfl⟩)
    have h2 : Follows a s2 := State.endPortXfers_follows (State.endPortXfers_follows h1)
    exact Follows.ite h2 (State.wantMode_follows h2)
  · exact h

end Sys2Proof.Machine
end

