-- ==== Sys2Proof/Laws/FollowsAdmission.lean ====
section
/-! SUPPORT. What Machine/Admission.lean does to the queue and to what every step keeps: one lemma for each definition that gives a state. -/
namespace Sys2Proof.Machine
open Sys2Proof

theorem State.admittedEvents_follows {s : State} {p : Plan} {a : State} (h : Follows a s) :
    Follows a (State.admittedEvents s p) := by
  unfold State.admittedEvents
  with_reducible repeat' first
    | assumption | apply State.report_follows

theorem State.writeStandingWindows_follows {s : State} {a : State} (h : Follows a s) :
    Follows a (State.writeStandingWindows s) := by
  unfold State.writeStandingWindows
  with_reducible repeat' first
    | assumption | apply State.setReg_follows | apply Follows.ite | apply Follows.foldl | apply Follows.forRange | intro

theorem State.refusePlan_follows {s : State} {r : PlanRefusal} {a : State} (h : Follows a s) :
    Follows a (State.refusePlan s r) := by
  unfold State.refusePlan
  with_reducible repeat' first
    | assumption | apply State.put_follows | apply State.report_follows | apply State.putF_follows | apply State.applyDepth_follows
    | apply Follows.ite | refine Follows.keep ?_ ⟨rfl, Nat.le_refl _, Nat.le_refl _, rfl, rfl⟩

theorem State.writeDawnCell_follows {s : State} {p : Plan} {a : State} (h : Follows a s) :
    Follows a (State.writeDawnCell s p) := by
  unfold State.writeDawnCell
  with_reducible repeat' first
    | assumption | apply Follows.ite | refine Follows.keep ?_ ⟨rfl, Nat.le_refl _, Nat.le_refl _, rfl, rfl⟩

theorem State.writeRegions_follows {s : State} {p : Plan} {cold : Bool} {a : State} (h : Follows a s) :
    Follows a (State.writeRegions s p cold) := by
  unfold State.writeRegions
  with_reducible repeat' first
    | assumption | apply State.writeRegion_follows | apply Follows.ite | apply Follows.foldl | apply Follows.forRange | intro

theorem State.writeLooking_follows {s : State} {p : Plan} {a : State} (h : Follows a s) :
    Follows a (State.writeLooking s p) := by
  unfold State.writeLooking
  with_reducible repeat' first
    | assumption | apply State.wrLE_follows
    | (intro x; refine Follows.use (a := a) (s := x) ?_ ?_; unfold x; rotate_left; try clear_value x; intro hx) | intro x | lift_lets
    | apply Follows.ite | apply Follows.foldl | apply Follows.forRange | split | dsimp only | refine Follows.fst (by assumption) ?_
    | refine Follows.keep ?_ ⟨rfl, Nat.le_refl _, Nat.le_refl _, rfl, rfl⟩

theorem State.installPlan_follows {s : State} {p : Plan} {cold : Bool} {a : State} (h : Follows a s) :
    Follows a (State.installPlan s p cold) := by
  unfold State.installPlan
  with_reducible repeat' first
    | assumption | apply State.writeDawnCell_follows | apply State.writeRegions_follows | apply State.writeLooking_follows
    | apply State.writeListening_follows | apply State.put_follows | apply Follows.ite
    | refine Follows.keep ?_ ⟨rfl, Nat.le_refl _, Nat.le_refl _, rfl, rfl⟩

theorem State.admitPlan_follows {s : State} {p : Plan} {cold : Bool} {a : State} (h : Follows a s) :
    Follows a (State.admitPlan s p cold) := by
  unfold State.admitPlan
  with_reducible repeat' first
    | assumption | apply State.putF_follows | apply State.installPlan_follows | apply State.admittedEvents_follows
    | apply State.startRaise_follows

theorem State.admission_follows {s : State} {a : State} (h : Follows a s) :
    Follows a (State.admission s) := by
  unfold State.admission
  with_reducible repeat' first
    | assumption | apply State.writeStandingWindows_follows | apply State.setPower_follows | apply State.refusePlan_follows
    | apply State.admitPlan_follows | apply State.showPorts_follows | apply State.leaveReset_follows
    | (intro x; refine Follows.use (a := a) (s := x) ?_ ?_; unfold x; rotate_left; try clear_value x; intro hx) | intro x | lift_lets
    | apply Follows.ite | apply Follows.foldl | apply Follows.forRange | split | dsimp only | refine Follows.fst (by assumption) ?_
    | refine Follows.keep ?_ ⟨rfl, Nat.le_refl _, Nat.le_refl _, rfl, rfl⟩

theorem execPlanAdmission_follows {s : State} {a : State} (h : Follows a s) :
    Yields a (execPlanAdmission s) := by
  unfold execPlanAdmission
  with_reducible repeat' first
    | apply Yields.next | assumption | apply State.admission_follows | apply Follows.ite
    | refine Follows.keep ?_ ⟨rfl, Nat.le_refl _, Nat.le_refl _, rfl, rfl⟩

theorem State.readmission_follows {s : State} {a : State} (h : Follows a s) :
    Follows a (State.readmission s) := by
  unfold State.readmission
  with_reducible repeat' first
    | assumption | apply State.writeStandingWindows_follows | apply State.goSolo_follows | apply State.capChange_follows
    | apply State.refusePlan_follows | apply State.admitPlan_follows | apply State.reportOwn_follows | apply State.evt_follows
    | (intro x; refine Follows.use (a := a) (s := x) ?_ ?_; unfold x; rotate_left; try clear_value x; intro hx) | intro x | lift_lets
    | apply Follows.ite | apply Follows.foldl | apply Follows.forRange | split | dsimp only | refine Follows.fst (by assumption) ?_
    | refine Follows.keep ?_ ⟨rfl, Nat.le_refl _, Nat.le_refl _, rfl, rfl⟩

theorem State.showPlan_follows {s : State} {p : Plan} {a : State} (h : Follows a s) :
    Follows a (State.showPlan s p) := by
  unfold State.showPlan
  with_reducible repeat' first
    | assumption | apply State.put_follows | apply Follows.ite | apply Follows.foldl | apply Follows.forRange | intro

theorem State.replaceRom_follows {s : State} {p : Plan} {a : State} (h : Follows a s) :
    Follows a (State.replaceRom s p) := by
  unfold State.replaceRom
  with_reducible repeat' first
    | assumption | apply State.loadImages_follows | apply State.loadEdid_follows | apply State.showPlan_follows
    | apply State.enterMode_follows | apply State.showMode_follows | apply Follows.ite
    | refine Follows.keep ?_ ⟨rfl, Nat.le_refl _, Nat.le_refl _, rfl, rfl⟩

theorem execPlanReplacesRom_follows {s : State} {a : State} (h : Follows a s) :
    Yields a (execPlanReplacesRom s) := by
  unfold execPlanReplacesRom
  with_reducible repeat' first
    | apply Yields.next | assumption | apply State.replaceRom_follows
    | (intro x; refine Follows.use (a := a) (s := x) ?_ ?_; unfold x; rotate_left; try clear_value x; intro hx) | intro x | lift_lets
    | apply Follows.ite | apply Follows.foldl | apply Follows.forRange | split | dsimp only | refine Follows.fst (by assumption) ?_
    | refine Follows.keep ?_ ⟨rfl, Nat.le_refl _, Nat.le_refl _, rfl, rfl⟩

theorem execPlanReadmission_follows {s : State} {a : State} (h : Follows a s) :
    Yields a (execPlanReadmission s) := by
  unfold execPlanReadmission
  with_reducible repeat' first
    | apply Yields.next | assumption | apply State.readmission_follows | apply Follows.ite
    | refine Follows.keep ?_ ⟨rfl, Nat.le_refl _, Nat.le_refl _, rfl, rfl⟩

end Sys2Proof.Machine
end

