-- ==== Sys2Proof/Laws/FollowsStart.lean ====
section
/-! SUPPORT. What Machine/Start.lean does to the queue and to what every step keeps: one lemma for each definition that gives a state. -/
namespace Sys2Proof.Machine
open Sys2Proof

theorem State.selectSlots_follows {s : State} {a : State} (h : Follows a s) :
    Follows a (State.selectSlots s) := by
  unfold State.selectSlots
  with_reducible repeat' first
    | assumption | apply State.resolveCommit_follows | apply State.reportOwn_follows | apply State.acceptImage_follows
    | apply State.makeCertificate_follows | apply Follows.ite | refine Follows.keep ?_ ⟨rfl, Nat.le_refl _, Nat.le_refl _, rfl, rfl⟩

theorem State.startVideo_follows {s : State} {a : State} (h : Follows a s) :
    Follows a (State.startVideo s) := by
  unfold State.startVideo
  with_reducible repeat' first
    | assumption | apply State.put_follows | apply State.setR64_follows | apply State.putF_follows | apply State.showPresence_follows
    | apply State.showHpd_follows | apply State.showGeometry_follows | apply State.loadEdid_follows | apply Follows.ite
    | apply Follows.foldl | apply Follows.forRange | intro

theorem State.release_follows {s : State} {d : Nat} {a : State} (h : Follows a s) :
    Follows a (State.release s d) := by
  unfold State.release
  with_reducible repeat' first
    | assumption | apply State.releaseDomain_follows | apply State.startVideo_follows | apply State.showPorts_follows
    | apply Follows.ite | refine Follows.keep ?_ ⟨rfl, Nat.le_refl _, Nat.le_refl _, rfl, rfl⟩

theorem execDomainRelease_follows {d : Fin 9} {s : State} {a : State} (h : Follows a s) :
    Yields a (execDomainRelease d s) := by
  unfold execDomainRelease
  with_reducible repeat' first
    | apply Yields.next | assumption | apply State.release_follows

theorem State.startService_follows {s : State} {a : State} (h : Follows a s) :
    Follows a (State.startService s) := by
  unfold State.startService
  with_reducible repeat' first
    | assumption | apply State.showLayout_follows | apply State.makeLayout_follows | apply State.acceptImage_follows
    | apply State.release_follows | apply Follows.ite | refine Follows.keep ?_ ⟨rfl, Nat.le_refl _, Nat.le_refl _, rfl, rfl⟩

theorem State.coldStep_follows {s : State} {n : Nat} {a : State} (h : Follows a s) :
    Follows a (State.coldStep s n) := by
  unfold State.coldStep
  with_reducible repeat' first
    | assumption | apply State.report_follows | apply State.release_follows | apply State.showMgmt_follows
    | apply State.recoverIdentity_follows | apply State.putF_follows | apply State.showMic_follows | apply State.selectSlots_follows
    | apply State.startService_follows
    | (intro x; refine Follows.use (a := a) (s := x) ?_ ?_; unfold x; rotate_left; try clear_value x; intro hx) | intro x | lift_lets
    | apply Follows.ite | apply Follows.foldl | apply Follows.forRange | split | dsimp only | refine Follows.fst (by assumption) ?_
    | refine Follows.keep ?_ ⟨rfl, Nat.le_refl _, Nat.le_refl _, rfl, rfl⟩

theorem execColdStart_follows {step : Nat} {s : State} {a : State} (h : Follows a s) :
    Yields a (execColdStart step s) := by
  unfold execColdStart
  with_reducible repeat' first
    | apply Yields.next | assumption | apply State.coldStep_follows | apply Follows.ite
    | refine Follows.keep ?_ ⟨rfl, Nat.le_refl _, Nat.le_refl _, rfl, rfl⟩

end Sys2Proof.Machine
end

