-- ==== Sys2Proof/Laws/FollowsLookout.lean ====
section
/-! SUPPORT. What Machine/Lookout.lean does to the queue and to what every step keeps: one lemma for each definition that gives a state. -/
namespace Sys2Proof.Machine
open Sys2Proof

theorem State.kickService_follows {s : State} {a : State} (h : Follows a s) :
    Follows a (State.kickService s) := by
  unfold State.kickService
  with_reducible repeat' first
    | assumption | apply Follows.ite | refine Follows.keep ?_ ⟨rfl, Nat.le_refl _, Nat.le_refl _, rfl, rfl⟩

theorem execLktKickS_follows {init : Initiator} {_value : Word} {s : State} {a : State} (h : Follows a s) :
    Yields a (execLktKickS init _value s) := by
  unfold execLktKickS
  with_reducible repeat' first
    | apply Yields.next | assumption | apply State.viaWrite_follows | apply State.kickService_follows | apply Follows.ite
    | apply Follows.foldl | apply Follows.forRange | intro

theorem State.requestTest_follows {s : State} {a : State} (h : Follows a s) :
    Follows a (State.requestTest s) := by
  unfold State.requestTest
  with_reducible repeat' first
    | assumption | apply State.reportOwn_follows | apply State.evt_follows | apply State.putF_follows | apply State.evictAll_follows
    | (intro x; refine Follows.use (a := a) (s := x) ?_ ?_; unfold x; rotate_left; try clear_value x; intro hx) | intro x | lift_lets
    | apply Follows.ite | apply Follows.foldl | apply Follows.forRange | split | dsimp only | refine Follows.fst (by assumption) ?_
    | refine Follows.keep ?_ ⟨rfl, Nat.le_refl _, Nat.le_refl _, rfl, rfl⟩

theorem execLktMissLimit_follows {stream : Fin 32} {s : State} {a : State} (h : Follows a s) :
    Yields a (execLktMissLimit stream s) := by
  unfold execLktMissLimit
  with_reducible repeat' first
    | apply Yields.next | assumption | apply State.lookout_follows | apply State.requestReset_follows | apply Follows.ite
    | refine Follows.keep ?_ ⟨rfl, Nat.le_refl _, Nat.le_refl _, rfl, rfl⟩

theorem State.imageRewrite_follows {s : State} {a : State} (h : Follows a s) :
    Follows a (State.imageRewrite s) := by
  unfold State.imageRewrite
  with_reducible repeat' first
    | assumption | apply State.loadImages_follows | apply Follows.ite
    | refine Follows.keep ?_ ⟨rfl, Nat.le_refl _, Nat.le_refl _, rfl, rfl⟩

theorem State.setTileNs_follows {s : State} {v : Nat} {a : State} (h : Follows a s) :
    Follows a (State.setTileNs s v) := by
  unfold State.setTileNs
  with_reducible repeat' first
    | assumption | apply State.reportOwn_follows | apply State.storeReg_follows | apply Follows.ite
    | refine Follows.keep ?_ ⟨rfl, Nat.le_refl _, Nat.le_refl _, rfl, rfl⟩

theorem execLktTileNs_follows {init : Initiator} {value : Word} {s : State} {a : State} (h : Follows a s) :
    Yields a (execLktTileNs init value s) := by
  unfold execLktTileNs
  with_reducible repeat' first
    | apply Yields.next | assumption | apply State.viaWrite_follows | apply State.setTileNs_follows | apply Follows.ite
    | apply Follows.foldl | apply Follows.forRange | intro

theorem execStandingImageRewrite_follows {s : State} {a : State} (h : Follows a s) :
    Yields a (execStandingImageRewrite s) := by
  unfold execStandingImageRewrite
  with_reducible repeat' first
    | apply Yields.next | assumption | apply State.imageRewrite_follows

theorem execLktServiceWd_follows {s : State} {a : State} (h : Follows a s) :
    Yields a (execLktServiceWd s) := by
  unfold execLktServiceWd
  with_reducible repeat' first
    | apply Yields.next | assumption | apply State.requestReset_follows | apply State.lookout_follows | apply Follows.ite
    | refine Follows.keep ?_ ⟨rfl, Nat.le_refl _, Nat.le_refl _, rfl, rfl⟩

theorem State.testReq_follows {s : State} {v : Nat} {a : State} (h : Follows a s) :
    Follows a (State.testReq s v) := by
  unfold State.testReq
  with_reducible repeat' first
    | assumption | apply State.requestTest_follows | apply Follows.ite
    | refine Follows.keep ?_ ⟨rfl, Nat.le_refl _, Nat.le_refl _, rfl, rfl⟩

theorem execLktTestReq_follows {init : Initiator} {value : Word} {s : State} {a : State} (h : Follows a s) :
    Yields a (execLktTestReq init value s) := by
  unfold execLktTestReq
  with_reducible repeat' first
    | apply Yields.next | assumption | apply State.viaWrite_follows | apply State.testReq_follows | apply Follows.ite
    | apply Follows.foldl | apply Follows.forRange | intro

theorem State.endDelayPass_follows {s : State} {g : Nat} {a : State} (h : Follows a s) :
    Follows a (State.endDelayPass s g) := by
  unfold State.endDelayPass
  with_reducible repeat' first
    | assumption | apply State.tickFresh_follows | apply State.put_follows | apply State.count_follows

theorem execLktKickK_follows {init : Initiator} {_value : Word} {s : State} {a : State} (h : Follows a s) :
    Yields a (execLktKickK init _value s) := by
  unfold execLktKickK
  with_reducible repeat' first
    | apply Yields.next | assumption | apply State.viaWrite_follows | apply Follows.ite | apply Follows.foldl
    | apply Follows.forRange | intro

theorem State.endLogicPass_follows {s : State} {g : Nat} {good : Bool} {a : State} (h : Follows a s) :
    Follows a (State.endLogicPass s g good) := by
  unfold State.endLogicPass
  with_reducible repeat' first
    | assumption | apply State.count_follows | apply State.putF_follows | apply State.evt_follows | apply State.report_follows
    | apply Follows.ite | refine Follows.keep ?_ ⟨rfl, Nat.le_refl _, Nat.le_refl _, rfl, rfl⟩

theorem State.testTile_follows {s : State} {g : Nat} {delay : Bool} {good : Bool} {a : State} (h : Follows a s) :
    Follows a (State.testTile s g delay good) := by
  unfold State.testTile
  with_reducible repeat' first
    | assumption | apply State.modGrove_follows | apply State.endDelayPass_follows | apply State.endLogicPass_follows
    | apply Follows.ite | refine Follows.keep ?_ ⟨rfl, Nat.le_refl _, Nat.le_refl _, rfl, rfl⟩

theorem execTestTile_follows {g : Fin 16} {delay : Bool} {good : Bool} {s : State} {a : State} (h : Follows a s) :
    Yields a (execTestTile g delay good s) := by
  unfold execTestTile
  with_reducible repeat' first
    | apply Yields.next | assumption | apply State.testTile_follows

theorem State.losePatterns_follows {s : State} {a : State} (h : Follows a s) :
    Follows a (State.losePatterns s) := by
  unfold State.losePatterns
  with_reducible repeat' first
    | assumption | apply State.loseMem_follows

theorem State.endTest_follows {s : State} {failed : Nat} {abandoned : Bool} {a : State} (h : Follows a s) :
    Follows a (State.endTest s failed abandoned) := by
  unfold State.endTest
  with_reducible repeat' first
    | assumption | apply State.considerSwaps_follows | apply State.abandonTest_follows | apply State.evictAll_follows
    | apply State.losePatterns_follows | apply State.showPower_follows | apply State.evt_follows | apply State.putF_follows
    | (intro x; refine Follows.use (a := a) (s := x) ?_ ?_; unfold x; rotate_left; try clear_value x; intro hx) | intro x | lift_lets
    | apply Follows.ite | apply Follows.foldl | apply Follows.forRange | split | dsimp only | refine Follows.fst (by assumption) ?_
    | refine Follows.keep ?_ ⟨rfl, Nat.le_refl _, Nat.le_refl _, rfl, rfl⟩

theorem State.groveStuck_follows {s : State} {g : Nat} {a : State} (h : Follows a s) :
    Follows a (State.groveStuck s g) := by
  unfold State.groveStuck
  with_reducible repeat' first
    | assumption | apply State.stopWrites_follows | apply State.modGrove_follows | apply State.lookout_follows
    | apply State.requestReset_follows
    | (intro x; refine Follows.use (a := a) (s := x) ?_ ?_; unfold x; rotate_left; try clear_value x; intro hx) | intro x | lift_lets
    | apply Follows.ite | apply Follows.foldl | apply Follows.forRange | split | dsimp only | refine Follows.fst (by assumption) ?_
    | refine Follows.keep ?_ ⟨rfl, Nat.le_refl _, Nat.le_refl _, rfl, rfl⟩

theorem execLktGroveStuck_follows {g : Fin 16} {s : State} {a : State} (h : Follows a s) :
    Yields a (execLktGroveStuck g s) := by
  unfold execLktGroveStuck
  with_reducible repeat' first
    | apply Yields.next | assumption | apply State.groveStuck_follows

theorem State.timeoutSwap_follows {s : State} {g : Nat} {written : List Nat} {a : State} (h : Follows a s) :
    Follows a (State.timeoutSwap s g written) := by
  unfold State.timeoutSwap
  with_reducible repeat' first
    | assumption | apply State.modGrove_follows | apply State.evictCtx_follows | apply State.lookout_follows
    | apply State.faultCtx_follows | apply State.modCtx_follows | apply State.stopNow_follows | apply State.requestReset_follows
    | (intro x; refine Follows.use (a := a) (s := x) ?_ ?_; unfold x; rotate_left; try clear_value x; intro hx) | intro x | lift_lets
    | apply Follows.ite | apply Follows.foldl | apply Follows.forRange | split | dsimp only | refine Follows.fst (by assumption) ?_
    | refine Follows.keep ?_ ⟨rfl, Nat.le_refl _, Nat.le_refl _, rfl, rfl⟩

theorem State.timeoutXfer_follows {s : State} {t : Nat} {a : State} (h : Follows a s) :
    Follows a (State.timeoutXfer s t) := by
  unfold State.timeoutXfer
  with_reducible repeat' first
    | assumption | apply State.endXfer_follows | apply State.lookout_follows | apply State.lookoutContext_follows
    | apply State.faultCtx_follows | apply State.modGrove_follows
    | (intro x; refine Follows.use (a := a) (s := x) ?_ ?_; unfold x; rotate_left; try clear_value x; intro hx) | intro x | lift_lets
    | apply Follows.ite | apply Follows.foldl | apply Follows.forRange | split | dsimp only | refine Follows.fst (by assumption) ?_
    | refine Follows.keep ?_ ⟨rfl, Nat.le_refl _, Nat.le_refl _, rfl, rfl⟩

theorem execLktDmaTimeout_follows {swap : Bool} {n : Nat} {written : List Nat} {s : State} {a : State} (h : Follows a s) :
    Yields a (execLktDmaTimeout swap n written s) := by
  unfold execLktDmaTimeout
  with_reducible repeat' first
    | apply Yields.next | assumption | apply State.timeoutSwap_follows | apply State.timeoutXfer_follows | apply Follows.ite
    | refine Follows.keep ?_ ⟨rfl, Nat.le_refl _, Nat.le_refl _, rfl, rfl⟩

theorem State.tileTimer_follows {s : State} {g : Nat} {a : State} (h : Follows a s) :
    Follows a (State.tileTimer s g) := by
  unfold State.tileTimer
  with_reducible repeat' first
    | assumption | apply State.tickFresh_follows | apply State.stopCommand_follows | apply State.lookout_follows
    | apply State.lookoutContext_follows
    | (intro x; refine Follows.use (a := a) (s := x) ?_ ?_; unfold x; rotate_left; try clear_value x; intro hx) | intro x | lift_lets
    | apply Follows.ite | apply Follows.foldl | apply Follows.forRange | split | dsimp only | refine Follows.fst (by assumption) ?_
    | refine Follows.keep ?_ ⟨rfl, Nat.le_refl _, Nat.le_refl _, rfl, rfl⟩

theorem execLktKernelWd_follows {s : State} {a : State} (h : Follows a s) :
    Yields a (execLktKernelWd s) := by
  unfold execLktKernelWd
  with_reducible repeat' first
    | apply Yields.next | assumption | apply State.requestReset_follows | apply State.lookout_follows | apply Follows.ite
    | refine Follows.keep ?_ ⟨rfl, Nat.le_refl _, Nat.le_refl _, rfl, rfl⟩

theorem execTestEnd_follows {failed : Nat} {abandoned : Bool} {s : State} {a : State} (h : Follows a s) :
    Yields a (execTestEnd failed abandoned s) := by
  unfold execTestEnd
  with_reducible repeat' first
    | apply Yields.next | assumption | apply State.endTest_follows

theorem execTileTimerExpiry_follows {g : Fin 16} {s : State} {a : State} (h : Follows a s) :
    Yields a (execTileTimerExpiry g s) := by
  unfold execTileTimerExpiry
  with_reducible repeat' first
    | apply Yields.next | assumption | apply State.tileTimer_follows

theorem execLktVideoStall_follows {s : State} {a : State} (h : Follows a s) :
    Yields a (execLktVideoStall s) := by
  unfold execLktVideoStall
  with_reducible repeat' first
    | apply Yields.next | assumption | apply State.requestReset_follows | apply State.lookout_follows | apply Follows.ite
    | refine Follows.keep ?_ ⟨rfl, Nat.le_refl _, Nat.le_refl _, rfl, rfl⟩

end Sys2Proof.Machine
end

