-- ==== Sys2Proof/Laws/FollowsPower.lean ====
section
/-! SUPPORT. What Machine/Power.lean does to the queue and to what every step keeps: one lemma for each definition that gives a state. -/
namespace Sys2Proof.Machine
open Sys2Proof

theorem State.setTherm_follows {s : State} {f : Power → Power} {a : State} (h : Follows a s) :
    Follows a (State.setTherm s f) := by
  unfold State.setTherm
  with_reducible repeat' first
    | assumption | apply State.setRf_follows | apply State.report_follows | apply Follows.ite
    | refine Follows.keep ?_ ⟨rfl, Nat.le_refl _, Nat.le_refl _, rfl, rfl⟩

theorem State.cool_follows {s : State} {a : State} (h : Follows a s) :
    Follows a (State.cool s) := by
  unfold State.cool
  with_reducible repeat' first
    | assumption | apply State.wantMode_follows | apply Follows.ite
    | refine Follows.keep ?_ ⟨rfl, Nat.le_refl _, Nat.le_refl _, rfl, rfl⟩

theorem State.dwellExpiry_follows {s : State} {a : State} (h : Follows a s) :
    Follows a (State.dwellExpiry s) := by
  unfold State.dwellExpiry
  with_reducible repeat' first
    | assumption | apply State.evt_follows | apply State.setTherm_follows | apply State.cool_follows | apply Follows.ite
    | refine Follows.keep ?_ ⟨rfl, Nat.le_refl _, Nat.le_refl _, rfl, rfl⟩

theorem execThermalDwellExpiry_follows {s : State} {a : State} (h : Follows a s) :
    Yields a (execThermalDwellExpiry s) := by
  unfold execThermalDwellExpiry
  with_reducible repeat' first
    | apply Yields.next | assumption | apply State.dwellExpiry_follows | apply Follows.ite
    | refine Follows.keep ?_ ⟨rfl, Nat.le_refl _, Nat.le_refl _, rfl, rfl⟩

theorem State.takeOff_follows {s : State} {d : Nat} {a : State} (h : Follows a s) :
    Follows a (State.takeOff s d) := by
  unfold State.takeOff
  with_reducible repeat' first
    | assumption | apply State.setPower_follows | apply State.enterReset_follows

theorem State.dimUpper_follows {s : State} {a : State} (h : Follows a s) :
    Follows a (State.dimUpper s) := by
  unfold State.dimUpper
  with_reducible repeat' first
    | assumption | apply State.holdChange_follows | apply State.takeOff_follows | apply State.breakRing_follows

theorem State.keepMode_follows {s : State} {a : State} (h : Follows a s) :
    Follows a (State.keepMode s) := by
  unfold State.keepMode
  with_reducible repeat' first
    | assumption | apply Follows.ite | refine Follows.keep ?_ ⟨rfl, Nat.le_refl _, Nat.le_refl _, rfl, rfl⟩

theorem State.enterS1_follows {s : State} {a : State} (h : Follows a s) :
    Follows a (State.enterS1 s) := by
  unfold State.enterS1
  with_reducible repeat' first
    | assumption | apply State.dimUpper_follows | apply State.keepMode_follows | apply State.finishS1_follows
    | apply State.wantMode_follows | apply Follows.ite | refine Follows.keep ?_ ⟨rfl, Nat.le_refl _, Nat.le_refl _, rfl, rfl⟩

theorem execS1Entry_follows {s : State} {a : State} (h : Follows a s) :
    Yields a (execS1Entry s) := by
  unfold execS1Entry
  with_reducible repeat' first
    | apply Yields.next | assumption | apply State.enterS1_follows

theorem State.emptyOpen_follows {s : State} {a : State} (h : Follows a s) :
    Follows a (State.emptyOpen s) := by
  unfold State.emptyOpen
  with_reducible repeat' first
    | assumption | apply State.evictAll_follows | apply State.evictCopy_follows
    | (intro x; refine Follows.use (a := a) (s := x) ?_ ?_; unfold x; rotate_left; try clear_value x; intro hx) | intro x | lift_lets
    | apply Follows.ite | apply Follows.foldl | apply Follows.forRange | split | dsimp only | refine Follows.fst (by assumption) ?_
    | refine Follows.keep ?_ ⟨rfl, Nat.le_refl _, Nat.le_refl _, rfl, rfl⟩

theorem State.stopStanding_follows {s : State} {a : State} (h : Follows a s) :
    Follows a (State.stopStanding s) := by
  unfold State.stopStanding
  with_reducible repeat' first
    | assumption | apply State.missResult_follows | apply State.modGrove_follows | apply State.incR64_follows
    | apply State.parkGrove_follows
    | (intro x; refine Follows.use (a := a) (s := x) ?_ ?_; unfold x; rotate_left; try clear_value x; intro hx) | intro x | lift_lets
    | apply Follows.ite | apply Follows.foldl | apply Follows.forRange | split | dsimp only | refine Follows.fst (by assumption) ?_
    | refine Follows.keep ?_ ⟨rfl, Nat.le_refl _, Nat.le_refl _, rfl, rfl⟩

theorem State.loseObjects_follows {s : State} {a : State} (h : Follows a s) :
    Follows a (State.loseObjects s) := by
  unfold State.loseObjects
  with_reducible repeat' first
    | assumption | apply Follows.ite | refine Follows.keep ?_ ⟨rfl, Nat.le_refl _, Nat.le_refl _, rfl, rfl⟩

theorem State.loseBanks_follows {s : State} {a : State} (h : Follows a s) :
    Follows a (State.loseBanks s) := by
  unfold State.loseBanks
  with_reducible repeat' first
    | assumption | apply State.loseMem_follows
    | (intro x; refine Follows.use (a := a) (s := x) ?_ ?_; unfold x; rotate_left; try clear_value x; intro hx) | intro x | lift_lets
    | apply Follows.ite | apply Follows.foldl | apply Follows.forRange | split | dsimp only | refine Follows.fst (by assumption) ?_
    | refine Follows.keep ?_ ⟨rfl, Nat.le_refl _, Nat.le_refl _, rfl, rfl⟩

theorem State.raiseForExit_follows {s : State} {a : State} (h : Follows a s) :
    Follows a (State.raiseForExit s) := by
  unfold State.raiseForExit
  with_reducible repeat' first
    | assumption | apply Follows.ite | refine Follows.keep ?_ ⟨rfl, Nat.le_refl _, Nat.le_refl _, rfl, rfl⟩

theorem State.startExit_follows {s : State} {t : Nat} {a : State} (h : Follows a s) :
    Follows a (State.startExit s t) := by
  unfold State.startExit
  with_reducible repeat' first
    | assumption | apply State.aimAt_follows | apply State.raiseForExit_follows | apply Follows.ite
    | refine Follows.keep ?_ ⟨rfl, Nat.le_refl _, Nat.le_refl _, rfl, rfl⟩

theorem State.finishDown_follows {s : State} {t : Nat} {a : State} (h : Follows a s) :
    Follows a (State.finishDown s t) := by
  unfold State.finishDown
  with_reducible repeat' first
    | assumption | apply State.arrive_follows | apply State.startExit_follows | apply State.aimAt_follows
    | (intro x; refine Follows.use (a := a) (s := x) ?_ ?_; unfold x; rotate_left; try clear_value x; intro hx) | intro x | lift_lets
    | apply Follows.ite | apply Follows.foldl | apply Follows.forRange | split | dsimp only | refine Follows.fst (by assumption) ?_
    | refine Follows.keep ?_ ⟨rfl, Nat.le_refl _, Nat.le_refl _, rfl, rfl⟩

theorem State.enterS2_follows {s : State} {a : State} (h : Follows a s) :
    Follows a (State.enterS2 s) := by
  unfold State.enterS2
  with_reducible repeat' first
    | assumption | exact Follows.same _ | apply State.dimUpper_follows | apply State.keepMode_follows | apply State.emptyOpen_follows
    | apply State.stopStanding_follows | apply State.takeOff_follows | apply State.loseObjects_follows
    | apply State.loseBanks_follows | apply State.setPower_follows | apply State.finishDown_follows
    | (intro x; refine Follows.use (a := a) (s := x) ?_ ?_; unfold x; rotate_left; try clear_value x; intro hx)
    | (intro x; refine Follows.use (a := a) (s := x.1) ?_ ?_; unfold x; rotate_left; try clear_value x; intro hx)
    | (intro x; refine Follows.use (a := a) (s := x.state) ?_ ?_; unfold x; rotate_left; try clear_value x; intro hx) | intro x
    | lift_lets | apply Follows.ite | apply Follows.cond | apply Follows.foldl | apply Follows.forRange | split | dsimp only
    | refine Follows.fst (by assumption) ?_ | refine Follows.keep ?_ ⟨rfl, Nat.le_refl _, Nat.le_refl _, rfl, rfl⟩
    | refine Follows.keep ?_ ⟨rfl, Nat.le_refl _, Nat.zero_le _, rfl, rfl⟩
    | refine Follows.keep ?_ ⟨rfl, Nat.zero_le _, Nat.le_refl _, rfl, rfl⟩

theorem State.loseAll_follows {s : State} {a : State} (h : Follows a s) :
    Follows a (State.loseAll s) := by
  unfold State.loseAll
  with_reducible repeat' first
    | assumption | exact Follows.same _ | apply State.loseMem_follows
    | (intro x; refine Follows.use (a := a) (s := x) ?_ ?_; unfold x; rotate_left; try clear_value x; intro hx)
    | (intro x; refine Follows.use (a := a) (s := x.1) ?_ ?_; unfold x; rotate_left; try clear_value x; intro hx)
    | (intro x; refine Follows.use (a := a) (s := x.state) ?_ ?_; unfold x; rotate_left; try clear_value x; intro hx)
    | (intro x; clear_value x) | intro x | lift_lets | apply Follows.ite | apply Follows.cond | apply Follows.foldl
    | apply Follows.forRange | split | dsimp only | refine Follows.fst (by assumption) ?_
    | refine Follows.keep ?_ ⟨rfl, Nat.le_refl _, Nat.le_refl _, rfl, rfl⟩
    | refine Follows.keep ?_ ⟨rfl, Nat.le_refl _, Nat.zero_le _, rfl, rfl⟩
    | refine Follows.keep ?_ ⟨rfl, Nat.zero_le _, Nat.le_refl _, rfl, rfl⟩

theorem State.groveIdle_follows {s : State} {g : Nat} {a : State} (h : Follows a s) :
    Follows a (State.groveIdle s g) := by
  unfold State.groveIdle
  with_reducible repeat' first
    | assumption | apply State.modGrove_follows | apply Follows.ite
    | refine Follows.keep ?_ ⟨rfl, Nat.le_refl _, Nat.le_refl _, rfl, rfl⟩

theorem State.reloadImage_follows {s : State} {p : Plan} {m : Nat} {g : Nat} {keep : Bool} {a : State} (h : Follows a s) :
    Follows a (State.reloadImage s p m g keep) := by
  unfold State.reloadImage
  with_reducible repeat' first
    | assumption | apply State.loadImage_follows | apply State.restoreRange_follows
    | (intro x; refine Follows.use (a := a) (s := x) ?_ ?_; unfold x; rotate_left; try clear_value x; intro hx) | intro x | lift_lets
    | apply Follows.ite | apply Follows.foldl | apply Follows.forRange | split | dsimp only | refine Follows.fst (by assumption) ?_
    | refine Follows.keep ?_ ⟨rfl, Nat.le_refl _, Nat.le_refl _, rfl, rfl⟩

theorem State.requestBad_follows {s : State} {a : State} (h : Follows a s) :
    Follows a (State.requestBad s) := by
  unfold State.requestBad
  with_reducible repeat' first
    | assumption | apply State.evt_follows

theorem State.takeWake_follows {s : State} {t : Nat} {a : State} (h : Follows a s) :
    Follows a (State.takeWake s t) := by
  unfold State.takeWake
  with_reducible repeat' first
    | assumption | apply State.raiseForExit_follows | apply State.showPower_follows | apply State.startExit_follows
    | apply State.leaveS1_follows | apply State.aimAt_follows
    | (intro x; refine Follows.use (a := a) (s := x) ?_ ?_; unfold x; rotate_left; try clear_value x; intro hx) | intro x | lift_lets
    | apply Follows.ite | apply Follows.foldl | apply Follows.forRange | split | dsimp only | refine Follows.fst (by assumption) ?_
    | refine Follows.keep ?_ ⟨rfl, Nat.le_refl _, Nat.le_refl _, rfl, rfl⟩

theorem State.wake_follows {s : State} {source : Nat} {t : Nat} {a : State} (h : Follows a s) :
    Follows a (State.wake s source t) := by
  unfold State.wake
  with_reducible repeat' first
    | assumption | apply State.requestBad_follows | apply State.takeWake_follows | apply State.setReg_follows | apply Follows.ite
    | refine Follows.keep ?_ ⟨rfl, Nat.le_refl _, Nat.le_refl _, rfl, rfl⟩

theorem execWakeTimerExpiry_follows {s : State} {a : State} (h : Follows a s) :
    Yields a (execWakeTimerExpiry s) := by
  unfold execWakeTimerExpiry
  with_reducible repeat' first
    | apply Yields.next | assumption | apply State.wake_follows | apply Follows.ite
    | refine Follows.keep ?_ ⟨rfl, Nat.le_refl _, Nat.le_refl _, rfl, rfl⟩

theorem execGroveIdle_follows {g : Fin 16} {s : State} {a : State} (h : Follows a s) :
    Yields a (execGroveIdle g s) := by
  unfold execGroveIdle
  with_reducible repeat' first
    | apply Yields.next | assumption | apply State.groveIdle_follows

theorem State.nextVoltage_follows {s : State} {a : State} (h : Follows a s) :
    Follows a (State.nextVoltage s) := by
  unfold State.nextVoltage
  with_reducible repeat' first
    | assumption | apply State.raiseForExit_follows | apply State.startRaise_follows
    | (intro x; refine Follows.use (a := a) (s := x) ?_ ?_; unfold x; rotate_left; try clear_value x; intro hx) | intro x | lift_lets
    | apply Follows.ite | apply Follows.foldl | apply Follows.forRange | split | dsimp only | refine Follows.fst (by assumption) ?_
    | refine Follows.keep ?_ ⟨rfl, Nat.le_refl _, Nat.le_refl _, rfl, rfl⟩

theorem State.retryPower_follows {s : State} {a : State} (h : Follows a s) :
    Follows a (State.retryPower s) := by
  unfold State.retryPower
  with_reducible repeat' first
    | assumption | apply State.raiseForExit_follows | apply State.nextVoltage_follows
    | (intro x; refine Follows.use (a := a) (s := x) ?_ ?_; unfold x; rotate_left; try clear_value x; intro hx) | intro x | lift_lets
    | apply Follows.ite | apply Follows.foldl | apply Follows.forRange | split | dsimp only | refine Follows.fst (by assumption) ?_
    | refine Follows.keep ?_ ⟨rfl, Nat.le_refl _, Nat.le_refl _, rfl, rfl⟩

theorem State.dropLink_follows {s : State} {a : State} (h : Follows a s) :
    Follows a (State.dropLink s) := by
  unfold State.dropLink
  with_reducible repeat' first
    | assumption | apply State.setR64_follows | apply Follows.ite
    | refine Follows.keep ?_ ⟨rfl, Nat.le_refl _, Nat.le_refl _, rfl, rfl⟩

theorem State.enterS3_follows {s : State} {a : State} (h : Follows a s) :
    Follows a (State.enterS3 s) := by
  unfold State.enterS3
  with_reducible repeat' first
    | assumption | apply State.dimUpper_follows | apply State.keepMode_follows | apply State.endCascade_follows
    | apply State.takeOff_follows | apply State.dropLink_follows | apply State.loseAll_follows | apply State.romRoles_follows
    | apply State.setRf_follows | apply State.finishDown_follows
    | (intro x; refine Follows.use (a := a) (s := x) ?_ ?_; unfold x; rotate_left; try clear_value x; intro hx) | intro x | lift_lets
    | apply Follows.ite | apply Follows.foldl | apply Follows.forRange | split | dsimp only | refine Follows.fst (by assumption) ?_
    | refine Follows.keep ?_ ⟨rfl, Nat.le_refl _, Nat.le_refl _, rfl, rfl⟩

theorem execS3Entry_follows {s : State} {a : State} (h : Follows a s) :
    Yields a (execS3Entry s) := by
  unfold execS3Entry
  with_reducible repeat' first
    | apply Yields.next | assumption | apply State.enterS3_follows | apply Follows.ite
    | refine Follows.keep ?_ ⟨rfl, Nat.le_refl _, Nat.le_refl _, rfl, rfl⟩

theorem State.powerGood_follows {s : State} {a : State} (h : Follows a s) :
    Follows a (State.powerGood s) := by
  unfold State.powerGood
  with_reducible repeat' first
    | assumption | apply State.nextVoltage_follows
    | (intro x; refine Follows.use (a := a) (s := x) ?_ ?_; unfold x; rotate_left; try clear_value x; intro hx) | intro x | lift_lets
    | apply Follows.ite | apply Follows.foldl | apply Follows.forRange | split | dsimp only | refine Follows.fst (by assumption) ?_
    | refine Follows.keep ?_ ⟨rfl, Nat.le_refl _, Nat.le_refl _, rfl, rfl⟩

theorem State.restartHistory_follows {s : State} {a : State} (h : Follows a s) :
    Follows a (State.restartHistory s) := by
  unfold State.restartHistory
  with_reducible repeat' first
    | assumption | apply State.put_follows | apply State.evt_follows | apply State.putF_follows

theorem State.exitS3_follows {s : State} {a : State} (h : Follows a s) :
    Follows a (State.exitS3 s) := by
  unfold State.exitS3
  with_reducible repeat' first
    | assumption | apply State.setPower_follows | apply State.powerUpper_follows | apply State.clearLast_follows
    | apply State.setRf_follows | apply State.restartHistory_follows | apply State.release_follows | apply State.evt_follows
    | apply State.arrive_follows | apply Follows.ite | apply Follows.foldl | apply Follows.forRange | intro

theorem State.regulatorFails_follows {s : State} {op : Nat} {a : State} (h : Follows a s) :
    Follows a (State.regulatorFails s op) := by
  unfold State.regulatorFails
  with_reducible repeat' first
    | assumption | apply State.report_follows | apply State.evt_follows

theorem State.regulatorLate_follows {s : State} {a : State} (h : Follows a s) :
    Follows a (State.regulatorLate s) := by
  unfold State.regulatorLate
  with_reducible repeat' first
    | assumption | apply State.regulatorFails_follows | apply State.nextVoltage_follows | apply State.abandonChange_follows
    | (intro x; refine Follows.use (a := a) (s := x) ?_ ?_; unfold x; rotate_left; try clear_value x; intro hx) | intro x | lift_lets
    | apply Follows.ite | apply Follows.foldl | apply Follows.forRange | split | dsimp only | refine Follows.fst (by assumption) ?_
    | refine Follows.keep ?_ ⟨rfl, Nat.le_refl _, Nat.le_refl _, rfl, rfl⟩

theorem execPmbAlert_follows {s : State} {a : State} (h : Follows a s) :
    Yields a (execPmbAlert s) := by
  unfold execPmbAlert
  with_reducible repeat' first
    | apply Yields.next | assumption | apply State.regulatorLate_follows
    | (intro x; refine Follows.use (a := a) (s := x) ?_ ?_; unfold x; rotate_left; try clear_value x; intro hx) | intro x | lift_lets
    | apply Follows.ite | apply Follows.foldl | apply Follows.forRange | split | dsimp only | refine Follows.fst (by assumption) ?_
    | refine Follows.keep ?_ ⟨rfl, Nat.le_refl _, Nat.le_refl _, rfl, rfl⟩

theorem State.holdExpiry_follows {s : State} {a : State} (h : Follows a s) :
    Follows a (State.holdExpiry s) := by
  unfold State.holdExpiry
  with_reducible repeat' first
    | assumption | apply State.setTherm_follows | apply State.showMode_follows | apply State.wantMode_follows
    | (intro x; refine Follows.use (a := a) (s := x) ?_ ?_; unfold x; rotate_left; try clear_value x; intro hx) | intro x | lift_lets
    | apply Follows.ite | apply Follows.foldl | apply Follows.forRange | split | dsimp only | refine Follows.fst (by assumption) ?_
    | refine Follows.keep ?_ ⟨rfl, Nat.le_refl _, Nat.le_refl _, rfl, rfl⟩

theorem State.judgeCritical_follows {s : State} {t : Int} {a : State} (h : Follows a s) :
    Follows a (State.judgeCritical s t) := by
  unfold State.judgeCritical
  with_reducible repeat' first
    | assumption | apply State.setTherm_follows | apply State.putF_follows | apply State.evt_follows | apply Follows.ite
    | refine Follows.keep ?_ ⟨rfl, Nat.le_refl _, Nat.le_refl _, rfl, rfl⟩

theorem State.trip_follows {s : State} {a : State} (h : Follows a s) :
    Follows a (State.trip s) := by
  unfold State.trip
  with_reducible repeat' first
    | assumption | apply State.evt_follows | apply State.setRf_follows | apply State.report_follows | apply State.enterS3_follows
    | apply Follows.ite | refine Follows.keep ?_ ⟨rfl, Nat.le_refl _, Nat.le_refl _, rfl, rfl⟩

theorem State.thermalSample_follows {s : State} {ts : List Int} {a : State} (h : Follows a s) :
    Follows a (State.thermalSample s ts) := by
  unfold State.thermalSample
  with_reducible repeat' first
    | assumption | apply State.setReg_follows | apply State.judgeCritical_follows | apply State.trip_follows
    | (intro x; refine Follows.use (a := a) (s := x) ?_ ?_; unfold x; rotate_left; try clear_value x; intro hx) | intro x | lift_lets
    | apply Follows.ite | apply Follows.foldl | apply Follows.forRange | split | dsimp only | refine Follows.fst (by assumption) ?_
    | refine Follows.keep ?_ ⟨rfl, Nat.le_refl _, Nat.le_refl _, rfl, rfl⟩

theorem execThermalSample_follows {temps : List Int} {s : State} {a : State} (h : Follows a s) :
    Yields a (execThermalSample temps s) := by
  unfold execThermalSample
  with_reducible repeat' first
    | apply Yields.next | assumption | apply State.thermalSample_follows | apply Follows.ite
    | refine Follows.keep ?_ ⟨rfl, Nat.le_refl _, Nat.le_refl _, rfl, rfl⟩

theorem execPowerUp_follows {s : State} {a : State} (h : Follows a s) :
    Yields a (execPowerUp s) := by
  unfold execPowerUp
  with_reducible repeat' first
    | apply Yields.next | assumption | apply State.releaseD0_follows | apply Follows.ite
    | refine Follows.keep ?_ ⟨rfl, Nat.le_refl _, Nat.le_refl _, rfl, rfl⟩

theorem State.afterExit_follows {s : State} {a : State} (h : Follows a s) :
    Follows a (State.afterExit s) := by
  unfold State.afterExit
  with_reducible repeat' first
    | assumption | apply State.afterDetection_follows | apply Follows.ite
    | refine Follows.keep ?_ ⟨rfl, Nat.le_refl _, Nat.le_refl _, rfl, rfl⟩

theorem execS3Exit_follows {s : State} {a : State} (h : Follows a s) :
    Yields a (execS3Exit s) := by
  unfold execS3Exit
  with_reducible repeat' first
    | apply Yields.next | assumption | apply State.exitS3_follows

theorem execPowerGoodRise_follows {ret : Bool} {s : State} {a : State} (h : Follows a s) :
    Yields a (execPowerGoodRise ret s) := by
  unfold execPowerGoodRise
  with_reducible repeat' first
    | apply Yields.next | assumption | apply State.releaseD0_follows | apply Follows.ite
    | refine Follows.keep ?_ ⟨rfl, Nat.le_refl _, Nat.le_refl _, rfl, rfl⟩

theorem State.restartTick_follows {s : State} {a : State} (h : Follows a s) :
    Follows a (State.restartTick s) := by
  unfold State.restartTick
  with_reducible repeat' first
    | assumption | apply State.incR64_follows | apply State.beginTick_follows | apply Follows.ite
    | refine Follows.keep ?_ ⟨rfl, Nat.le_refl _, Nat.le_refl _, rfl, rfl⟩

theorem State.exitMode_follows {s : State} {m : Nat} {a : State} (h : Follows a s) :
    Follows a (State.exitMode s m) := by
  unfold State.exitMode
  with_reducible repeat' first
    | assumption | apply State.reloadImage_follows | apply State.enterMode_follows | apply State.newRegions_follows
    | apply State.showMode_follows | apply State.put_follows | apply State.evt_follows | apply State.modeEvent_follows
    | (intro x; refine Follows.use (a := a) (s := x) ?_ ?_; unfold x; rotate_left; try clear_value x; intro hx) | intro x | lift_lets
    | apply Follows.ite | apply Follows.foldl | apply Follows.forRange | split | dsimp only | refine Follows.fst (by assumption) ?_
    | refine Follows.keep ?_ ⟨rfl, Nat.le_refl _, Nat.le_refl _, rfl, rfl⟩

theorem State.exitS2_follows {s : State} {a : State} (h : Follows a s) :
    Follows a (State.exitS2 s) := by
  unfold State.exitS2
  with_reducible repeat' first
    | assumption | apply State.setPower_follows | apply State.release_follows | apply State.dropHeld_follows
    | apply State.powerUpper_follows | apply State.exitMode_follows | apply State.restartTick_follows | apply State.evt_follows
    | apply State.arrive_follows | apply State.afterExit_follows | apply Follows.ite | apply Follows.foldl | apply Follows.forRange
    | intro

theorem execPmbusTimeout_follows {s : State} {a : State} (h : Follows a s) :
    Yields a (execPmbusTimeout s) := by
  unfold execPmbusTimeout
  with_reducible repeat' first
    | apply Yields.next | assumption | apply State.regulatorLate_follows | apply Follows.ite
    | refine Follows.keep ?_ ⟨rfl, Nat.le_refl _, Nat.le_refl _, rfl, rfl⟩

theorem execS2Entry_follows {s : State} {a : State} (h : Follows a s) :
    Yields a (execS2Entry s) := by
  unfold execS2Entry
  with_reducible repeat' first
    | apply Yields.next | assumption | apply State.enterS2_follows

theorem State.writeVote_follows {s : State} {c : Nat} {v : Nat} {a : State} (h : Follows a s) :
    Follows a (State.writeVote s c v) := by
  unfold State.writeVote
  with_reducible repeat' first
    | assumption | apply State.showPower_follows | apply State.setReg_follows

theorem execPmbusRetry_follows {s : State} {a : State} (h : Follows a s) :
    Yields a (execPmbusRetry s) := by
  unfold execPmbusRetry
  with_reducible repeat' first
    | apply Yields.next | assumption | apply State.retryPower_follows

theorem execThermalHoldExpiry_follows {s : State} {a : State} (h : Follows a s) :
    Yields a (execThermalHoldExpiry s) := by
  unfold execThermalHoldExpiry
  with_reducible repeat' first
    | apply Yields.next | assumption | apply State.holdExpiry_follows | apply Follows.ite
    | refine Follows.keep ?_ ⟨rfl, Nat.le_refl _, Nat.le_refl _, rfl, rfl⟩

theorem State.requestState_follows {s : State} {t : Nat} {a : State} (h : Follows a s) :
    Follows a (State.requestState s t) := by
  unfold State.requestState
  with_reducible repeat' first
    | assumption | apply State.requestBad_follows | apply State.aimNowhere_follows | apply State.leaveS1_follows
    | apply State.aimAt_follows
    | (intro x; refine Follows.use (a := a) (s := x) ?_ ?_; unfold x; rotate_left; try clear_value x; intro hx) | intro x | lift_lets
    | apply Follows.ite | apply Follows.foldl | apply Follows.forRange | split | dsimp only | refine Follows.fst (by assumption) ?_
    | refine Follows.keep ?_ ⟨rfl, Nat.le_refl _, Nat.le_refl _, rfl, rfl⟩

theorem execPgTimeout_follows {ret : Bool} {s : State} {a : State} (h : Follows a s) :
    Yields a (execPgTimeout ret s) := by
  unfold execPgTimeout
  with_reducible repeat' first
    | apply Yields.next | assumption | apply State.reportOwn_follows | apply Follows.ite
    | refine Follows.keep ?_ ⟨rfl, Nat.le_refl _, Nat.le_refl _, rfl, rfl⟩

theorem execPgFail_follows {ret : Bool} {lowUs : Nat} {s : State} {a : State} (h : Follows a s) :
    Yields a (execPgFail ret lowUs s) := by
  unfold execPgFail
  with_reducible repeat' first
    | apply Yields.next | assumption | apply State.holdD0_follows | apply State.resetD0_follows | apply Follows.ite
    | refine Follows.keep ?_ ⟨rfl, Nat.le_refl _, Nat.le_refl _, rfl, rfl⟩

theorem execPwrVote_follows {init : Initiator} {client : Fin 5} {value : Word} {s : State} {a : State} (h : Follows a s) :
    Yields a (execPwrVote init client value s) := by
  unfold execPwrVote
  with_reducible repeat' first
    | apply Yields.next | assumption | apply State.viaWrite_follows | apply State.writeVote_follows | apply Follows.ite
    | apply Follows.foldl | apply Follows.forRange | intro

theorem execS2Exit_follows {s : State} {a : State} (h : Follows a s) :
    Yields a (execS2Exit s) := by
  unfold execS2Exit
  with_reducible repeat' first
    | apply Yields.next | assumption | apply State.exitS2_follows

theorem execPmbusPowerGood_follows {s : State} {a : State} (h : Follows a s) :
    Yields a (execPmbusPowerGood s) := by
  unfold execPmbusPowerGood
  with_reducible repeat' first
    | apply Yields.next | assumption | apply State.powerGood_follows | apply Follows.ite
    | refine Follows.keep ?_ ⟨rfl, Nat.le_refl _, Nat.le_refl _, rfl, rfl⟩

theorem execPwrStateReq_follows {init : Initiator} {value : Word} {s : State} {a : State} (h : Follows a s) :
    Yields a (execPwrStateReq init value s) := by
  unfold execPwrStateReq
  with_reducible repeat' first
    | apply Yields.next | assumption | apply State.viaWrite_follows | apply State.requestState_follows | apply State.storeReg_follows
    | apply Follows.ite | apply Follows.foldl | apply Follows.forRange | intro

theorem execWakeInRise_follows {heldUs : Nat} {s : State} {a : State} (h : Follows a s) :
    Yields a (execWakeInRise heldUs s) := by
  unfold execWakeInRise
  with_reducible repeat' first
    | apply Yields.next | assumption | apply State.wake_follows | apply Follows.ite
    | refine Follows.keep ?_ ⟨rfl, Nat.le_refl _, Nat.le_refl _, rfl, rfl⟩

end Sys2Proof.Machine
end

