-- ==== Sys2Proof/Laws/FollowsPicture.lean ====
section
/-! SUPPORT. What Machine/Picture.lean does to the queue and to what every step keeps: one lemma for each definition that gives a state. -/
namespace Sys2Proof.Machine
open Sys2Proof

theorem State.abandonFrame_follows {s : State} {a : State} (h : Follows a s) :
    Follows a (State.abandonFrame s) := by
  unfold State.abandonFrame
  with_reducible repeat' first
    | assumption | apply Follows.ite | refine Follows.keep ?_ ⟨rfl, Nat.le_refl _, Nat.le_refl _, rfl, rfl⟩

theorem State.emitRow_follows {s : State} {p : List Byte} {w : Nat} {nb : Nat} {b : Nat} {r : Nat} {a : State} (h : Follows a s) :
    Follows a (State.emitRow s p w nb b r) := by
  unfold State.emitRow
  with_reducible repeat' first
    | assumption | apply Follows.ite | refine Follows.keep ?_ ⟨rfl, Nat.le_refl _, Nat.le_refl _, rfl, rfl⟩

theorem State.emitRows_follows {s : State} {p : List Byte} {w : Nat} {h' : Nat} {nb : Nat} {b : Nat} {lo : Nat} {hi : Nat} {a : State} (h : Follows a s) :
    Follows a (State.emitRows s p w h' nb b lo hi) := by
  unfold State.emitRows
  with_reducible repeat' first
    | assumption | apply State.emitRow_follows | apply State.evt_follows | apply State.count_follows | apply Follows.ite
    | apply Follows.foldl | apply Follows.forRange | intro

theorem State.wholeFrame_follows {s : State} {a : State} (h : Follows a s) :
    Follows a (State.wholeFrame s) := by
  unfold State.wholeFrame
  with_reducible repeat' first
    | assumption | apply State.putF_follows | apply State.emitRows_follows | apply Follows.ite
    | refine Follows.keep ?_ ⟨rfl, Nat.le_refl _, Nat.le_refl _, rfl, rfl⟩

theorem State.countCause_follows {s : State} {x1 : BandCause} {a : State} (h : Follows a s) :
    Follows a (State.countCause s x1) := by
  unfold State.countCause
  with_reducible repeat' first
    | assumption | apply State.evt_follows | apply State.count_follows
    | (intro x; refine Follows.use (a := a) (s := x) ?_ ?_; unfold x; rotate_left; try clear_value x; intro hx) | intro x | lift_lets
    | apply Follows.ite | apply Follows.foldl | apply Follows.forRange | split | dsimp only | refine Follows.fst (by assumption) ?_
    | refine Follows.keep ?_ ⟨rfl, Nat.le_refl _, Nat.le_refl _, rfl, rfl⟩

theorem State.showMap_follows {s : State} {p : List Byte} {a : State} (h : Follows a s) :
    Follows a (State.showMap s p) := by
  unfold State.showMap
  with_reducible repeat' first
    | assumption | apply State.put_follows | apply State.evt_follows | apply Follows.ite | apply Follows.foldl
    | apply Follows.forRange | intro

theorem State.decideBand_follows {s : State} {p : List Byte} {b : Nat} {a : State} (h : Follows a s) :
    Follows a (State.decideBand s p b) := by
  unfold State.decideBand
  with_reducible repeat' first
    | assumption | apply State.countCause_follows | apply State.count_follows | apply State.putF_follows
    | apply State.emitRows_follows | apply State.showMap_follows | apply Follows.ite
    | refine Follows.keep ?_ ⟨rfl, Nat.le_refl _, Nat.le_refl _, rfl, rfl⟩

theorem State.bandDecision_follows {s : State} {a : State} (h : Follows a s) :
    Follows a (State.bandDecision s) := by
  unfold State.bandDecision
  with_reducible repeat' first
    | assumption | apply State.decideBand_follows | apply State.wholeFrame_follows
    | (intro x; refine Follows.use (a := a) (s := x) ?_ ?_; unfold x; rotate_left; try clear_value x; intro hx) | intro x | lift_lets
    | apply Follows.ite | apply Follows.foldl | apply Follows.forRange | split | dsimp only | refine Follows.fst (by assumption) ?_
    | refine Follows.keep ?_ ⟨rfl, Nat.le_refl _, Nat.le_refl _, rfl, rfl⟩

theorem State.acceptTiming_follows {s : State} {t : VideoTiming} {a : State} (h : Follows a s) :
    Follows a (State.acceptTiming s t) := by
  unfold State.acceptTiming
  with_reducible repeat' first
    | assumption | apply State.put_follows | apply State.putF_follows | apply State.showGeometry_follows
    | apply State.abandonFrame_follows | apply State.evt_follows | apply State.tickTimingChange_follows
    | apply State.clearFeatures_follows | apply Follows.ite | refine Follows.keep ?_ ⟨rfl, Nat.le_refl _, Nat.le_refl _, rfl, rfl⟩

theorem execHdmiLinkLock_follows {timing : VideoTiming} {s : State} {a : State} (h : Follows a s) :
    Yields a (execHdmiLinkLock timing s) := by
  unfold execHdmiLinkLock
  with_reducible repeat' first
    | apply Yields.next | assumption | apply State.acceptTiming_follows | apply State.evt_follows | apply Follows.ite
    | refine Follows.keep ?_ ⟨rfl, Nat.le_refl _, Nat.le_refl _, rfl, rfl⟩

theorem State.captureInfo_follows {s : State} {k : Nat} {bytes : List Byte} {a : State} (h : Follows a s) :
    Follows a (State.captureInfo s k bytes) := by
  unfold State.captureInfo
  with_reducible repeat' first
    | assumption | apply State.evt_follows | apply State.putWords_follows | apply Follows.ite
    | refine Follows.keep ?_ ⟨rfl, Nat.le_refl _, Nat.le_refl _, rfl, rfl⟩

theorem execInfoframeCapture_follows {drm : Bool} {bytes : List Byte} {s : State} {a : State} (h : Follows a s) :
    Yields a (execInfoframeCapture drm bytes s) := by
  unfold execInfoframeCapture
  with_reducible repeat' first
    | apply Yields.next | assumption | apply State.captureInfo_follows | apply Follows.ite
    | refine Follows.keep ?_ ⟨rfl, Nat.le_refl _, Nat.le_refl _, rfl, rfl⟩

theorem State.trainLink_follows {s : State} {trains : List Nat} {a : State} (h : Follows a s) :
    Follows a (State.trainLink s trains) := by
  unfold State.trainLink
  with_reducible repeat' first
    | assumption | apply State.putF_follows | apply State.evt_follows | apply State.put_follows
    | (intro x; refine Follows.use (a := a) (s := x) ?_ ?_; unfold x; rotate_left; try clear_value x; intro hx) | intro x | lift_lets
    | apply Follows.ite | apply Follows.foldl | apply Follows.forRange | split | dsimp only | refine Follows.fst (by assumption) ?_
    | refine Follows.keep ?_ ⟨rfl, Nat.le_refl _, Nat.le_refl _, rfl, rfl⟩

theorem State.retrain_follows {s : State} {trains : List Nat} {a : State} (h : Follows a s) :
    Follows a (State.retrain s trains) := by
  unfold State.retrain
  with_reducible repeat' first
    | assumption | apply State.trainLink_follows | apply State.count_follows

theorem State.sinkIrq_follows {s : State} {trains : List Nat} {a : State} (h : Follows a s) :
    Follows a (State.sinkIrq s trains) := by
  unfold State.sinkIrq
  with_reducible repeat' first
    | assumption | apply State.putF_follows | apply State.evt_follows | apply State.retrain_follows
    | (intro x; refine Follows.use (a := a) (s := x) ?_ ?_; unfold x; rotate_left; try clear_value x; intro hx) | intro x | lift_lets
    | apply Follows.ite | apply Follows.foldl | apply Follows.forRange | split | dsimp only | refine Follows.fst (by assumption) ?_
    | refine Follows.keep ?_ ⟨rfl, Nat.le_refl _, Nat.le_refl _, rfl, rfl⟩

theorem execDpSinkIrq_follows {trains : List Nat} {s : State} {a : State} (h : Follows a s) :
    Yields a (execDpSinkIrq trains s) := by
  unfold execDpSinkIrq
  with_reducible repeat' first
    | apply Yields.next | assumption | apply State.sinkIrq_follows | apply Follows.ite
    | refine Follows.keep ?_ ⟨rfl, Nat.le_refl _, Nat.le_refl _, rfl, rfl⟩

theorem State.loseInput_follows {s : State} {a : State} (h : Follows a s) :
    Follows a (State.loseInput s) := by
  unfold State.loseInput
  with_reducible repeat' first
    | assumption | apply State.abandonFrame_follows | apply State.evt_follows | apply State.putF_follows | apply State.report_follows
    | apply State.clearFeatures_follows | apply Follows.ite | refine Follows.keep ?_ ⟨rfl, Nat.le_refl _, Nat.le_refl _, rfl, rfl⟩

theorem State.putRegion_follows {s : State} {i : Nat} {o : Nat} {bs : List Byte} {a : State} (h : Follows a s) :
    Follows a (State.putRegion s i o bs) := by
  unfold State.putRegion
  with_reducible repeat' first
    | assumption | apply State.mergeTile_follows | apply State.wrBytes_follows
    | (intro x; refine Follows.use (a := a) (s := x) ?_ ?_; unfold x; rotate_left; try clear_value x; intro hx) | intro x | lift_lets
    | apply Follows.ite | apply Follows.foldl | apply Follows.forRange | split | dsimp only | refine Follows.fst (by assumption) ?_
    | refine Follows.keep ?_ ⟨rfl, Nat.le_refl _, Nat.le_refl _, rfl, rfl⟩

theorem State.writeRow_follows {s : State} {t : VideoTiming} {b : List Byte} {planes : List (List Nat)} {a : State} (h : Follows a s) :
    Follows a (State.writeRow s t b planes) := by
  unfold State.writeRow
  with_reducible repeat' first
    | assumption | apply State.putRegion_follows | apply Follows.ite | apply Follows.foldl | apply Follows.forRange | intro

theorem State.endFrame_follows {s : State} {t : VideoTiming} {a : State} (h : Follows a s) :
    Follows a (State.endFrame s t) := by
  unfold State.endFrame
  with_reducible repeat' first
    | assumption | apply State.setReg_follows | apply State.evt_follows | apply State.count_follows
    | apply State.showGeometry_follows | apply Follows.ite | refine Follows.keep ?_ ⟨rfl, Nat.le_refl _, Nat.le_refl _, rfl, rfl⟩

theorem State.inputRow_follows {s : State} {planes : List (List Nat)} {errors : Bool} {a : State} (h : Follows a s) :
    Follows a (State.inputRow s planes errors) := by
  unfold State.inputRow
  with_reducible repeat' first
    | assumption | apply State.showGeometry_follows | apply State.tickFresh_follows | apply State.writeRow_follows
    | apply State.endFrame_follows
    | (intro x; refine Follows.use (a := a) (s := x) ?_ ?_; unfold x; rotate_left; try clear_value x; intro hx) | intro x | lift_lets
    | apply Follows.ite | apply Follows.foldl | apply Follows.forRange | split | dsimp only | refine Follows.fst (by assumption) ?_
    | refine Follows.keep ?_ ⟨rfl, Nat.le_refl _, Nat.le_refl _, rfl, rfl⟩

theorem execInputRow_follows {samples : List (List Nat)} {errors : Bool} {s : State} {a : State} (h : Follows a s) :
    Yields a (execInputRow samples errors s) := by
  unfold execInputRow
  with_reducible repeat' first
    | apply Yields.next | assumption | apply State.inputRow_follows

theorem execBandDecision_follows {s : State} {a : State} (h : Follows a s) :
    Yields a (execBandDecision s) := by
  unfold execBandDecision
  with_reducible repeat' first
    | apply Yields.next | assumption | apply State.bandDecision_follows

theorem execVoutMute_follows {init : Initiator} {value : Word} {s : State} {a : State} (h : Follows a s) :
    Yields a (execVoutMute init value s) := by
  unfold execVoutMute
  with_reducible repeat' first
    | apply Yields.next | assumption | apply State.viaWrite_follows | apply State.storeReg_follows | apply Follows.ite
    | apply Follows.foldl | apply Follows.forRange | intro

theorem execInputLost_follows {s : State} {a : State} (h : Follows a s) :
    Yields a (execInputLost s) := by
  unfold execInputLost
  with_reducible repeat' first
    | apply Yields.next | assumption | apply State.loseInput_follows | apply Follows.ite
    | refine Follows.keep ?_ ⟨rfl, Nat.le_refl _, Nat.le_refl _, rfl, rfl⟩

theorem execHdmiLinkLoss_follows {s : State} {a : State} (h : Follows a s) :
    Yields a (execHdmiLinkLoss s) := by
  unfold execHdmiLinkLoss
  with_reducible repeat' first
    | apply Yields.next | assumption | apply State.loseInput_follows | apply State.evt_follows | apply State.putF_follows
    | apply Follows.ite | refine Follows.keep ?_ ⟨rfl, Nat.le_refl _, Nat.le_refl _, rfl, rfl⟩

theorem execVinHpd_follows {init : Initiator} {value : Word} {s : State} {a : State} (h : Follows a s) :
    Yields a (execVinHpd init value s) := by
  unfold execVinHpd
  with_reducible repeat' first
    | apply Yields.next | assumption | apply State.viaWrite_follows | apply State.showHpd_follows | apply State.storeReg_follows
    | apply Follows.ite | apply Follows.foldl | apply Follows.forRange | intro

theorem State.meetSink_follows {s : State} {rates : List Nat} {trains : List Nat} {preferred : Option (Nat × Nat)} {a : State} (h : Follows a s) :
    Follows a (State.meetSink s rates trains preferred) := by
  unfold State.meetSink
  with_reducible repeat' first
    | assumption | apply State.trainLink_follows | apply State.showGeometry_follows | apply State.putF_follows | apply Follows.ite
    | refine Follows.keep ?_ ⟨rfl, Nat.le_refl _, Nat.le_refl _, rfl, rfl⟩

theorem execDpLinkTrain_follows {sinkRates : List Nat} {trains : List Nat} {preferred : Option (Nat × Nat)} {s : State} {a : State} (h : Follows a s) :
    Yields a (execDpLinkTrain sinkRates trains preferred s) := by
  unfold execDpLinkTrain
  with_reducible repeat' first
    | apply Yields.next | assumption | apply State.meetSink_follows | apply Follows.ite
    | refine Follows.keep ?_ ⟨rfl, Nat.le_refl _, Nat.le_refl _, rfl, rfl⟩

theorem State.outputStart_follows {s : State} {a : State} (h : Follows a s) :
    Follows a (State.outputStart s) := by
  unfold State.outputStart
  with_reducible repeat' first
    | assumption | apply State.put_follows | apply State.tickFresh_follows | apply State.putF_follows | apply Follows.ite
    | refine Follows.keep ?_ ⟨rfl, Nat.le_refl _, Nat.le_refl _, rfl, rfl⟩

theorem execBypCtrl_follows {init : Initiator} {value : Word} {s : State} {a : State} (h : Follows a s) :
    Yields a (execBypCtrl init value s) := by
  unfold execBypCtrl
  with_reducible repeat' first
    | apply Yields.next | assumption | apply State.viaWrite_follows | apply State.storeReg_follows | apply Follows.ite
    | apply Follows.foldl | apply Follows.forRange | intro

theorem execTimingChange_follows {timing : VideoTiming} {s : State} {a : State} (h : Follows a s) :
    Yields a (execTimingChange timing s) := by
  unfold execTimingChange
  with_reducible repeat' first
    | apply Yields.next | assumption | apply State.acceptTiming_follows | apply Follows.ite
    | refine Follows.keep ?_ ⟨rfl, Nat.le_refl _, Nat.le_refl _, rfl, rfl⟩

theorem execDpTrainRetry_follows {trains : List Nat} {s : State} {a : State} (h : Follows a s) :
    Yields a (execDpTrainRetry trains s) := by
  unfold execDpTrainRetry
  with_reducible repeat' first
    | apply Yields.next | assumption | apply State.retrain_follows | apply State.trainLink_follows | apply Follows.ite
    | refine Follows.keep ?_ ⟨rfl, Nat.le_refl _, Nat.le_refl _, rfl, rfl⟩

theorem execOutputFrameStart_follows {s : State} {a : State} (h : Follows a s) :
    Yields a (execOutputFrameStart s) := by
  unfold execOutputFrameStart
  with_reducible repeat' first
    | apply Yields.next | assumption | apply State.outputStart_follows | apply Follows.ite
    | refine Follows.keep ?_ ⟨rfl, Nat.le_refl _, Nat.le_refl _, rfl, rfl⟩

end Sys2Proof.Machine
end

