-- ==== Sys2Proof/Laws/FollowsListen.lean ====
section
/-! SUPPORT. What Machine/Listen.lean does to the queue and to what every step keeps: one lemma for each definition that gives a state. -/
namespace Sys2Proof.Machine
open Sys2Proof

theorem State.writeMute_follows {s : State} {kernel : Bool} {v : Nat} {a : State} (h : Follows a s) :
    Follows a (State.writeMute s kernel v) := by
  unfold State.writeMute
  with_reducible repeat' first
    | assumption | apply State.storeReg_follows | apply State.endCascade_follows | apply Follows.ite
    | refine Follows.keep ?_ ⟨rfl, Nat.le_refl _, Nat.le_refl _, rfl, rfl⟩

theorem execMicMute_follows {init : Initiator} {value : Word} {s : State} {a : State} (h : Follows a s) :
    Yields a (execMicMute init value s) := by
  unfold execMicMute
  with_reducible repeat' first
    | apply Yields.next | assumption | apply State.viaWrite_follows | apply State.writeMute_follows | apply Follows.ite
    | apply Follows.foldl | apply Follows.forRange | intro

theorem State.releaseWake_follows {s : State} {a : State} (h : Follows a s) :
    Follows a (State.releaseWake s) := by
  unfold State.releaseWake
  with_reducible repeat' first
    | assumption | apply State.putF_follows

theorem execHostWakeHoldExpiry_follows {s : State} {a : State} (h : Follows a s) :
    Yields a (execHostWakeHoldExpiry s) := by
  unfold execHostWakeHoldExpiry
  with_reducible repeat' first
    | apply Yields.next | assumption | apply State.releaseWake_follows | apply Follows.ite
    | refine Follows.keep ?_ ⟨rfl, Nat.le_refl _, Nat.le_refl _, rfl, rfl⟩

theorem execFollowTimeout_follows {s : State} {a : State} (h : Follows a s) :
    Yields a (execFollowTimeout s) := by
  unfold execFollowTimeout
  with_reducible repeat' first
    | apply Yields.next | assumption | apply State.endCascade_follows | apply Follows.ite
    | refine Follows.keep ?_ ⟨rfl, Nat.le_refl _, Nat.le_refl _, rfl, rfl⟩

theorem State.applyMute_follows {s : State} {a : State} (h : Follows a s) :
    Follows a (State.applyMute s) := by
  unfold State.applyMute
  with_reducible repeat' first
    | assumption | apply State.evt_follows | apply State.showMic_follows | apply Follows.ite
    | refine Follows.keep ?_ ⟨rfl, Nat.le_refl _, Nat.le_refl _, rfl, rfl⟩

theorem State.countClips_follows {s : State} {xs : List Int} {a : State} (h : Follows a s) :
    Follows a (State.countClips s xs) := by
  unfold State.countClips
  with_reducible repeat' first
    | assumption | apply State.evt_follows | apply State.count_follows
    | (intro x; refine Follows.use (a := a) (s := x) ?_ ?_; unfold x; rotate_left; try clear_value x; intro hx) | intro x | lift_lets
    | apply Follows.ite | apply Follows.foldl | apply Follows.forRange | split | dsimp only | refine Follows.fst (by assumption) ?_
    | refine Follows.keep ?_ ⟨rfl, Nat.le_refl _, Nat.le_refl _, rfl, rfl⟩

theorem State.micFrame_follows {s : State} {xs : List Int} {a : State} (h : Follows a s) :
    Follows a (State.micFrame s xs) := by
  unfold State.micFrame
  with_reducible repeat' first
    | assumption | apply State.applyMute_follows | apply State.countClips_follows | apply State.incR64_follows
    | apply State.wrBytes_follows | apply Follows.ite | refine Follows.keep ?_ ⟨rfl, Nat.le_refl _, Nat.le_refl _, rfl, rfl⟩

theorem execDawnHostWake_follows {init : Initiator} {value : Word} {s : State} {a : State} (h : Follows a s) :
    Yields a (execDawnHostWake init value s) := by
  unfold execDawnHostWake
  with_reducible repeat' first
    | apply Yields.next | assumption | apply State.viaWrite_follows | apply State.releaseWake_follows
    | (intro x; refine Follows.use (a := a) (s := x) ?_ ?_; unfold x; rotate_left; try clear_value x; intro hx) | intro x | lift_lets
    | apply Follows.ite | apply Follows.foldl | apply Follows.forRange | split | dsimp only | refine Follows.fst (by assumption) ?_
    | refine Follows.keep ?_ ⟨rfl, Nat.le_refl _, Nat.le_refl _, rfl, rfl⟩

theorem State.detect_follows {s : State} {p0 : Nat} {a : State} (h : Follows a s) :
    Follows a (State.detect s p0) := by
  unfold State.detect
  with_reducible repeat' first
    | assumption | apply State.put_follows | apply State.putF_follows | apply State.evt_follows | apply State.count_follows
    | apply State.wake_follows | apply State.reportOwn_follows | apply State.afterDetection_follows | apply Follows.ite
    | refine Follows.keep ?_ ⟨rfl, Nat.le_refl _, Nat.le_refl _, rfl, rfl⟩

theorem State.dawnHop_follows {s : State} {score : Nat} {a : State} (h : Follows a s) :
    Follows a (State.dawnHop s score) := by
  unfold State.dawnHop
  with_reducible repeat' first
    | assumption | apply State.putF_follows | apply State.detect_follows | apply State.count_follows | apply Follows.ite
    | refine Follows.keep ?_ ⟨rfl, Nat.le_refl _, Nat.le_refl _, rfl, rfl⟩

theorem execDawnHop_follows {score : Fin 256} {s : State} {a : State} (h : Follows a s) :
    Yields a (execDawnHop score s) := by
  unfold execDawnHop
  with_reducible repeat' first
    | apply Yields.next | assumption | apply State.dawnHop_follows | apply Follows.ite
    | refine Follows.keep ?_ ⟨rfl, Nat.le_refl _, Nat.le_refl _, rfl, rfl⟩

theorem execBiasFault_follows {n : Fin 2} {s : State} {a : State} (h : Follows a s) :
    Yields a (execBiasFault n s) := by
  unfold execBiasFault
  with_reducible repeat' first
    | apply Yields.next | assumption | apply State.evt_follows | apply State.showMic_follows | apply Follows.ite
    | refine Follows.keep ?_ ⟨rfl, Nat.le_refl _, Nat.le_refl _, rfl, rfl⟩

theorem execMicFrame_follows {samples : List Int} {s : State} {a : State} (h : Follows a s) :
    Yields a (execMicFrame samples s) := by
  unfold execMicFrame
  with_reducible repeat' first
    | apply Yields.next | assumption | apply State.micFrame_follows | apply Follows.ite
    | refine Follows.keep ?_ ⟨rfl, Nat.le_refl _, Nat.le_refl _, rfl, rfl⟩

theorem execCascadeVoteTimeout_follows {s : State} {a : State} (h : Follows a s) :
    Yields a (execCascadeVoteTimeout s) := by
  unfold execCascadeVoteTimeout
  with_reducible repeat' first
    | apply Yields.next | assumption | apply State.endCascade_follows | apply State.cascadeEvent_follows | apply Follows.ite
    | refine Follows.keep ?_ ⟨rfl, Nat.le_refl _, Nat.le_refl _, rfl, rfl⟩

end Sys2Proof.Machine
end

