-- ==== Sys2Proof/Laws/FollowsCamera.lean ====
section
/-! SUPPORT. What Machine/Camera.lean does to the queue and to what every step keeps: one lemma for each definition that gives a state. -/
namespace Sys2Proof.Machine
open Sys2Proof

theorem State.iplCommit_follows {s : State} {kernel : Bool} {v : Nat} {a : State} (h : Follows a s) :
    Follows a (State.iplCommit s kernel v) := by
  unfold State.iplCommit
  with_reducible repeat' first
    | assumption | apply State.storeReg_follows | apply State.tickFresh_follows | apply State.evt_follows | apply Follows.ite
    | refine Follows.keep ?_ ⟨rfl, Nat.le_refl _, Nat.le_refl _, rfl, rfl⟩

theorem State.brokenFrame_follows {s : State} {a : State} (h : Follows a s) :
    Follows a (State.brokenFrame s) := by
  unfold State.brokenFrame
  with_reducible repeat' first
    | assumption | apply State.evt_follows | apply State.count_follows

theorem State.ringFree_follows {s : State} {a' : Nat} {n : Nat} {a : State} (h : Follows a s) :
    Follows a (State.ringFree s a' n) := by
  unfold State.ringFree
  with_reducible repeat' first
    | assumption | apply State.loseMem_follows
    | (intro x; refine Follows.use (a := a) (s := x) ?_ ?_; unfold x; rotate_left; try clear_value x; intro hx) | intro x | lift_lets
    | apply Follows.ite | apply Follows.foldl | apply Follows.forRange | split | dsimp only | refine Follows.fst (by assumption) ?_
    | refine Follows.keep ?_ ⟨rfl, Nat.le_refl _, Nat.le_refl _, rfl, rfl⟩

theorem State.writeCoding_follows {s : State} {a' : Nat} {w : Nat} {h' : Nat} {a : State} (h : Follows a s) :
    Follows a (State.writeCoding s a' w h') := by
  unfold State.writeCoding
  with_reducible repeat' first
    | assumption | apply State.ringFree_follows | apply Follows.ite | apply Follows.foldl | apply Follows.forRange | intro

theorem State.ringBytes_follows {s : State} {a' : Nat} {bs : List Byte} {a : State} (h : Follows a s) :
    Follows a (State.ringBytes s a' bs) := by
  unfold State.ringBytes
  with_reducible repeat' first
    | assumption | apply State.wrBytes_follows
    | (intro x; refine Follows.use (a := a) (s := x) ?_ ?_; unfold x; rotate_left; try clear_value x; intro hx) | intro x | lift_lets
    | apply Follows.ite | apply Follows.foldl | apply Follows.forRange | split | dsimp only | refine Follows.fst (by assumption) ?_
    | refine Follows.keep ?_ ⟨rfl, Nat.le_refl _, Nat.le_refl _, rfl, rfl⟩

theorem State.writeStats_follows {s : State} {f : CamFrame} {rows : List (List Nat)} {a : State} (h : Follows a s) :
    Follows a (State.writeStats s f rows) := by
  unfold State.writeStats
  with_reducible repeat' first
    | assumption | apply State.ringBytes_follows | apply State.tickFresh_follows | apply Follows.ite
    | refine Follows.keep ?_ ⟨rfl, Nat.le_refl _, Nat.le_refl _, rfl, rfl⟩

theorem State.dropOutput_follows {s : State} {o : Nat} {a : State} (h : Follows a s) :
    Follows a (State.dropOutput s o) := by
  unfold State.dropOutput
  with_reducible repeat' first
    | assumption | apply State.evt_follows | apply State.putF_follows | apply Follows.ite
    | refine Follows.keep ?_ ⟨rfl, Nat.le_refl _, Nat.le_refl _, rfl, rfl⟩

theorem State.writeDisplay_follows {s : State} {a' : Nat} {w : Nat} {h' : Nat} {a : State} (h : Follows a s) :
    Follows a (State.writeDisplay s a' w h') := by
  unfold State.writeDisplay
  with_reducible repeat' first
    | assumption | apply State.ringFree_follows | apply State.ringBytes_follows | apply Follows.ite | apply Follows.foldl
    | apply Follows.forRange | intro

theorem State.writeOutput_follows {s : State} {f : CamFrame} {o : Nat} {a : State} (h : Follows a s) :
    Follows a (State.writeOutput s f o) := by
  unfold State.writeOutput
  with_reducible repeat' first
    | assumption | apply State.dropOutput_follows | apply State.writeDisplay_follows | apply State.writeCoding_follows
    | apply State.ringBytes_follows | apply State.putF_follows | apply Follows.ite
    | refine Follows.keep ?_ ⟨rfl, Nat.le_refl _, Nat.le_refl _, rfl, rfl⟩

theorem State.presenceRise_follows {s : State} {wakeTo : Nat} {a : State} (h : Follows a s) :
    Follows a (State.presenceRise s wakeTo) := by
  unfold State.presenceRise
  with_reducible repeat' first
    | assumption | apply State.reportOwn_follows | apply State.evt_follows | apply State.wake_follows
    | (intro x; refine Follows.use (a := a) (s := x) ?_ ?_; unfold x; rotate_left; try clear_value x; intro hx) | intro x | lift_lets
    | apply Follows.ite | apply Follows.foldl | apply Follows.forRange | split | dsimp only | refine Follows.fst (by assumption) ?_
    | refine Follows.keep ?_ ⟨rfl, Nat.le_refl _, Nat.le_refl _, rfl, rfl⟩

theorem State.presenceScore_follows {s : State} {score : Nat} {a : State} (h : Follows a s) :
    Follows a (State.presenceScore s score) := by
  unfold State.presenceScore
  with_reducible repeat' first
    | assumption | apply State.wrLE_follows | apply State.showPresence_follows | apply State.presenceRise_follows
    | (intro x; refine Follows.use (a := a) (s := x) ?_ ?_; unfold x; rotate_left; try clear_value x; intro hx) | intro x | lift_lets
    | apply Follows.ite | apply Follows.foldl | apply Follows.forRange | split | dsimp only | refine Follows.fst (by assumption) ?_
    | refine Follows.keep ?_ ⟨rfl, Nat.le_refl _, Nat.le_refl _, rfl, rfl⟩

theorem execPresenceScore_follows {score : Fin 256} {s : State} {a : State} (h : Follows a s) :
    Yields a (execPresenceScore score s) := by
  unfold execPresenceScore
  with_reducible repeat' first
    | apply Yields.next | assumption | apply State.presenceScore_follows | apply Follows.ite
    | refine Follows.keep ?_ ⟨rfl, Nat.le_refl _, Nat.le_refl _, rfl, rfl⟩

theorem State.applyCommit_follows {s : State} {a : State} (h : Follows a s) :
    Follows a (State.applyCommit s) := by
  unfold State.applyCommit
  with_reducible repeat' first
    | assumption | apply State.put_follows
    | (intro x; refine Follows.use (a := a) (s := x) ?_ ?_; unfold x; rotate_left; try clear_value x; intro hx) | intro x | lift_lets
    | apply Follows.ite | apply Follows.foldl | apply Follows.forRange | split | dsimp only | refine Follows.fst (by assumption) ?_
    | refine Follows.keep ?_ ⟨rfl, Nat.le_refl _, Nat.le_refl _, rfl, rfl⟩

theorem State.setNoSignal_follows {s : State} {b : Bool} {a : State} (h : Follows a s) :
    Follows a (State.setNoSignal s b) := by
  unfold State.setNoSignal
  with_reducible repeat' first
    | assumption | apply State.putF_follows | apply State.wrLE_follows
    | (intro x; refine Follows.use (a := a) (s := x) ?_ ?_; unfold x; rotate_left; try clear_value x; intro hx) | intro x | lift_lets
    | apply Follows.ite | apply Follows.foldl | apply Follows.forRange | split | dsimp only | refine Follows.fst (by assumption) ?_
    | refine Follows.keep ?_ ⟨rfl, Nat.le_refl _, Nat.le_refl _, rfl, rfl⟩

theorem State.pipelineVsync_follows {s : State} {a : State} (h : Follows a s) :
    Follows a (State.pipelineVsync s) := by
  unfold State.pipelineVsync
  with_reducible repeat' first
    | assumption | apply State.brokenFrame_follows | apply State.applyCommit_follows | apply State.put_follows
    | apply State.setNoSignal_follows | apply State.putF_follows
    | (intro x; refine Follows.use (a := a) (s := x) ?_ ?_; unfold x; rotate_left; try clear_value x; intro hx) | intro x | lift_lets
    | apply Follows.ite | apply Follows.foldl | apply Follows.forRange | split | dsimp only | refine Follows.fst (by assumption) ?_
    | refine Follows.keep ?_ ⟨rfl, Nat.le_refl _, Nat.le_refl _, rfl, rfl⟩

theorem State.captureVsync_follows {s : State} {a : State} (h : Follows a s) :
    Follows a (State.captureVsync s) := by
  unfold State.captureVsync
  with_reducible repeat' first
    | assumption | apply State.setNoSignal_follows | apply Follows.ite
    | refine Follows.keep ?_ ⟨rfl, Nat.le_refl _, Nat.le_refl _, rfl, rfl⟩

theorem execCamVsync_follows {s : State} {a : State} (h : Follows a s) :
    Yields a (execCamVsync s) := by
  unfold execCamVsync
  with_reducible repeat' first
    | apply Yields.next | assumption | apply State.pipelineVsync_follows | apply State.captureVsync_follows | apply Follows.ite
    | refine Follows.keep ?_ ⟨rfl, Nat.le_refl _, Nat.le_refl _, rfl, rfl⟩

theorem State.writeLook_follows {s : State} {f : CamFrame} {a : State} (h : Follows a s) :
    Follows a (State.writeLook s f) := by
  unfold State.writeLook
  with_reducible repeat' first
    | assumption | apply State.count_follows | apply State.putRegion_follows | apply State.tickFresh_follows
    | (intro x; refine Follows.use (a := a) (s := x) ?_ ?_; unfold x; rotate_left; try clear_value x; intro hx) | intro x | lift_lets
    | apply Follows.ite | apply Follows.foldl | apply Follows.forRange | split | dsimp only | refine Follows.fst (by assumption) ?_
    | refine Follows.keep ?_ ⟨rfl, Nat.le_refl _, Nat.le_refl _, rfl, rfl⟩

theorem execPresenceMark_follows {s : State} {a : State} (h : Follows a s) :
    Yields a (execPresenceMark s) := by
  unfold execPresenceMark
  with_reducible repeat' first
    | apply Yields.next | assumption | apply Follows.ite | refine Follows.keep ?_ ⟨rfl, Nat.le_refl _, Nat.le_refl _, rfl, rfl⟩

theorem State.writePresence_follows {s : State} {f : CamFrame} {rows : List (List Nat)} {a : State} (h : Follows a s) :
    Follows a (State.writePresence s f rows) := by
  unfold State.writePresence
  with_reducible repeat' first
    | assumption | apply State.wrBytes_follows | apply State.wrLE_follows | apply State.tickFresh_follows
    | (intro x; refine Follows.use (a := a) (s := x) ?_ ?_; unfold x; rotate_left; try clear_value x; intro hx) | intro x | lift_lets
    | apply Follows.ite | apply Follows.foldl | apply Follows.forRange | split | dsimp only | refine Follows.fst (by assumption) ?_
    | refine Follows.keep ?_ ⟨rfl, Nat.le_refl _, Nat.le_refl _, rfl, rfl⟩

theorem State.deliverFrame_follows {s : State} {f : CamFrame} {rows : List (List Nat)} {a : State} (h : Follows a s) :
    Follows a (State.deliverFrame s f rows) := by
  unfold State.deliverFrame
  with_reducible repeat' first
    | assumption | apply State.writeStats_follows | apply State.evt_follows | apply State.writeLook_follows
    | apply State.writeOutput_follows | apply State.writePresence_follows | apply Follows.ite
    | refine Follows.keep ?_ ⟨rfl, Nat.le_refl _, Nat.le_refl _, rfl, rfl⟩

theorem execIplCommit_follows {init : Initiator} {value : Word} {s : State} {a : State} (h : Follows a s) :
    Yields a (execIplCommit init value s) := by
  unfold execIplCommit
  with_reducible repeat' first
    | apply Yields.next | assumption | apply State.viaWrite_follows | apply State.iplCommit_follows | apply Follows.ite
    | apply Follows.foldl | apply Follows.forRange | intro

theorem State.camFrameEnd_follows {s : State} {rows : List (List Nat)} {a : State} (h : Follows a s) :
    Follows a (State.camFrameEnd s rows) := by
  unfold State.camFrameEnd
  with_reducible repeat' first
    | assumption | apply State.writePresence_follows | apply State.deliverFrame_follows | apply State.brokenFrame_follows
    | (intro x; refine Follows.use (a := a) (s := x) ?_ ?_; unfold x; rotate_left; try clear_value x; intro hx) | intro x | lift_lets
    | apply Follows.ite | apply Follows.foldl | apply Follows.forRange | split | dsimp only | refine Follows.fst (by assumption) ?_
    | refine Follows.keep ?_ ⟨rfl, Nat.le_refl _, Nat.le_refl _, rfl, rfl⟩

theorem execCamFrameEnd_follows {rows : List (List Nat)} {s : State} {a : State} (h : Follows a s) :
    Yields a (execCamFrameEnd rows s) := by
  unfold execCamFrameEnd
  with_reducible repeat' first
    | apply Yields.next | assumption | apply State.camFrameEnd_follows | apply Follows.ite
    | refine Follows.keep ?_ ⟨rfl, Nat.le_refl _, Nat.le_refl _, rfl, rfl⟩

theorem execCamNoSignal_follows {s : State} {a : State} (h : Follows a s) :
    Yields a (execCamNoSignal s) := by
  unfold execCamNoSignal
  with_reducible repeat' first
    | apply Yields.next | assumption | apply State.evt_follows | apply State.putF_follows | apply State.setNoSignal_follows
    | apply Follows.ite | refine Follows.keep ?_ ⟨rfl, Nat.le_refl _, Nat.le_refl _, rfl, rfl⟩

end Sys2Proof.Machine
end

