-- ==== Sys2Proof/Laws/FollowsSamples.lean ====
section
/-! SUPPORT. What Machine/Samples.lean does to the queue and to what every step keeps: one lemma for each definition that gives a state. -/
namespace Sys2Proof.Machine
open Sys2Proof

theorem execIplSetAck_follows {init : Initiator} {set : Fin 8} {value : Word} {s : State} {a : State} (h : Follows a s) :
    Yields a (execIplSetAck init set value s) := by
  unfold execIplSetAck
  with_reducible repeat' first
    | apply Yields.next | assumption | apply State.viaWrite_follows | apply State.storeReg_follows | apply Follows.ite
    | apply Follows.foldl | apply Follows.forRange | intro

theorem State.failSet_follows {s : State} {e : Nat} {err : Nat} {a : State} (h : Follows a s) :
    Follows a (State.failSet s e err) := by
  unfold State.failSet
  with_reducible repeat' first
    | assumption | apply State.evt_follows | apply State.endSet_follows

theorem State.objPiece_follows {s : State} {k : Nat} {off : Nat} {n : Nat} {symbols : Nat} {a : State} (h : Follows a s) :
    Follows a (State.objPiece s k off n symbols).1 := by
  unfold State.objPiece
  with_reducible repeat' first
    | assumption | apply State.countBytes_follows | apply State.plainRead_follows | apply State.readTile_follows
    | (intro x; refine Follows.use (a := a) (s := x) ?_ ?_; unfold x; rotate_left; try clear_value x; intro hx) | intro x | lift_lets
    | apply Follows.ite | apply Follows.foldl | apply Follows.forRange | split | dsimp only | refine Follows.fst (by assumption) ?_
    | refine Follows.keep ?_ ⟨rfl, Nat.le_refl _, Nat.le_refl _, rfl, rfl⟩

theorem State.objRead_follows {k : Nat} {symbols : Nat} {x2 : Nat} {x3 : Nat} {x4 : Nat} {x5 : State} {a : State} (h : Follows a x5) :
    Follows a (State.objRead k symbols x2 x3 x4 x5).1 := by
  fun_induction State.objRead k symbols x2 x3 x4 x5
  all_goals with_reducible repeat' first
    | assumption | apply State.objPiece_follows | apply_assumption -exfalso -symm
    | (intro x; refine Follows.use (a := a) (s := x) ?_ ?_; unfold x; rotate_left; try clear_value x; intro hx) | intro x | lift_lets
    | apply Follows.ite | apply Follows.foldl | apply Follows.forRange | split | dsimp only | refine Follows.fst (by assumption) ?_
    | refine Follows.keep ?_ ⟨rfl, Nat.le_refl _, Nat.le_refl _, rfl, rfl⟩

theorem State.objBytes_follows {s : State} {k : Nat} {off : Nat} {n : Nat} {symbols : Nat} {a : State} (h : Follows a s) :
    Follows a (State.objBytes s k off n symbols).1 := by
  unfold State.objBytes
  with_reducible repeat' first
    | assumption | apply State.objRead_follows
    | (intro x; refine Follows.use (a := a) (s := x) ?_ ?_; unfold x; rotate_left; try clear_value x; intro hx) | intro x | lift_lets
    | apply Follows.ite | apply Follows.foldl | apply Follows.forRange | split | dsimp only | refine Follows.fst (by assumption) ?_
    | refine Follows.keep ?_ ⟨rfl, Nat.le_refl _, Nat.le_refl _, rfl, rfl⟩

theorem State.readSet_follows {s : State} {e : Nat} {owner : Nat} {a : State} (h : Follows a s) :
    Follows a (State.readSet s e owner).1 := by
  unfold State.readSet
  with_reducible repeat' first
    | assumption | apply State.objBytes_follows
    | (intro x; refine Follows.use (a := a) (s := x) ?_ ?_; unfold x; rotate_left; try clear_value x; intro hx) | intro x | lift_lets
    | apply Follows.ite | apply Follows.foldl | apply Follows.forRange | split | dsimp only | refine Follows.fst (by assumption) ?_
    | refine Follows.keep ?_ ⟨rfl, Nat.le_refl _, Nat.le_refl _, rfl, rfl⟩

theorem State.badBits_follows {s : State} {d : SetDesc} {a : State} (h : Follows a s) :
    Follows a (State.badBits s d).1 := by
  unfold State.badBits
  with_reducible repeat' first
    | assumption | apply State.objBytes_follows
    | (intro x; refine Follows.use (a := a) (s := x) ?_ ?_; unfold x; rotate_left; try clear_value x; intro hx) | intro x | lift_lets
    | apply Follows.ite | apply Follows.foldl | apply Follows.forRange | split | dsimp only | refine Follows.fst (by assumption) ?_
    | refine Follows.keep ?_ ⟨rfl, Nat.le_refl _, Nat.le_refl _, rfl, rfl⟩

theorem State.objStorePiece_follows {s : State} {k : Nat} {off : Nat} {bs : List Byte} {a : State} (h : Follows a s) :
    Follows a (State.objStorePiece s k off bs) := by
  unfold State.objStorePiece
  with_reducible repeat' first
    | assumption | apply State.countBytes_follows | apply State.plainWrite_follows | apply State.mergeTile_follows
    | apply State.modObj_follows | apply Follows.ite | refine Follows.keep ?_ ⟨rfl, Nat.le_refl _, Nat.le_refl _, rfl, rfl⟩

theorem State.objStore_follows {s : State} {k : Nat} {off : Nat} {bs : List Byte} {a : State} (h : Follows a s) :
    Follows a (State.objStore s k off bs) := by
  unfold State.objStore
  with_reducible repeat' first
    | assumption | apply State.objStorePiece_follows | apply Follows.ite | apply Follows.foldl | apply Follows.forRange | intro

theorem State.wakeOwner_follows {s : State} {c : Nat} {a : State} (h : Follows a s) :
    Follows a (State.wakeOwner s c) := by
  unfold State.wakeOwner
  with_reducible repeat' first
    | assumption | apply State.considerSwaps_follows | apply State.wakeCtx_follows | apply Follows.ite
    | refine Follows.keep ?_ ⟨rfl, Nat.le_refl _, Nat.le_refl _, rfl, rfl⟩

theorem State.modSet_follows {s : State} {e : Nat} {f : SampleSet → SampleSet} {a : State} (h : Follows a s) :
    Follows a (State.modSet s e f) := by
  unfold State.modSet
  with_reducible repeat' first
    | assumption | apply Follows.ite | refine Follows.keep ?_ ⟨rfl, Nat.le_refl _, Nat.le_refl _, rfl, rfl⟩

theorem State.badSample_follows {s : State} {d : SetDesc} {i : Nat} {a : State} (h : Follows a s) :
    Follows a (State.badSample s d i).1 := by
  unfold State.badSample
  with_reducible repeat' first
    | assumption | apply State.objBytes_follows
    | (intro x; refine Follows.use (a := a) (s := x) ?_ ?_; unfold x; rotate_left; try clear_value x; intro hx) | intro x | lift_lets
    | apply Follows.ite | apply Follows.foldl | apply Follows.forRange | split | dsimp only | refine Follows.fst (by assumption) ?_
    | refine Follows.keep ?_ ⟨rfl, Nat.le_refl _, Nat.le_refl _, rfl, rfl⟩

theorem State.skipBad_follows {d : SetDesc} {x1 : Nat} {x2 : Nat} {x3 : State} {a : State} (h : Follows a x3) :
    Follows a (State.skipBad d x1 x2 x3).1 := by
  fun_induction State.skipBad d x1 x2 x3
  all_goals with_reducible repeat' first
    | assumption | apply State.badSample_follows | apply_assumption -exfalso -symm
    | (intro x; refine Follows.use (a := a) (s := x) ?_ ?_; unfold x; rotate_left; try clear_value x; intro hx) | intro x | lift_lets
    | apply Follows.ite | apply Follows.foldl | apply Follows.forRange | split | dsimp only | refine Follows.fst (by assumption) ?_
    | refine Follows.keep ?_ ⟨rfl, Nat.le_refl _, Nat.le_refl _, rfl, rfl⟩

theorem State.seekSample_follows {s : State} {e : Nat} {d : SetDesc} {a : State} (h : Follows a s) :
    Follows a (State.seekSample s e d) := by
  unfold State.seekSample
  with_reducible repeat' first
    | assumption | apply State.modSet_follows | apply State.skipBad_follows | apply State.failSet_follows
    | (intro x; refine Follows.use (a := a) (s := x) ?_ ?_; unfold x; rotate_left; try clear_value x; intro hx) | intro x | lift_lets
    | apply Follows.ite | apply Follows.foldl | apply Follows.forRange | split | dsimp only | refine Follows.fst (by assumption) ?_
    | refine Follows.keep ?_ ⟨rfl, Nat.le_refl _, Nat.le_refl _, rfl, rfl⟩

theorem State.afterBatch_follows {s : State} {e : Nat} {d : SetDesc} {bad : Nat} {index : Nat} {last : Bool} {a : State} (h : Follows a s) :
    Follows a (State.afterBatch s e d bad index last) := by
  unfold State.afterBatch
  with_reducible repeat' first
    | assumption | apply State.objStore_follows | apply State.evt_follows | apply State.wakeOwner_follows | apply State.setRf_follows
    | apply State.endSet_follows | apply State.seekSample_follows | apply State.modSet_follows | apply Follows.ite
    | refine Follows.keep ?_ ⟨rfl, Nat.le_refl _, Nat.le_refl _, rfl, rfl⟩

theorem State.batchWrite_follows {s : State} {e : Nat} {a : State} (h : Follows a s) :
    Follows a (State.batchWrite s e) := by
  unfold State.batchWrite
  with_reducible repeat' first
    | assumption | apply State.failSet_follows | apply State.readSet_follows | apply State.badBits_follows
    | apply State.objStore_follows | apply State.afterBatch_follows
    | (intro x; refine Follows.use (a := a) (s := x) ?_ ?_; unfold x; rotate_left; try clear_value x; intro hx) | intro x | lift_lets
    | apply Follows.ite | apply Follows.foldl | apply Follows.forRange | split | dsimp only | refine Follows.fst (by assumption) ?_
    | refine Follows.keep ?_ ⟨rfl, Nat.le_refl _, Nat.le_refl _, rfl, rfl⟩

theorem State.cached_follows {s : State} {d : SetDesc} {i : Nat} {a : State} (h : Follows a s) :
    Follows a (State.cached s d i).1 := by
  unfold State.cached
  with_reducible repeat' first
    | assumption | apply State.objBytes_follows
    | (intro x; refine Follows.use (a := a) (s := x) ?_ ?_; unfold x; rotate_left; try clear_value x; intro hx) | intro x | lift_lets
    | apply Follows.ite | apply Follows.foldl | apply Follows.forRange | split | dsimp only | refine Follows.fst (by assumption) ?_
    | refine Follows.keep ?_ ⟨rfl, Nat.le_refl _, Nat.le_refl _, rfl, rfl⟩

theorem State.takeSample_follows {s : State} {e : Nat} {i : Nat} {image : List Byte} {partly : Bool} {a : State} (h : Follows a s) :
    Follows a (State.takeSample s e i image partly) := by
  unfold State.takeSample
  with_reducible repeat' first
    | assumption | apply State.modSet_follows

theorem State.failSample_follows {s : State} {e : Nat} {d : SetDesc} {i : Nat} {unread : Bool} {a : State} (h : Follows a s) :
    Follows a (State.failSample s e d i unread) := by
  unfold State.failSample
  with_reducible repeat' first
    | assumption | apply State.evt_follows | apply State.modSet_follows | apply State.objBytes_follows | apply State.objStore_follows
    | apply State.failSet_follows
    | (intro x; refine Follows.use (a := a) (s := x) ?_ ?_; unfold x; rotate_left; try clear_value x; intro hx) | intro x | lift_lets
    | apply Follows.ite | apply Follows.foldl | apply Follows.forRange | split | dsimp only | refine Follows.fst (by assumption) ?_
    | refine Follows.keep ?_ ⟨rfl, Nat.le_refl _, Nat.le_refl _, rfl, rfl⟩

theorem State.cacheStore_follows {s : State} {d : SetDesc} {i : Nat} {image : List Byte} {a : State} (h : Follows a s) :
    Follows a (State.cacheStore s d i image) := by
  unfold State.cacheStore
  with_reducible repeat' first
    | assumption | apply State.objStore_follows | apply Follows.ite
    | refine Follows.keep ?_ ⟨rfl, Nat.le_refl _, Nat.le_refl _, rfl, rfl⟩

theorem State.decodeSample_follows {s : State} {e : Nat} {d : SetDesc} {i : Nat} {rows : Nat} {corrupt : Bool} {symbols : Nat} {a : State} (h : Follows a s) :
    Follows a (State.decodeSample s e d i rows corrupt symbols) := by
  unfold State.decodeSample
  with_reducible repeat' first
    | assumption | apply State.objBytes_follows | apply State.failSet_follows | apply State.failSample_follows
    | apply State.takeSample_follows | apply State.cacheStore_follows | apply State.tickFresh_follows
    | (intro x; refine Follows.use (a := a) (s := x) ?_ ?_; unfold x; rotate_left; try clear_value x; intro hx) | intro x | lift_lets
    | apply Follows.ite | apply Follows.foldl | apply Follows.forRange | split | dsimp only | refine Follows.fst (by assumption) ?_
    | refine Follows.keep ?_ ⟨rfl, Nat.le_refl _, Nat.le_refl _, rfl, rfl⟩

theorem State.nextSample_follows {s : State} {e : Nat} {rows : Nat} {corrupt : Bool} {symbols : Nat} {a : State} (h : Follows a s) :
    Follows a (State.nextSample s e rows corrupt symbols) := by
  unfold State.nextSample
  with_reducible repeat' first
    | assumption | apply State.failSet_follows | apply State.readSet_follows | apply State.cached_follows
    | apply State.takeSample_follows | apply State.count_follows | apply State.decodeSample_follows | apply State.seekSample_follows
    | (intro x; refine Follows.use (a := a) (s := x) ?_ ?_; unfold x; rotate_left; try clear_value x; intro hx) | intro x | lift_lets
    | apply Follows.ite | apply Follows.foldl | apply Follows.forRange | split | dsimp only | refine Follows.fst (by assumption) ?_
    | refine Follows.keep ?_ ⟨rfl, Nat.le_refl _, Nat.le_refl _, rfl, rfl⟩

theorem execSampleDecodeDone_follows {set : Fin 8} {mcuRows : Nat} {corrupt : Bool} {symbols : Nat} {s : State} {a : State} (h : Follows a s) :
    Yields a (execSampleDecodeDone set mcuRows corrupt symbols s) := by
  unfold execSampleDecodeDone
  with_reducible repeat' first
    | apply Yields.next | assumption | apply State.nextSample_follows | apply Follows.ite
    | refine Follows.keep ?_ ⟨rfl, Nat.le_refl _, Nat.le_refl _, rfl, rfl⟩

theorem State.clearCache_follows {s : State} {d : SetDesc} {a : State} (h : Follows a s) :
    Follows a (State.clearCache s d) := by
  unfold State.clearCache
  with_reducible repeat' first
    | assumption | apply State.objStore_follows | apply Follows.ite
    | refine Follows.keep ?_ ⟨rfl, Nat.le_refl _, Nat.le_refl _, rfl, rfl⟩

theorem State.openSet_follows {s : State} {e : Nat} {clear : Bool} {a : State} (h : Follows a s) :
    Follows a (State.openSet s e clear) := by
  unfold State.openSet
  with_reducible repeat' first
    | assumption | apply State.failSet_follows | apply State.readSet_follows | apply State.setReg_follows
    | apply State.clearCache_follows | apply State.seekSample_follows
    | (intro x; refine Follows.use (a := a) (s := x) ?_ ?_; unfold x; rotate_left; try clear_value x; intro hx) | intro x | lift_lets
    | apply Follows.ite | apply Follows.foldl | apply Follows.forRange | split | dsimp only | refine Follows.fst (by assumption) ?_
    | refine Follows.keep ?_ ⟨rfl, Nat.le_refl _, Nat.le_refl _, rfl, rfl⟩

theorem State.writeSetCtrl_follows {s : State} {e : Nat} {kernel : Bool} {v : Nat} {a : State} (h : Follows a s) :
    Follows a (State.writeSetCtrl s e kernel v) := by
  unfold State.writeSetCtrl
  with_reducible repeat' first
    | assumption | apply State.setRf_follows | apply State.storeReg_follows | apply State.openSet_follows
    | apply State.endSet_follows | apply Follows.ite | refine Follows.keep ?_ ⟨rfl, Nat.le_refl _, Nat.le_refl _, rfl, rfl⟩

theorem execSetEnable_follows {init : Initiator} {set : Fin 8} {value : Word} {s : State} {a : State} (h : Follows a s) :
    Yields a (execSetEnable init set value s) := by
  unfold execSetEnable
  with_reducible repeat' first
    | apply Yields.next | assumption | apply State.viaWrite_follows | apply State.writeSetCtrl_follows | apply Follows.ite
    | apply Follows.foldl | apply Follows.forRange | intro

theorem execBatchWrite_follows {set : Fin 8} {s : State} {a : State} (h : Follows a s) :
    Yields a (execBatchWrite set s) := by
  unfold execBatchWrite
  with_reducible repeat' first
    | apply Yields.next | assumption | apply State.batchWrite_follows | apply Follows.ite
    | refine Follows.keep ?_ ⟨rfl, Nat.le_refl _, Nat.le_refl _, rfl, rfl⟩

end Sys2Proof.Machine
end

