-- ==== Sys2Proof/Laws/FollowsTock.lean ====
section
/-! SUPPORT. What Machine/Tock.lean does to the queue and to what every step keeps: one lemma for each definition that gives a state. -/
namespace Sys2Proof.Machine
open Sys2Proof

theorem State.sendControl_follows {s : State} {p : Nat} {type : Nat} {payload : List Byte} {a : State} (h : Follows a s) :
    Follows a (State.sendControl s p type payload) := by
  unfold State.sendControl
  with_reducible repeat' first
    | assumption | apply State.sendFlit_follows

theorem State.bandResult_follows {s : State} {a : State} (h : Follows a s) :
    Follows a (State.bandResult s) := by
  unfold State.bandResult
  with_reducible repeat' first
    | assumption | apply State.sendControl_follows
    | (intro x; refine Follows.use (a := a) (s := x) ?_ ?_; unfold x; rotate_left; try clear_value x; intro hx) | intro x | lift_lets
    | apply Follows.ite | apply Follows.foldl | apply Follows.forRange | split | dsimp only | refine Follows.fst (by assumption) ?_
    | refine Follows.keep ?_ ⟨rfl, Nat.le_refl _, Nat.le_refl _, rfl, rfl⟩

theorem State.listenBoundary_follows {s : State} {a : State} (h : Follows a s) :
    Follows a (State.listenBoundary s) := by
  unfold State.listenBoundary
  with_reducible repeat' first
    | assumption | apply State.wakeBoundary_follows | apply State.publish_follows
    | (intro x; refine Follows.use (a := a) (s := x) ?_ ?_; unfold x; rotate_left; try clear_value x; intro hx) | intro x | lift_lets
    | apply Follows.ite | apply Follows.foldl | apply Follows.forRange | split | dsimp only | refine Follows.fst (by assumption) ?_
    | refine Follows.keep ?_ ⟨rfl, Nat.le_refl _, Nat.le_refl _, rfl, rfl⟩

theorem State.endRestart_follows {s : State} {a : State} (h : Follows a s) :
    Follows a (State.endRestart s) := by
  unfold State.endRestart
  with_reducible repeat' first
    | assumption | apply State.checkStart_follows | apply Follows.ite
    | refine Follows.keep ?_ ⟨rfl, Nat.le_refl _, Nat.le_refl _, rfl, rfl⟩

theorem State.releaseLook_follows {s : State} {a : State} (h : Follows a s) :
    Follows a (State.releaseLook s) := by
  unfold State.releaseLook
  with_reducible repeat' first
    | assumption | apply State.count_follows | apply Follows.ite
    | refine Follows.keep ?_ ⟨rfl, Nat.le_refl _, Nat.le_refl _, rfl, rfl⟩

theorem State.releaseBand_follows {s : State} {p : List Byte} {b : Nat} {a : State} (h : Follows a s) :
    Follows a (State.releaseBand s p b) := by
  unfold State.releaseBand
  with_reducible repeat' first
    | assumption | apply Follows.ite | refine Follows.keep ?_ ⟨rfl, Nat.le_refl _, Nat.le_refl _, rfl, rfl⟩

theorem State.beginFeatures_follows {s : State} {p : List Byte} {b : Nat} {a : State} (h : Follows a s) :
    Follows a (State.beginFeatures s p b) := by
  unfold State.beginFeatures
  with_reducible repeat' first
    | assumption | apply Follows.ite | refine Follows.keep ?_ ⟨rfl, Nat.le_refl _, Nat.le_refl _, rfl, rfl⟩

theorem State.cutBand_follows {s : State} {a : State} (h : Follows a s) :
    Follows a (State.cutBand s) := by
  unfold State.cutBand
  with_reducible repeat' first
    | assumption | apply State.releaseBand_follows | apply State.beginFeatures_follows | apply State.count_follows
    | (intro x; refine Follows.use (a := a) (s := x) ?_ ?_; unfold x; rotate_left; try clear_value x; intro hx) | intro x | lift_lets
    | apply Follows.ite | apply Follows.foldl | apply Follows.forRange | split | dsimp only | refine Follows.fst (by assumption) ?_
    | refine Follows.keep ?_ ⟨rfl, Nat.le_refl _, Nat.le_refl _, rfl, rfl⟩

theorem State.announceTick_follows {s : State} {a : State} (h : Follows a s) :
    Follows a (State.announceTick s) := by
  unfold State.announceTick
  with_reducible repeat' first
    | assumption | apply State.sendControl_follows | apply Follows.ite
    | refine Follows.keep ?_ ⟨rfl, Nat.le_refl _, Nat.le_refl _, rfl, rfl⟩

theorem State.boundary_follows {s : State} {next : State → State} {a : State} (h : Follows a s) (hnext : ∀ t, Follows a t → Follows a (next t)) :
    Follows a (State.boundary s next) := by
  unfold State.boundary
  with_reducible repeat' first
    | assumption | apply State.bandResult_follows | apply State.listenBoundary_follows | apply State.endRestart_follows
    | apply State.countTick_follows | apply State.releaseLook_follows | apply State.cutBand_follows
    | apply State.announceTick_follows | apply State.boundaryLists_follows | apply hnext

theorem State.tickBoundary_follows {s : State} {a : State} (h : Follows a s) :
    Follows a (State.tickBoundary s) := by
  unfold State.tickBoundary
  with_reducible repeat' first
    | assumption | apply State.boundary_follows | apply State.beginTick_follows | apply Follows.ite | apply Follows.foldl
    | apply Follows.forRange | intro

theorem execTickBoundary_follows {s : State} {a : State} (h : Follows a s) :
    Yields a (execTickBoundary s) := by
  unfold execTickBoundary
  with_reducible repeat' first
    | apply Yields.next | assumption | apply State.tickBoundary_follows

theorem State.newFrame_follows {s : State} {f : Nat} {a : State} (h : Follows a s) :
    Follows a (State.newFrame s f) := by
  unfold State.newFrame
  with_reducible repeat' first
    | assumption | apply Follows.ite | refine Follows.keep ?_ ⟨rfl, Nat.le_refl _, Nat.le_refl _, rfl, rfl⟩

theorem execFrameStartTimeout_follows {s : State} {a : State} (h : Follows a s) :
    Yields a (execFrameStartTimeout s) := by
  unfold execFrameStartTimeout
  with_reducible repeat' first
    | apply Yields.next | assumption | apply State.frameStartTimeout_follows | apply Follows.ite
    | refine Follows.keep ?_ ⟨rfl, Nat.le_refl _, Nat.le_refl _, rfl, rfl⟩

theorem State.sourceFrame_follows {s : State} {a : State} (h : Follows a s) :
    Follows a (State.sourceFrame s) := by
  unfold State.sourceFrame
  with_reducible repeat' first
    | assumption | apply State.putF_follows | apply State.newFrame_follows | apply Follows.ite
    | refine Follows.keep ?_ ⟨rfl, Nat.le_refl _, Nat.le_refl _, rfl, rfl⟩

theorem execHdmiFrameStart_follows {atNs : Nat} {s : State} {a : State} (h : Follows a s) :
    Yields a (execHdmiFrameStart atNs s) := by
  unfold execHdmiFrameStart
  with_reducible repeat' first
    | apply Yields.next | assumption | apply State.sourceFrame_follows | apply State.tickFrameStart_follows | apply Follows.ite
    | refine Follows.keep ?_ ⟨rfl, Nat.le_refl _, Nat.le_refl _, rfl, rfl⟩

theorem execAliveTimerToggle_follows {s : State} {a : State} (h : Follows a s) :
    Yields a (execAliveTimerToggle s) := by
  unfold execAliveTimerToggle
  with_reducible repeat' first
    | apply Yields.next | assumption | apply State.aliveTimerToggle_follows

end Sys2Proof.Machine
end

