-- ==== Sys2Proof/Laws/FollowsVilva.lean ====
section
/-! SUPPORT. What Machine/Vilva.lean does to the queue and to what every step keeps: one lemma for each definition that gives a state. -/
namespace Sys2Proof.Machine
open Sys2Proof

theorem State.linkFailure_follows {s : State} {p : Nat} {a : State} (h : Follows a s) :
    Follows a (State.linkFailure s p) := by
  unfold State.linkFailure
  with_reducible repeat' first
    | assumption | apply State.requestReset_follows | apply State.evt_follows

theorem State.replay_follows {s : State} {p : Nat} {a : State} (h : Follows a s) :
    Follows a (State.replay s p) := by
  unfold State.replay
  with_reducible repeat' first
    | assumption | apply State.linkFailure_follows | apply State.modPort_follows | apply State.logFlit_follows
    | apply State.evt_follows | apply State.count_follows | apply State.incR64_follows | apply Follows.ite | apply Follows.foldl
    | apply Follows.forRange | intro

theorem State.discardFlit_follows {s : State} {p : Nat} {a : State} (h : Follows a s) :
    Follows a (State.discardFlit s p) := by
  unfold State.discardFlit
  with_reducible repeat' first
    | assumption | apply State.count_follows

theorem State.storeFlit_follows {s : State} {p : Nat} {f : Flit} {a : State} (h : Follows a s) :
    Follows a (State.storeFlit s p f) := by
  unfold State.storeFlit
  with_reducible repeat' first
    | assumption | apply State.discardFlit_follows | apply State.plainWrite_follows
    | (intro x; refine Follows.use (a := a) (s := x) ?_ ?_; unfold x; rotate_left; try clear_value x; intro hx) | intro x | lift_lets
    | apply Follows.ite | apply Follows.foldl | apply Follows.forRange | split | dsimp only | refine Follows.fst (by assumption) ?_
    | refine Follows.keep ?_ ⟨rfl, Nat.le_refl _, Nat.le_refl _, rfl, rfl⟩

theorem State.beginFollowed_follows {s : State} {first : Bool} {n : Nat} {a : State} (h : Follows a s) :
    Follows a (State.beginFollowed s first n) := by
  unfold State.beginFollowed
  with_reducible repeat' first
    | assumption | apply State.showTick_follows | apply Follows.ite
    | refine Follows.keep ?_ ⟨rfl, Nat.le_refl _, Nat.le_refl _, rfl, rfl⟩

theorem State.trainPort_follows {s : State} {p : Nat} {ok : Bool} {a : State} (h : Follows a s) :
    Follows a (State.trainPort s p ok) := by
  unfold State.trainPort
  with_reducible repeat' first
    | assumption | apply State.modPort_follows | apply State.showPorts_follows | apply State.sendControl_follows | apply Follows.ite
    | refine Follows.keep ?_ ⟨rfl, Nat.le_refl _, Nat.le_refl _, rfl, rfl⟩

theorem execPortTraining_follows {p : Fin 2} {ok : Bool} {s : State} {a : State} (h : Follows a s) :
    Yields a (execPortTraining p ok s) := by
  unfold execPortTraining
  with_reducible repeat' first
    | apply Yields.next | assumption | apply State.trainPort_follows | apply Follows.ite
    | refine Follows.keep ?_ ⟨rfl, Nat.le_refl _, Nat.le_refl _, rfl, rfl⟩

theorem State.takeAck_follows {s : State} {p : Nat} {ack : Nat} {a : State} (h : Follows a s) :
    Follows a (State.takeAck s p ack) := by
  unfold State.takeAck
  with_reducible repeat' first
    | assumption | apply State.modPort_follows | apply State.count_follows | apply Follows.ite
    | refine Follows.keep ?_ ⟨rfl, Nat.le_refl _, Nat.le_refl _, rfl, rfl⟩

theorem State.closeRing_follows {s : State} {es : List (List Byte)} {a : State} (h : Follows a s) :
    Follows a (State.closeRing s es) := by
  unfold State.closeRing
  with_reducible repeat' first
    | assumption | apply State.capRing_follows | apply State.put_follows | apply State.showPorts_follows | apply State.evt_follows
    | apply State.tickFresh_follows | apply Follows.ite | refine Follows.keep ?_ ⟨rfl, Nat.le_refl _, Nat.le_refl _, rfl, rfl⟩

theorem State.passToken_follows {s : State} {a : State} (h : Follows a s) :
    Follows a (State.passToken s) := by
  unfold State.passToken
  with_reducible repeat' first
    | assumption | apply State.sendControl_follows
    | (intro x; refine Follows.use (a := a) (s := x) ?_ ?_; unfold x; rotate_left; try clear_value x; intro hx) | intro x | lift_lets
    | apply Follows.ite | apply Follows.foldl | apply Follows.forRange | split | dsimp only | refine Follows.fst (by assumption) ?_
    | refine Follows.keep ?_ ⟨rfl, Nat.le_refl _, Nat.le_refl _, rfl, rfl⟩

theorem State.ringFlit_follows {s : State} {p : Nat} {f : Flit} {a : State} (h : Follows a s) :
    Follows a (State.ringFlit s p f) := by
  unfold State.ringFlit
  with_reducible repeat' first
    | assumption | apply State.closeRing_follows | apply State.sendControl_follows | apply State.passToken_follows
    | apply Follows.ite | refine Follows.keep ?_ ⟨rfl, Nat.le_refl _, Nat.le_refl _, rfl, rfl⟩

theorem State.refuseFlit_follows {s : State} {p : Nat} {a : State} (h : Follows a s) :
    Follows a (State.refuseFlit s p) := by
  unfold State.refuseFlit
  with_reducible repeat' first
    | assumption | apply State.sendIdle_follows

theorem State.startToken_follows {s : State} {a : State} (h : Follows a s) :
    Follows a (State.startToken s) := by
  unfold State.startToken
  with_reducible repeat' first
    | assumption | apply State.sendControl_follows | apply Follows.ite
    | refine Follows.keep ?_ ⟨rfl, Nat.le_refl _, Nat.le_refl _, rfl, rfl⟩

theorem State.followTick_follows {s : State} {f : Flit} {a : State} (h : Follows a s) :
    Follows a (State.followTick s f) := by
  unfold State.followTick
  with_reducible repeat' first
    | assumption | apply State.newFrame_follows | apply State.boundary_follows | apply State.beginFollowed_follows
    | (intro x; refine Follows.use (a := a) (s := x) ?_ ?_; unfold x; rotate_left; try clear_value x; intro hx) | intro x | lift_lets
    | apply Follows.ite | apply Follows.foldl | apply Follows.forRange | split | dsimp only | refine Follows.fst (by assumption) ?_
    | refine Follows.keep ?_ ⟨rfl, Nat.le_refl _, Nat.le_refl _, rfl, rfl⟩

theorem State.losePeer_follows {s : State} {p : Nat} {a : State} (h : Follows a s) :
    Follows a (State.losePeer s p) := by
  unfold State.losePeer
  with_reducible repeat' first
    | assumption | apply State.evt_follows | apply State.lookout_follows | apply State.report_follows | apply State.breakRing_follows
    | apply State.requestReset_follows

theorem State.goodFlit_follows {s : State} {p : Nat} {f : Flit} {a : State} (h : Follows a s) :
    Follows a (State.goodFlit s p f) := by
  unfold State.goodFlit
  with_reducible repeat' first
    | assumption | apply State.incR64_follows | apply State.takeAck_follows | apply State.replay_follows | apply Follows.ite
    | refine Follows.keep ?_ ⟨rfl, Nat.le_refl _, Nat.le_refl _, rfl, rfl⟩

theorem State.receive_follows {s : State} {p : Nat} {f : Flit} {eff : State → State} {a : State} (h : Follows a s) (heff : ∀ t, Follows a t → Follows a (eff t)) :
    Follows a (State.receive s p f eff) := by
  unfold State.receive
  with_reducible repeat' first
    | assumption | apply State.refuseFlit_follows | apply State.modPort_follows | apply State.sendIdle_follows
    | apply State.goodFlit_follows | apply heff | apply Follows.ite
    | refine Follows.keep ?_ ⟨rfl, Nat.le_refl _, Nat.le_refl _, rfl, rfl⟩

theorem State.hello_follows {s : State} {p : Nat} {f : Flit} {a : State} (h : Follows a s) :
    Follows a (State.hello s p f) := by
  unfold State.hello
  with_reducible repeat' first
    | assumption | apply State.put_follows | apply State.showPorts_follows | apply State.endPortXfers_follows
    | apply State.evt_follows | apply State.modPort_follows | apply State.passToken_follows | apply State.startToken_follows
    | apply Follows.ite | refine Follows.keep ?_ ⟨rfl, Nat.le_refl _, Nat.le_refl _, rfl, rfl⟩

theorem execFlitHello_follows {p : Fin 2} {flit : Flit} {s : State} {a : State} (h : Follows a s) :
    Yields a (execFlitHello p flit s) := by
  unfold execFlitHello
  with_reducible repeat' first
    | apply Yields.next | assumption | apply State.receive_follows | apply State.hello_follows | apply Follows.ite
    | apply Follows.foldl | apply Follows.forRange | intro

theorem State.takeData_follows {s : State} {p : Nat} {f : Flit} {a : State} (h : Follows a s) :
    Follows a (State.takeData s p f) := by
  unfold State.takeData
  with_reducible repeat' first
    | assumption | apply State.count_follows | apply State.deliver_follows | apply State.modXfer_follows
    | (intro x; refine Follows.use (a := a) (s := x) ?_ ?_; unfold x; rotate_left; try clear_value x; intro hx) | intro x | lift_lets
    | apply Follows.ite | apply Follows.foldl | apply Follows.forRange | split | dsimp only | refine Follows.fst (by assumption) ?_
    | refine Follows.keep ?_ ⟨rfl, Nat.le_refl _, Nat.le_refl _, rfl, rfl⟩

theorem execFlitReadData_follows {p : Fin 2} {flit : Flit} {s : State} {a : State} (h : Follows a s) :
    Yields a (execFlitReadData p flit s) := by
  unfold execFlitReadData
  with_reducible repeat' first
    | apply Yields.next | assumption | apply State.receive_follows | apply State.takeData_follows | apply Follows.ite
    | apply Follows.foldl | apply Follows.forRange | intro

theorem execFlitIdle_follows {p : Fin 2} {flit : Flit} {s : State} {a : State} (h : Follows a s) :
    Yields a (execFlitIdle p flit s) := by
  unfold execFlitIdle
  with_reducible repeat' first
    | apply Yields.next | assumption | apply State.goodFlit_follows | apply Follows.ite
    | refine Follows.keep ?_ ⟨rfl, Nat.le_refl _, Nat.le_refl _, rfl, rfl⟩

theorem State.tickFlit_follows {s : State} {p : Nat} {f : Flit} {a : State} (h : Follows a s) :
    Follows a (State.tickFlit s p f) := by
  unfold State.tickFlit
  with_reducible repeat' first
    | assumption | apply State.discardFlit_follows | apply State.sendControl_follows | apply State.followTick_follows
    | apply Follows.ite | refine Follows.keep ?_ ⟨rfl, Nat.le_refl _, Nat.le_refl _, rfl, rfl⟩

theorem State.bandStatus_follows {s : State} {p : Nat} {f : Flit} {a : State} (h : Follows a s) :
    Follows a (State.bandStatus s p f) := by
  unfold State.bandStatus
  with_reducible repeat' first
    | assumption | apply State.discardFlit_follows | apply State.sendControl_follows | apply Follows.ite
    | refine Follows.keep ?_ ⟨rfl, Nat.le_refl _, Nat.le_refl _, rfl, rfl⟩

theorem State.loseRootTick_follows {s : State} {a : State} (h : Follows a s) :
    Follows a (State.loseRootTick s) := by
  unfold State.loseRootTick
  with_reducible repeat' first
    | assumption | apply State.boundary_follows | apply State.endLock_follows | apply State.beginTick_follows
    | (intro x; refine Follows.use (a := a) (s := x) ?_ ?_; unfold x; rotate_left; try clear_value x; intro hx) | intro x | lift_lets
    | apply Follows.ite | apply Follows.foldl | apply Follows.forRange | split | dsimp only | refine Follows.fst (by assumption) ?_
    | refine Follows.keep ?_ ⟨rfl, Nat.le_refl _, Nat.le_refl _, rfl, rfl⟩

theorem execBadFlit_follows {p : Fin 2} {goodCrc : Bool} {_flit : Flit} {s : State} {a : State} (h : Follows a s) :
    Yields a (execBadFlit p goodCrc _flit s) := by
  unfold execBadFlit
  with_reducible repeat' first
    | apply Yields.next | assumption | apply State.refuseFlit_follows | apply State.count_follows | apply Follows.ite
    | refine Follows.keep ?_ ⟨rfl, Nat.le_refl _, Nat.le_refl _, rfl, rfl⟩

theorem execFlitRing_follows {p : Fin 2} {flit : Flit} {s : State} {a : State} (h : Follows a s) :
    Yields a (execFlitRing p flit s) := by
  unfold execFlitRing
  with_reducible repeat' first
    | apply Yields.next | assumption | apply State.receive_follows | apply State.ringFlit_follows | apply Follows.ite
    | apply Follows.foldl | apply Follows.forRange | intro

theorem State.replyData_follows {s : State} {p : Nat} {f : Flit} {bs : List Byte} {a : State} (h : Follows a s) :
    Follows a (State.replyData s p f bs) := by
  unfold State.replyData
  with_reducible repeat' first
    | assumption | apply State.sendFlit_follows

theorem execPortTrainRetry_follows {p : Fin 2} {ok : Bool} {s : State} {a : State} (h : Follows a s) :
    Yields a (execPortTrainRetry p ok s) := by
  unfold execPortTrainRetry
  with_reducible repeat' first
    | apply Yields.next | assumption | apply State.trainPort_follows | apply Follows.ite
    | refine Follows.keep ?_ ⟨rfl, Nat.le_refl _, Nat.le_refl _, rfl, rfl⟩

theorem execTickFlitTimeout_follows {s : State} {a : State} (h : Follows a s) :
    Yields a (execTickFlitTimeout s) := by
  unfold execTickFlitTimeout
  with_reducible repeat' first
    | apply Yields.next | assumption | apply State.loseRootTick_follows

theorem execPeerTimeout_follows {p : Fin 2} {s : State} {a : State} (h : Follows a s) :
    Yields a (execPeerTimeout p s) := by
  unfold execPeerTimeout
  with_reducible repeat' first
    | apply Yields.next | assumption | apply State.losePeer_follows | apply Follows.ite
    | refine Follows.keep ?_ ⟨rfl, Nat.le_refl _, Nat.le_refl _, rfl, rfl⟩

theorem execReplayTimeout_follows {p : Fin 2} {s : State} {a : State} (h : Follows a s) :
    Yields a (execReplayTimeout p s) := by
  unfold execReplayTimeout
  with_reducible repeat' first
    | apply Yields.next | assumption | apply State.replay_follows | apply Follows.ite
    | refine Follows.keep ?_ ⟨rfl, Nat.le_refl _, Nat.le_refl _, rfl, rfl⟩

theorem execRingWaitExpiry_follows {s : State} {a : State} (h : Follows a s) :
    Yields a (execRingWaitExpiry s) := by
  unfold execRingWaitExpiry
  with_reducible repeat' first
    | apply Yields.next | assumption | apply State.goSolo_follows | apply Follows.ite
    | refine Follows.keep ?_ ⟨rfl, Nat.le_refl _, Nat.le_refl _, rfl, rfl⟩

theorem execReservedFlit_follows {p : Fin 2} {_type : Nat} {flit : Flit} {s : State} {a : State} (h : Follows a s) :
    Yields a (execReservedFlit p _type flit s) := by
  unfold execReservedFlit
  with_reducible repeat' first
    | apply Yields.next | assumption | apply State.receive_follows | apply State.discardFlit_follows | apply Follows.ite
    | apply Follows.foldl | apply Follows.forRange | intro

theorem execFlitTick_follows {p : Fin 2} {flit : Flit} {s : State} {a : State} (h : Follows a s) :
    Yields a (execFlitTick p flit s) := by
  unfold execFlitTick
  with_reducible repeat' first
    | apply Yields.next | assumption | apply State.receive_follows | apply State.tickFlit_follows | apply Follows.ite
    | apply Follows.foldl | apply Follows.forRange | intro

theorem State.answerRead_follows {s : State} {p : Nat} {f : Flit} {a : State} (h : Follows a s) :
    Follows a (State.answerRead s p f) := by
  unfold State.answerRead
  with_reducible repeat' first
    | assumption | apply State.replyData_follows | apply State.plainRead_follows | apply State.tickFresh_follows
    | apply State.discardFlit_follows
    | (intro x; refine Follows.use (a := a) (s := x) ?_ ?_; unfold x; rotate_left; try clear_value x; intro hx) | intro x | lift_lets
    | apply Follows.ite | apply Follows.foldl | apply Follows.forRange | split | dsimp only | refine Follows.fst (by assumption) ?_
    | refine Follows.keep ?_ ⟨rfl, Nat.le_refl _, Nat.le_refl _, rfl, rfl⟩

theorem execFlitReadReq_follows {p : Fin 2} {flit : Flit} {s : State} {a : State} (h : Follows a s) :
    Yields a (execFlitReadReq p flit s) := by
  unfold execFlitReadReq
  with_reducible repeat' first
    | apply Yields.next | assumption | apply State.receive_follows | apply State.answerRead_follows | apply Follows.ite
    | apply Follows.foldl | apply Follows.forRange | intro

theorem execFlitWrite_follows {p : Fin 2} {flit : Flit} {s : State} {a : State} (h : Follows a s) :
    Yields a (execFlitWrite p flit s) := by
  unfold execFlitWrite
  with_reducible repeat' first
    | apply Yields.next | assumption | apply State.receive_follows | apply State.storeFlit_follows | apply Follows.ite
    | apply Follows.foldl | apply Follows.forRange | intro

theorem execFlitStatus_follows {p : Fin 2} {flit : Flit} {s : State} {a : State} (h : Follows a s) :
    Yields a (execFlitStatus p flit s) := by
  unfold execFlitStatus
  with_reducible repeat' first
    | apply Yields.next | assumption | apply State.receive_follows | apply State.bandStatus_follows | apply Follows.ite
    | apply Follows.foldl | apply Follows.forRange | intro

end Sys2Proof.Machine
end

