-- ==== Sys2Proof/Laws/FollowsEvents.lean ====
section
/-! SUPPORT. What Machine/Events.lean does to the queue and to what every step keeps: one lemma for each definition that gives a state. -/
namespace Sys2Proof.Machine
open Sys2Proof

theorem State.writeSel_follows {s : State} {p : Nat} {kernel : Bool} {v : Nat} {a : State} (h : Follows a s) :
    Follows a (State.writeSel s p kernel v) := by
  unfold State.writeSel
  with_reducible repeat' first
    | assumption | apply State.storeReg_follows | apply State.put_follows | apply Follows.ite | apply Follows.foldl
    | apply Follows.forRange | intro

theorem execEvrSel_follows {init : Initiator} {port : Fin 2} {value : Word} {s : State} {a : State} (h : Follows a s) :
    Yields a (execEvrSel init port value s) := by
  unfold execEvrSel
  with_reducible repeat' first
    | apply Yields.next | assumption | apply State.viaWrite_follows | apply State.writeSel_follows | apply Follows.ite
    | apply Follows.foldl | apply Follows.forRange | intro

theorem State.endWindow_follows {s : State} {a : State} (h : Follows a s) :
    Follows a (State.endWindow s) := by
  unfold State.endWindow
  with_reducible repeat' first
    | assumption | apply State.setRb_follows | apply State.number_follows
    | (intro x; refine Follows.use (a := a) (s := x) ?_ ?_; unfold x; rotate_left; try clear_value x; intro hx) | intro x | lift_lets
    | apply Follows.ite | apply Follows.foldl | apply Follows.forRange | split | dsimp only | refine Follows.fst (by assumption) ?_
    | refine Follows.keep ?_ ⟨rfl, Nat.le_refl _, Nat.le_refl _, rfl, rfl⟩

theorem execRateWindowEnd_follows {s : State} {a : State} (h : Follows a s) :
    Yields a (execRateWindowEnd s) := by
  unfold execRateWindowEnd
  with_reducible repeat' first
    | apply Yields.next | assumption | apply State.endWindow_follows | apply Follows.ite
    | refine Follows.keep ?_ ⟨rfl, Nat.le_refl _, Nat.le_refl _, rfl, rfl⟩

theorem execEventRecord_follows {event : EventReport} {s : State} {a : State} (h : Follows a s) :
    Yields a (execEventRecord event s) := by
  unfold execEventRecord
  with_reducible repeat' first
    | apply Yields.next | assumption | apply State.report_follows | apply Follows.ite
    | refine Follows.keep ?_ ⟨rfl, Nat.le_refl _, Nat.le_refl _, rfl, rfl⟩

end Sys2Proof.Machine
end

