-- ==== Sys2Proof/Laws/FollowsMailbox.lean ====
section
/-! SUPPORT. What Machine/Mailbox.lean does to the queue and to what every step keeps: one lemma for each definition that gives a state. -/
namespace Sys2Proof.Machine
open Sys2Proof

theorem Reply.respond_follows {r : Reply} {b : Nat} {tag : Nat} {a : State} (h : Follows a r.state) :
    Follows a (Reply.respond r b tag) := by
  unfold Reply.respond
  with_reducible repeat' first
    | assumption | apply State.put_follows
    | (intro x; refine Follows.use (a := a) (s := x) ?_ ?_; unfold x; rotate_left; try clear_value x; intro hx) | intro x | lift_lets
    | apply Follows.ite | apply Follows.foldl | apply Follows.forRange | split | dsimp only | refine Follows.fst (by assumption) ?_
    | refine Follows.keep ?_ ⟨rfl, Nat.le_refl _, Nat.le_refl _, rfl, rfl⟩

theorem replyFail_follows {s : State} {status : Nat} {a : State} (h : Follows a s) :
    Follows a (replyFail s status).state := by
  unfold replyFail
  with_reducible repeat' first
    | assumption

theorem State.serve_follows {s : State} {b : Nat} {op : Nat} {run : State → Reply} {a : State} (h : Follows a s) (hrun : ∀ t, Follows a t → Follows a (run t).state) :
    Follows a (State.serve s b op run) := by
  unfold State.serve
  with_reducible repeat' first
    | assumption | apply Reply.respond_follows | apply replyFail_follows | apply hrun
    | (intro x; refine Follows.use (a := a) (s := x) ?_ ?_; unfold x; rotate_left; try clear_value x; intro hx) | intro x | lift_lets
    | apply Follows.ite | apply Follows.foldl | apply Follows.forRange | split | dsimp only | refine Follows.fst (by assumption) ?_
    | refine Follows.keep ?_ ⟨rfl, Nat.le_refl _, Nat.le_refl _, rfl, rfl⟩

theorem replyIf_follows {s : State} {checks : List (Bool × Nat)} {run : Reply} {a : State} (h : Follows a s) (h2 : Follows a run.state) :
    Follows a (replyIf s checks run).state := by
  unfold replyIf
  with_reducible repeat' first
    | assumption | apply replyFail_follows
    | (intro x; refine Follows.use (a := a) (s := x) ?_ ?_; unfold x; rotate_left; try clear_value x; intro hx) | intro x | lift_lets
    | apply Follows.ite | apply Follows.foldl | apply Follows.forRange | split | dsimp only | refine Follows.fst (by assumption) ?_
    | refine Follows.keep ?_ ⟨rfl, Nat.le_refl _, Nat.le_refl _, rfl, rfl⟩

theorem replyOk_follows {s : State} {result : List Nat} {a : State} (h : Follows a s) :
    Follows a (replyOk s result).state := by
  unfold replyOk
  with_reducible repeat' first
    | assumption

theorem State.kernelWrite_follows {s : State} {a' : Nat} {bs : List Byte} {a : State} (h : Follows a s) :
    Follows a (State.kernelWrite s a' bs) := by
  unfold State.kernelWrite
  with_reducible repeat' first
    | assumption | apply State.plainWrite_follows | apply Follows.ite
    | refine Follows.keep ?_ ⟨rfl, Nat.le_refl _, Nat.le_refl _, rfl, rfl⟩

theorem State.certService_follows {b : Nat} {s : State} {a : State} (h : Follows a s) :
    Follows a (State.certService b s).state := by
  unfold State.certService
  with_reducible repeat' first
    | assumption | apply replyIf_follows | apply replyOk_follows | apply State.kernelWrite_follows

theorem execMbxCert_follows {b : Fin 2} {s : State} {a : State} (h : Follows a s) :
    Yields a (execMbxCert b s) := by
  unfold execMbxCert
  with_reducible repeat' first
    | apply Yields.next | assumption | apply State.serve_follows | apply State.certService_follows | apply Follows.ite
    | apply Follows.foldl | apply Follows.forRange | intro

theorem State.resetService_follows {b : Nat} {s : State} {a : State} (h : Follows a s) :
    Follows a (State.resetService b s).state := by
  unfold State.resetService
  with_reducible repeat' first
    | assumption | apply replyIf_follows | apply replyOk_follows | apply State.domainReq_follows

theorem execMbxReset_follows {b : Fin 2} {s : State} {a : State} (h : Follows a s) :
    Yields a (execMbxReset b s) := by
  unfold execMbxReset
  with_reducible repeat' first
    | apply Yields.next | assumption | apply State.serve_follows | apply State.resetService_follows | apply Follows.ite
    | apply Follows.foldl | apply Follows.forRange | intro

theorem State.testService_follows {b : Nat} {s : State} {a : State} (h : Follows a s) :
    Follows a (State.testService b s).state := by
  unfold State.testService
  with_reducible repeat' first
    | assumption | apply replyIf_follows | apply replyFail_follows | apply State.requestTest_follows | apply replyOk_follows
    | (intro x; refine Follows.use (a := a) (s := x) ?_ ?_; unfold x; rotate_left; try clear_value x; intro hx) | intro x | lift_lets
    | apply Follows.ite | apply Follows.foldl | apply Follows.forRange | split | dsimp only | refine Follows.fst (by assumption) ?_
    | refine Follows.keep ?_ ⟨rfl, Nat.le_refl _, Nat.le_refl _, rfl, rfl⟩

theorem execMbxTest_follows {b : Fin 2} {s : State} {a : State} (h : Follows a s) :
    Yields a (execMbxTest b s) := by
  unfold execMbxTest
  with_reducible repeat' first
    | apply Yields.next | assumption | apply State.serve_follows | apply State.testService_follows | apply Follows.ite
    | apply Follows.foldl | apply Follows.forRange | intro

theorem State.setRing_follows {s : State} {o : Nat} {base : Nat} {pitch : Nat} {a : State} (h : Follows a s) :
    Follows a (State.setRing s o base pitch) := by
  unfold State.setRing
  with_reducible repeat' first
    | assumption | apply State.put_follows | apply State.setR64_follows | apply Follows.ite
    | refine Follows.keep ?_ ⟨rfl, Nat.le_refl _, Nat.le_refl _, rfl, rfl⟩

theorem State.camRing_follows {b : Nat} {s : State} {a : State} (h : Follows a s) :
    Follows a (State.camRing b s).state := by
  unfold State.camRing
  with_reducible repeat' first
    | assumption | apply replyIf_follows | apply replyOk_follows | apply State.setRing_follows

theorem execCamRing_follows {b : Fin 2} {s : State} {a : State} (h : Follows a s) :
    Yields a (execCamRing b s) := by
  unfold execCamRing
  with_reducible repeat' first
    | apply Yields.next | assumption | apply State.serve_follows | apply State.camRing_follows | apply Follows.ite
    | apply Follows.foldl | apply Follows.forRange | intro

theorem State.makeSealKey_follows {s : State} {c : Nat} {a : State} (h : Follows a s) :
    Follows a (State.makeSealKey s c) := by
  unfold State.makeSealKey
  with_reducible repeat' first
    | assumption | apply State.tickFresh_follows | apply Follows.ite
    | refine Follows.keep ?_ ⟨rfl, Nat.le_refl _, Nat.le_refl _, rfl, rfl⟩

theorem State.ctxStart_follows {b : Nat} {s : State} {a : State} (h : Follows a s) :
    Follows a (State.ctxStart b s).state := by
  unfold State.ctxStart
  with_reducible repeat' first
    | assumption | apply replyIf_follows | apply State.makeSealKey_follows | apply replyOk_follows | apply State.modCtx_follows
    | apply replyFail_follows | apply State.reportOwn_follows
    | (intro x; refine Follows.use (a := a) (s := x) ?_ ?_; unfold x; rotate_left; try clear_value x; intro hx) | intro x | lift_lets
    | apply Follows.ite | apply Follows.foldl | apply Follows.forRange | split | dsimp only | refine Follows.fst (by assumption) ?_
    | refine Follows.keep ?_ ⟨rfl, Nat.le_refl _, Nat.le_refl _, rfl, rfl⟩

theorem State.dropWin_follows {s : State} {w : Nat} {a : State} (h : Follows a s) :
    Follows a (State.dropWin s w) := by
  unfold State.dropWin
  with_reducible repeat' first
    | assumption | apply State.put_follows

theorem State.mbxDoorbell_follows {s : State} {b : Nat} {a : State} (h : Follows a s) :
    Follows a (State.mbxDoorbell s b) := by
  unfold State.mbxDoorbell
  with_reducible repeat' first
    | assumption | apply State.evt_follows | apply Reply.respond_follows | apply replyFail_follows | apply State.put_follows
    | apply Follows.ite | refine Follows.keep ?_ ⟨rfl, Nat.le_refl _, Nat.le_refl _, rfl, rfl⟩

theorem execMbxDoorbell_follows {b : Fin 2} {init : Initiator} {_value : Word} {s : State} {a : State} (h : Follows a s) :
    Yields a (execMbxDoorbell b init _value s) := by
  unfold execMbxDoorbell
  with_reducible repeat' first
    | apply Yields.next | assumption | apply State.viaWrite_follows | apply State.mbxDoorbell_follows | apply Follows.ite
    | apply Follows.foldl | apply Follows.forRange | intro

theorem State.pkgLoad_follows {b : Nat} {s : State} {a : State} (h : Follows a s) :
    Follows a (State.pkgLoad b s).state := by
  unfold State.pkgLoad
  with_reducible repeat' first
    | assumption | apply replyIf_follows | apply replyFail_follows | apply State.modObj_follows | apply replyOk_follows
    | (intro x; refine Follows.use (a := a) (s := x) ?_ ?_; unfold x; rotate_left; try clear_value x; intro hx) | intro x | lift_lets
    | apply Follows.ite | apply Follows.foldl | apply Follows.forRange | split | dsimp only | refine Follows.fst (by assumption) ?_
    | refine Follows.keep ?_ ⟨rfl, Nat.le_refl _, Nat.le_refl _, rfl, rfl⟩

theorem execPkgLoad_follows {b : Fin 2} {s : State} {a : State} (h : Follows a s) :
    Yields a (execPkgLoad b s) := by
  unfold execPkgLoad
  with_reducible repeat' first
    | apply Yields.next | assumption | apply State.serve_follows | apply State.pkgLoad_follows | apply Follows.ite
    | apply Follows.foldl | apply Follows.forRange | intro

theorem State.putWin_follows {s : State} {w : Nat} {e : WinEntry} {a : State} (h : Follows a s) :
    Follows a (State.putWin s w e) := by
  unfold State.putWin
  with_reducible repeat' first
    | assumption | apply State.put_follows

theorem State.winGrant_follows {b : Nat} {s : State} {a : State} (h : Follows a s) :
    Follows a (State.winGrant b s).state := by
  unfold State.winGrant
  with_reducible repeat' first
    | assumption | apply replyIf_follows | apply replyOk_follows | apply State.putWin_follows | apply replyFail_follows
    | (intro x; refine Follows.use (a := a) (s := x) ?_ ?_; unfold x; rotate_left; try clear_value x; intro hx) | intro x | lift_lets
    | apply Follows.ite | apply Follows.foldl | apply Follows.forRange | split | dsimp only | refine Follows.fst (by assumption) ?_
    | refine Follows.keep ?_ ⟨rfl, Nat.le_refl _, Nat.le_refl _, rfl, rfl⟩

theorem execWinGrant_follows {b : Fin 2} {s : State} {a : State} (h : Follows a s) :
    Yields a (execWinGrant b s) := by
  unfold execWinGrant
  with_reducible repeat' first
    | apply Yields.next | assumption | apply State.serve_follows | apply State.winGrant_follows | apply Follows.ite
    | apply Follows.foldl | apply Follows.forRange | intro

theorem State.winRevoke_follows {b : Nat} {s : State} {a : State} (h : Follows a s) :
    Follows a (State.winRevoke b s).state := by
  unfold State.winRevoke
  with_reducible repeat' first
    | assumption | apply replyIf_follows | apply replyOk_follows | apply State.dropWin_follows

theorem execWinRevoke_follows {b : Fin 2} {s : State} {a : State} (h : Follows a s) :
    Yields a (execWinRevoke b s) := by
  unfold execWinRevoke
  with_reducible repeat' first
    | apply Yields.next | assumption | apply State.serve_follows | apply State.winRevoke_follows | apply Follows.ite
    | apply Follows.foldl | apply Follows.forRange | intro

theorem State.ctxStop_follows {b : Nat} {s : State} {a : State} (h : Follows a s) :
    Follows a (State.ctxStop b s).state := by
  unfold State.ctxStop
  with_reducible repeat' first
    | assumption | apply replyIf_follows | apply replyOk_follows | apply State.considerSwaps_follows | apply State.stopCtx_follows

theorem State.dropWindowOf_follows {s : State} {init : Nat} {isReg : Bool} {base : Nat} {a : State} (h : Follows a s) :
    Follows a (State.dropWindowOf s init isReg base) := by
  unfold State.dropWindowOf
  with_reducible repeat' first
    | assumption | apply State.dropWin_follows
    | (intro x; refine Follows.use (a := a) (s := x) ?_ ?_; unfold x; rotate_left; try clear_value x; intro hx) | intro x | lift_lets
    | apply Follows.ite | apply Follows.foldl | apply Follows.forRange | split | dsimp only | refine Follows.fst (by assumption) ?_
    | refine Follows.keep ?_ ⟨rfl, Nat.le_refl _, Nat.le_refl _, rfl, rfl⟩

theorem State.unbindQp_follows {s : State} {q : Nat} {a : State} (h : Follows a s) :
    Follows a (State.unbindQp s q) := by
  unfold State.unbindQp
  with_reducible repeat' first
    | assumption | apply State.setRf_follows | apply State.dropWindowOf_follows

theorem State.attestService_follows {b : Nat} {s : State} {a : State} (h : Follows a s) :
    Follows a (State.attestService b s).state := by
  unfold State.attestService
  with_reducible repeat' first
    | assumption | apply replyIf_follows | apply replyOk_follows | apply State.tickFresh_follows | apply State.kernelWrite_follows

theorem State.bindQp_follows {s t a : State} {q cfg base : Nat} {m r : WinEntry} (h : Follows a s) (e : s.bindQp q cfg base m r = some t) :
    Follows a t := by
  unfold State.bindQp at e
  split at e
  · cases e
  · dsimp only at e
    split at e
    · cases e
    · cases e
      exact State.setReg_follows (Follows.foldl (State.setR64_follows (State.putWin_follows (State.putWin_follows h)))
        (fun _ _ k => State.setReg_follows k))

theorem State.bindQp_either {s t a : State} {c : Prop} [Decidable c] {q f b f' b' : Nat} {m r m' r' : WinEntry} (h : Follows a s)
    (e : (if c then s.bindQp q f b m r else s.bindQp q f' b' m' r') = some t) : Follows a t := by
  split at e <;> exact State.bindQp_follows h e

theorem State.qpBind_follows {b : Nat} {s : State} {a : State} (h : Follows a s) :
    Follows a (State.qpBind b s).state := by
  unfold State.qpBind
  with_reducible repeat' first
    | assumption | exact State.bindQp_either h (by assumption) | apply replyFail_follows | apply replyOk_follows
    | apply State.unbindQp_follows | apply replyIf_follows
    | (intro x; refine Follows.use (a := a) (s := x) ?_ ?_; unfold x; rotate_left; try clear_value x; intro hx) | intro x | lift_lets
    | apply Follows.ite | apply Follows.foldl | apply Follows.forRange | split | dsimp only | refine Follows.fst (by assumption) ?_
    | refine Follows.keep ?_ ⟨rfl, Nat.le_refl _, Nat.le_refl _, rfl, rfl⟩

theorem execQpBind_follows {b : Fin 2} {s : State} {a : State} (h : Follows a s) :
    Yields a (execQpBind b s) := by
  unfold execQpBind
  with_reducible repeat' first
    | apply Yields.next | assumption | apply State.serve_follows | apply State.qpBind_follows | apply Follows.ite
    | apply Follows.foldl | apply Follows.forRange | intro

theorem execMbxAttest_follows {b : Fin 2} {s : State} {a : State} (h : Follows a s) :
    Yields a (execMbxAttest b s) := by
  unfold execMbxAttest
  with_reducible repeat' first
    | apply Yields.next | assumption | apply State.serve_follows | apply State.attestService_follows | apply Follows.ite
    | apply Follows.foldl | apply Follows.forRange | intro

theorem State.ctxPrio_follows {b : Nat} {s : State} {a : State} (h : Follows a s) :
    Follows a (State.ctxPrio b s).state := by
  unfold State.ctxPrio
  with_reducible repeat' first
    | assumption | apply replyIf_follows | apply replyOk_follows | apply State.considerSwaps_follows | apply State.modCtx_follows

theorem execCtxPrio_follows {b : Fin 2} {s : State} {a : State} (h : Follows a s) :
    Yields a (execCtxPrio b s) := by
  unfold execCtxPrio
  with_reducible repeat' first
    | apply Yields.next | assumption | apply State.serve_follows | apply State.ctxPrio_follows | apply Follows.ite
    | apply Follows.foldl | apply Follows.forRange | intro

theorem State.swapRateService_follows {b : Nat} {s : State} {a : State} (h : Follows a s) :
    Follows a (State.swapRateService b s).state := by
  unfold State.swapRateService
  with_reducible repeat' first
    | assumption | apply replyIf_follows | apply replyOk_follows | apply State.setSwapRate_follows | apply replyFail_follows
    | (intro x; refine Follows.use (a := a) (s := x) ?_ ?_; unfold x; rotate_left; try clear_value x; intro hx) | intro x | lift_lets
    | apply Follows.ite | apply Follows.foldl | apply Follows.forRange | split | dsimp only | refine Follows.fst (by assumption) ?_
    | refine Follows.keep ?_ ⟨rfl, Nat.le_refl _, Nat.le_refl _, rfl, rfl⟩

theorem execCtxStart_follows {b : Fin 2} {s : State} {a : State} (h : Follows a s) :
    Yields a (execCtxStart b s) := by
  unfold execCtxStart
  with_reducible repeat' first
    | apply Yields.next | assumption | apply State.serve_follows | apply State.ctxStart_follows | apply Follows.ite
    | apply Follows.foldl | apply Follows.forRange | intro

theorem execCtxStop_follows {b : Fin 2} {s : State} {a : State} (h : Follows a s) :
    Yields a (execCtxStop b s) := by
  unfold execCtxStop
  with_reducible repeat' first
    | apply Yields.next | assumption | apply State.serve_follows | apply State.ctxStop_follows | apply Follows.ite
    | apply Follows.foldl | apply Follows.forRange | intro

theorem State.setGroup_follows {b : Nat} {s : State} {a : State} (h : Follows a s) :
    Follows a (State.setGroup b s).state := by
  unfold State.setGroup
  with_reducible repeat' first
    | assumption | apply replyIf_follows | apply replyFail_follows | apply State.reportOwn_follows | apply State.put_follows
    | apply replyOk_follows | apply State.setR64_follows
    | (intro x; refine Follows.use (a := a) (s := x) ?_ ?_; unfold x; rotate_left; try clear_value x; intro hx) | intro x | lift_lets
    | apply Follows.ite | apply Follows.foldl | apply Follows.forRange | split | dsimp only | refine Follows.fst (by assumption) ?_
    | refine Follows.keep ?_ ⟨rfl, Nat.le_refl _, Nat.le_refl _, rfl, rfl⟩

theorem execSeqGroup_follows {b : Fin 2} {s : State} {a : State} (h : Follows a s) :
    Yields a (execSeqGroup b s) := by
  unfold execSeqGroup
  with_reducible repeat' first
    | apply Yields.next | assumption | apply State.serve_follows | apply State.setGroup_follows | apply Follows.ite
    | apply Follows.foldl | apply Follows.forRange | intro

theorem execSwapRate_follows {b : Fin 2} {s : State} {a : State} (h : Follows a s) :
    Yields a (execSwapRate b s) := by
  unfold execSwapRate
  with_reducible repeat' first
    | apply Yields.next | assumption | apply State.serve_follows | apply State.swapRateService_follows | apply Follows.ite
    | apply Follows.foldl | apply Follows.forRange | intro

end Sys2Proof.Machine
end

