-- ==== Sys2Proof/Laws/FollowsPcie.lean ====
section
/-! SUPPORT. What Machine/Pcie.lean does to the queue and to what every step keeps: one lemma for each definition that gives a state. -/
namespace Sys2Proof.Machine
open Sys2Proof

theorem State.disableQps_follows {s : State} {a : State} (h : Follows a s) :
    Follows a (State.disableQps s) := by
  unfold State.disableQps
  with_reducible repeat' first
    | assumption | apply State.putF_follows | apply Follows.ite | apply Follows.foldl | apply Follows.forRange | intro

theorem State.loseLink_follows {s : State} {a : State} (h : Follows a s) :
    Follows a (State.loseLink s) := by
  unfold State.loseLink
  with_reducible repeat' first
    | assumption | apply State.pciEvent_follows | apply Follows.ite
    | refine Follows.keep ?_ ⟨rfl, Nat.le_refl _, Nat.le_refl _, rfl, rfl⟩

theorem State.endpointReset_follows {s : State} {a : State} (h : Follows a s) :
    Follows a (State.endpointReset s) := by
  unfold State.endpointReset
  with_reducible repeat' first
    | assumption | apply State.disableQps_follows | apply State.loseLink_follows | apply State.showLink_follows | apply Follows.ite
    | refine Follows.keep ?_ ⟨rfl, Nat.le_refl _, Nat.le_refl _, rfl, rfl⟩

theorem State.doorbellBad_follows {s : State} {a : State} (h : Follows a s) :
    Follows a (State.doorbellBad s) := by
  unfold State.doorbellBad
  with_reducible repeat' first
    | assumption | apply State.pciEvent_follows | apply State.count_follows

theorem State.sqTail_follows {s : State} {q : Nat} {v : Nat} {a : State} (h : Follows a s) :
    Follows a (State.sqTail s q v) := by
  unfold State.sqTail
  with_reducible repeat' first
    | assumption | apply State.putF_follows | apply State.doorbellBad_follows | apply Follows.ite
    | refine Follows.keep ?_ ⟨rfl, Nat.le_refl _, Nat.le_refl _, rfl, rfl⟩

theorem State.sqPend_follows {s : State} {init : Initiator} {i : Nat} {v : Nat} {a : State} (h : Follows a s) :
    Follows a (State.sqPend s init i v) := by
  unfold State.sqPend
  with_reducible repeat' first
    | assumption | apply State.put_follows

theorem State.sqHead_follows {s : State} {kernel : Bool} {q : Nat} {v : Nat} {a : State} (h : Follows a s) :
    Follows a (State.sqHead s kernel q v) := by
  unfold State.sqHead
  with_reducible repeat' first
    | assumption | apply State.putF_follows | apply State.storeReg_follows | apply State.doorbellBad_follows | apply Follows.ite
    | refine Follows.keep ?_ ⟨rfl, Nat.le_refl _, Nat.le_refl _, rfl, rfl⟩

theorem State.hostWrite_follows {s : State} {eff : State → State} {a : State} (h : Follows a s) (heff : ∀ t, Follows a t → Follows a (eff t)) :
    Follows a (State.hostWrite s eff) := by
  unfold State.hostWrite
  with_reducible repeat' first
    | assumption | apply State.answer_follows | apply heff | apply Follows.ite
    | refine Follows.keep ?_ ⟨rfl, Nat.le_refl _, Nat.le_refl _, rfl, rfl⟩

theorem execQppSqTail_follows {q : Fin 128} {value : Word} {s : State} {a : State} (h : Follows a s) :
    Yields a (execQppSqTail q value s) := by
  unfold execQppSqTail
  with_reducible repeat' first
    | apply Yields.next | assumption | apply State.hostWrite_follows | apply State.sqTail_follows | apply Follows.ite
    | apply Follows.foldl | apply Follows.forRange | intro

theorem State.cqTail_follows {s : State} {kernel : Bool} {q : Nat} {v : Nat} {a : State} (h : Follows a s) :
    Follows a (State.cqTail s kernel q v) := by
  unfold State.cqTail
  with_reducible repeat' first
    | assumption | apply State.msixSignal_follows | apply State.storeReg_follows | apply State.doorbellBad_follows
    | apply Follows.ite | refine Follows.keep ?_ ⟨rfl, Nat.le_refl _, Nat.le_refl _, rfl, rfl⟩

theorem execQpCqTail_follows {init : Initiator} {q : Fin 128} {value : Word} {s : State} {a : State} (h : Follows a s) :
    Yields a (execQpCqTail init q value s) := by
  unfold execQpCqTail
  with_reducible repeat' first
    | apply Yields.next | assumption | apply State.viaWrite_follows | apply State.cqTail_follows | apply Follows.ite
    | apply Follows.foldl | apply Follows.forRange | intro

theorem State.cqHead_follows {s : State} {q : Nat} {v : Nat} {a : State} (h : Follows a s) :
    Follows a (State.cqHead s q v) := by
  unfold State.cqHead
  with_reducible repeat' first
    | assumption | apply State.putF_follows | apply State.doorbellBad_follows | apply Follows.ite
    | refine Follows.keep ?_ ⟨rfl, Nat.le_refl _, Nat.le_refl _, rfl, rfl⟩

theorem execQppCqHead_follows {q : Fin 128} {value : Word} {s : State} {a : State} (h : Follows a s) :
    Yields a (execQppCqHead q value s) := by
  unfold execQppCqHead
  with_reducible repeat' first
    | apply Yields.next | assumption | apply State.hostWrite_follows | apply State.cqHead_follows | apply Follows.ite
    | apply Follows.foldl | apply Follows.forRange | intro

theorem execPciObBase_follows {high : Bool} {value : Word} {s : State} {a : State} (h : Follows a s) :
    Yields a (execPciObBase high value s) := by
  unfold execPciObBase
  with_reducible repeat' first
    | apply Yields.next | assumption | apply State.hostWrite_follows | apply State.storePair_follows | apply Follows.ite
    | apply Follows.foldl | apply Follows.forRange | intro

theorem execPerst_follows {s : State} {a : State} (h : Follows a s) :
    Yields a (execPerst s) := by
  unfold execPerst
  with_reducible repeat' first
    | apply Yields.next | assumption | apply State.pciEvent_follows | apply State.endpointReset_follows

theorem execFlr_follows {s : State} {a : State} (h : Follows a s) :
    Yields a (execFlr s) := by
  unfold execFlr
  with_reducible repeat' first
    | apply Yields.next | assumption | apply State.endpointReset_follows | apply Follows.ite
    | refine Follows.keep ?_ ⟨rfl, Nat.le_refl _, Nat.le_refl _, rfl, rfl⟩

theorem execPciSqPend_follows {init : Initiator} {i : Fin 4} {value : Word} {s : State} {a : State} (h : Follows a s) :
    Yields a (execPciSqPend init i value s) := by
  unfold execPciSqPend
  with_reducible repeat' first
    | apply Yields.next | assumption | apply State.viaWrite_follows | apply State.sqPend_follows | apply Follows.ite
    | apply Follows.foldl | apply Follows.forRange | intro

theorem execPcieLinkDown_follows {s : State} {a : State} (h : Follows a s) :
    Yields a (execPcieLinkDown s) := by
  unfold execPcieLinkDown
  with_reducible repeat' first
    | apply Yields.next | assumption | apply State.showLink_follows | apply State.loseLink_follows

theorem execPcieLinkUp_follows {s : State} {a : State} (h : Follows a s) :
    Yields a (execPcieLinkUp s) := by
  unfold execPcieLinkUp
  with_reducible repeat' first
    | apply Yields.next | assumption | apply State.tickFresh_follows | apply State.pciEvent_follows | apply State.showLink_follows
    | (intro x; refine Follows.use (a := a) (s := x) ?_ ?_; unfold x; rotate_left; try clear_value x; intro hx) | intro x | lift_lets
    | apply Follows.ite | apply Follows.foldl | apply Follows.forRange | split | dsimp only | refine Follows.fst (by assumption) ?_
    | refine Follows.keep ?_ ⟨rfl, Nat.le_refl _, Nat.le_refl _, rfl, rfl⟩

theorem execQpSqHead_follows {init : Initiator} {q : Fin 128} {value : Word} {s : State} {a : State} (h : Follows a s) :
    Yields a (execQpSqHead init q value s) := by
  unfold execQpSqHead
  with_reducible repeat' first
    | apply Yields.next | assumption | apply State.viaWrite_follows | apply State.sqHead_follows | apply Follows.ite
    | apply Follows.foldl | apply Follows.forRange | intro

theorem State.msixWrite_follows {s : State} {i : Nat} {v : Nat} {a : State} (h : Follows a s) :
    Follows a (State.msixWrite s i v) := by
  unfold State.msixWrite
  with_reducible repeat' first
    | assumption | apply State.msixSend_follows | apply Follows.ite
    | refine Follows.keep ?_ ⟨rfl, Nat.le_refl _, Nat.le_refl _, rfl, rfl⟩

end Sys2Proof.Machine
end

