-- ==== Sys2Proof/Laws/FollowsUpdate.lean ====
section
/-! SUPPORT. What Machine/Update.lean does to the queue and to what every step keeps: one lemma for each definition that gives a state. -/
namespace Sys2Proof.Machine
open Sys2Proof

theorem State.writeStaging_follows {s : State} {off : Nat} {bs : List Byte} {a : State} (h : Follows a s) :
    Follows a (State.writeStaging s off bs) := by
  unfold State.writeStaging
  with_reducible repeat' first
    | assumption | apply State.setSlot_follows
    | (intro x; refine Follows.use (a := a) (s := x) ?_ ?_; unfold x; rotate_left; try clear_value x; intro hx) | intro x | lift_lets
    | apply Follows.ite | apply Follows.foldl | apply Follows.forRange | split | dsimp only | refine Follows.fst (by assumption) ?_
    | refine Follows.keep ?_ ⟨rfl, Nat.le_refl _, Nat.le_refl _, rfl, rfl⟩

theorem State.updWrite_follows {b : Nat} {s : State} {a : State} (h : Follows a s) :
    Follows a (State.updWrite b s).state := by
  unfold State.updWrite
  with_reducible repeat' first
    | assumption | apply replyIf_follows | apply replyOk_follows | apply State.tickFresh_follows | apply State.writeStaging_follows

theorem State.finishStaging_follows {s : State} {digest : List Byte} {a : State} (h : Follows a s) :
    Follows a (State.finishStaging s digest).state := by
  unfold State.finishStaging
  with_reducible repeat' first
    | assumption | apply replyFail_follows | apply State.setSlot_follows | apply replyOk_follows
    | (intro x; refine Follows.use (a := a) (s := x) ?_ ?_; unfold x; rotate_left; try clear_value x; intro hx) | intro x | lift_lets
    | apply Follows.ite | apply Follows.foldl | apply Follows.forRange | split | dsimp only | refine Follows.fst (by assumption) ?_
    | refine Follows.keep ?_ ⟨rfl, Nat.le_refl _, Nat.le_refl _, rfl, rfl⟩

theorem execUpdClose_follows {b : Fin 2} {s : State} {a : State} (h : Follows a s) :
    Yields a (execUpdClose b s) := by
  unfold execUpdClose
  with_reducible repeat' first
    | apply Yields.next | assumption | apply State.serve_follows | apply State.finishStaging_follows | apply Follows.ite
    | apply Follows.foldl | apply Follows.forRange | intro

theorem State.writePending_follows {s : State} {mask : Nat} {a : State} (h : Follows a s) :
    Follows a (State.writePending s mask) := by
  unfold State.writePending
  with_reducible repeat' first
    | assumption | apply Follows.ite | refine Follows.keep ?_ ⟨rfl, Nat.le_refl _, Nat.le_refl _, rfl, rfl⟩

theorem State.putSectors_follows {s : State} {n : Nat} {x2 : List (List Byte)} {a : State} (h : Follows a s) :
    Follows a (State.putSectors s n x2) := by
  fun_induction State.putSectors s n x2
  all_goals with_reducible repeat' first
    | assumption | apply_assumption -exfalso -symm
    | (intro x; refine Follows.use (a := a) (s := x) ?_ ?_; unfold x; rotate_left; try clear_value x; intro hx) | intro x | lift_lets
    | apply Follows.ite | apply Follows.foldl | apply Follows.forRange | split | dsimp only | refine Follows.fst (by assumption) ?_
    | refine Follows.keep ?_ ⟨rfl, Nat.le_refl _, Nat.le_refl _, rfl, rfl⟩

theorem State.osWrite_follows {b : Nat} {s : State} {a : State} (h : Follows a s) :
    Follows a (State.osWrite b s).state := by
  unfold State.osWrite
  with_reducible repeat' first
    | assumption | apply replyIf_follows | apply replyOk_follows | apply State.tickFresh_follows | apply State.putSectors_follows

theorem execOsWrite_follows {b : Fin 2} {s : State} {a : State} (h : Follows a s) :
    Yields a (execOsWrite b s) := by
  unfold execOsWrite
  with_reducible repeat' first
    | apply Yields.next | assumption | apply State.serve_follows | apply State.osWrite_follows | apply Follows.ite
    | apply Follows.foldl | apply Follows.forRange | intro

theorem State.osRead_follows {b : Nat} {s : State} {a : State} (h : Follows a s) :
    Follows a (State.osRead b s).state := by
  unfold State.osRead
  with_reducible repeat' first
    | assumption | apply replyIf_follows | apply replyOk_follows | apply State.kernelWrite_follows

theorem execOsRead_follows {b : Fin 2} {s : State} {a : State} (h : Follows a s) :
    Yields a (execOsRead b s) := by
  unfold execOsRead
  with_reducible repeat' first
    | apply Yields.next | assumption | apply State.serve_follows | apply State.osRead_follows | apply Follows.ite
    | apply Follows.foldl | apply Follows.forRange | intro

theorem State.commitStaged_follows {s : State} {mask : Nat} {a : State} (h : Follows a s) :
    Follows a (State.commitStaged s mask).state := by
  unfold State.commitStaged
  with_reducible repeat' first
    | assumption | apply replyIf_follows | apply State.commitFinish_follows | apply State.commitCounters_follows
    | apply State.commitDirectory_follows | apply State.writePending_follows | apply replyOk_follows | apply Follows.ite
    | refine Follows.keep ?_ ⟨rfl, Nat.le_refl _, Nat.le_refl _, rfl, rfl⟩

theorem State.stagingStatus_follows {s : State} {a : State} (h : Follows a s) :
    Follows a (State.stagingStatus s).state := by
  unfold State.stagingStatus
  with_reducible repeat' first
    | assumption | apply replyOk_follows

theorem State.openStaging_follows {s : State} {c : Nat} {bytes : Nat} {a : State} (h : Follows a s) :
    Follows a (State.openStaging s c bytes).state := by
  unfold State.openStaging
  with_reducible repeat' first
    | assumption | apply replyIf_follows | apply replyOk_follows | apply State.setSlot_follows | apply Follows.ite
    | refine Follows.keep ?_ ⟨rfl, Nat.le_refl _, Nat.le_refl _, rfl, rfl⟩

theorem execUpdOpen_follows {b : Fin 2} {s : State} {a : State} (h : Follows a s) :
    Yields a (execUpdOpen b s) := by
  unfold execUpdOpen
  with_reducible repeat' first
    | apply Yields.next | assumption | apply State.serve_follows | apply State.openStaging_follows | apply Follows.ite
    | apply Follows.foldl | apply Follows.forRange | intro

theorem State.abortStaging_follows {s : State} {a : State} (h : Follows a s) :
    Follows a (State.abortStaging s).state := by
  unfold State.abortStaging
  with_reducible repeat' first
    | assumption | apply replyFail_follows | apply replyOk_follows | apply State.closeStaging_follows
    | (intro x; refine Follows.use (a := a) (s := x) ?_ ?_; unfold x; rotate_left; try clear_value x; intro hx) | intro x | lift_lets
    | apply Follows.ite | apply Follows.foldl | apply Follows.forRange | split | dsimp only | refine Follows.fst (by assumption) ?_
    | refine Follows.keep ?_ ⟨rfl, Nat.le_refl _, Nat.le_refl _, rfl, rfl⟩

theorem execUpdAbort_follows {b : Fin 2} {s : State} {a : State} (h : Follows a s) :
    Yields a (execUpdAbort b s) := by
  unfold execUpdAbort
  with_reducible repeat' first
    | apply Yields.next | assumption | apply State.serve_follows | apply State.abortStaging_follows | apply Follows.ite
    | apply Follows.foldl | apply Follows.forRange | intro

theorem execUpdCommit_follows {b : Fin 2} {s : State} {a : State} (h : Follows a s) :
    Yields a (execUpdCommit b s) := by
  unfold execUpdCommit
  with_reducible repeat' first
    | apply Yields.next | assumption | apply State.serve_follows | apply State.commitStaged_follows | apply Follows.ite
    | apply Follows.foldl | apply Follows.forRange | intro

theorem execUpdStatus_follows {b : Fin 2} {s : State} {a : State} (h : Follows a s) :
    Yields a (execUpdStatus b s) := by
  unfold execUpdStatus
  with_reducible repeat' first
    | apply Yields.next | assumption | apply State.serve_follows | apply State.stagingStatus_follows | apply Follows.ite
    | apply Follows.foldl | apply Follows.forRange | intro

theorem execUpdWrite_follows {b : Fin 2} {s : State} {a : State} (h : Follows a s) :
    Yields a (execUpdWrite b s) := by
  unfold execUpdWrite
  with_reducible repeat' first
    | apply Yields.next | assumption | apply State.serve_follows | apply State.updWrite_follows | apply Follows.ite
    | apply Follows.foldl | apply Follows.forRange | intro

end Sys2Proof.Machine
end

