-- ==== Sys2Proof/Laws/FollowsMgmtPort.lean ====
section
/-! SUPPORT. What Machine/MgmtPort.lean does to the queue and to what every step keeps: one lemma for each definition that gives a state. -/
namespace Sys2Proof.Machine
open Sys2Proof

theorem State.mgtCert_follows {d : Datagram} {s : State} {a : State} (h : Follows a s) :
    Follows a (State.mgtCert d s).1 := by
  unfold State.mgtCert
  with_reducible repeat' first
    | assumption | (intro x; refine Follows.use (a := a) (s := x) ?_ ?_; unfold x; rotate_left; try clear_value x; intro hx)
    | intro x | lift_lets | apply Follows.ite | apply Follows.foldl | apply Follows.forRange | split | dsimp only
    | refine Follows.fst (by assumption) ?_ | refine Follows.keep ?_ ⟨rfl, Nat.le_refl _, Nat.le_refl _, rfl, rfl⟩

theorem State.send_follows {s : State} {bs : List Byte} {a : State} (h : Follows a s) :
    Follows a (State.send s bs) := by
  unfold State.send
  with_reducible repeat' first
    | assumption | apply Follows.ite | refine Follows.keep ?_ ⟨rfl, Nat.le_refl _, Nat.le_refl _, rfl, rfl⟩

theorem State.answerPlain_follows {s : State} {type : Nat} {d : Datagram} {status : Nat} {body : List Byte} {a : State} (h : Follows a s) :
    Follows a (State.answerPlain s type d status body) := by
  unfold State.answerPlain
  with_reducible repeat' first
    | assumption | apply State.send_follows

theorem State.authFail_follows {s : State} {a : State} (h : Follows a s) :
    Follows a (State.authFail s) := by
  unfold State.authFail
  with_reducible repeat' first
    | assumption | apply State.evt_follows | apply State.count_follows

theorem State.request_follows {s : State} {type : Nat} {d : Datagram} {run : State → State × Nat × List Byte} {a : State} (h : Follows a s) (hrun : ∀ t, Follows a t → Follows a (run t).1) :
    Follows a (State.request s type d run) := by
  unfold State.request
  with_reducible repeat' first
    | assumption | apply State.answerPlain_follows | apply State.authFail_follows | apply State.send_follows | apply hrun
    | (intro x; refine Follows.use (a := a) (s := x) ?_ ?_; unfold x; rotate_left; try clear_value x; intro hx) | intro x | lift_lets
    | apply Follows.ite | apply Follows.foldl | apply Follows.forRange | split | dsimp only | refine Follows.fst (by assumption) ?_
    | refine Follows.keep ?_ ⟨rfl, Nat.le_refl _, Nat.le_refl _, rfl, rfl⟩

theorem execMgtCert_follows {d : Datagram} {s : State} {a : State} (h : Follows a s) :
    Yields a (execMgtCert d s) := by
  unfold execMgtCert
  with_reducible repeat' first
    | apply Yields.next | assumption | apply State.request_follows | apply State.mgtCert_follows | apply Follows.ite
    | apply Follows.foldl | apply Follows.forRange | intro

theorem State.mgmtChange_follows {s : State} {kind : Nat} {slot : Nat} {a : State} (h : Follows a s) :
    Follows a (State.mgmtChange s kind slot) := by
  unfold State.mgmtChange
  with_reducible repeat' first
    | assumption | apply State.evt_follows | apply State.showIdentity_follows | apply State.report_follows

theorem State.enroll_follows {s : State} {d : Datagram} {a : State} (h : Follows a s) :
    Follows a (State.enroll s d) := by
  unfold State.enroll
  with_reducible repeat' first
    | assumption | apply State.answerPlain_follows | apply State.mgmtChange_follows | apply Follows.ite
    | refine Follows.keep ?_ ⟨rfl, Nat.le_refl _, Nat.le_refl _, rfl, rfl⟩

theorem execMgtEnroll_follows {d : Datagram} {s : State} {a : State} (h : Follows a s) :
    Yields a (execMgtEnroll d s) := by
  unfold execMgtEnroll
  with_reducible repeat' first
    | apply Yields.next | assumption | apply State.enroll_follows | apply Follows.ite
    | refine Follows.keep ?_ ⟨rfl, Nat.le_refl _, Nat.le_refl _, rfl, rfl⟩

theorem State.mgmtChanged_follows {s : State} {bit : Nat} {a : State} (h : Follows a s) :
    Follows a (State.mgmtChanged s bit) := by
  unfold State.mgmtChanged
  with_reducible repeat' first
    | assumption | apply State.evt_follows | apply State.showMgmt_follows

theorem State.openSession_follows {s : State} {d : Datagram} {c : List Byte} {a : State} (h : Follows a s) :
    Follows a (State.openSession s d c) := by
  unfold State.openSession
  with_reducible repeat' first
    | assumption | apply State.send_follows | apply State.mgmtChanged_follows | apply State.count_follows | apply Follows.ite
    | refine Follows.keep ?_ ⟨rfl, Nat.le_refl _, Nat.le_refl _, rfl, rfl⟩

theorem State.mgtTest_follows {d : Datagram} {s : State} {a : State} (h : Follows a s) :
    Follows a (State.mgtTest d s).1 := by
  unfold State.mgtTest
  with_reducible repeat' first
    | assumption | apply State.requestTest_follows
    | (intro x; refine Follows.use (a := a) (s := x) ?_ ?_; unfold x; rotate_left; try clear_value x; intro hx) | intro x | lift_lets
    | apply Follows.ite | apply Follows.foldl | apply Follows.forRange | split | dsimp only | refine Follows.fst (by assumption) ?_
    | refine Follows.keep ?_ ⟨rfl, Nat.le_refl _, Nat.le_refl _, rfl, rfl⟩

theorem State.mgtAttest_follows {d : Datagram} {s : State} {a : State} (h : Follows a s) :
    Follows a (State.mgtAttest d s).1 := by
  unfold State.mgtAttest
  with_reducible repeat' first
    | assumption | apply State.tickFresh_follows
    | (intro x; refine Follows.use (a := a) (s := x) ?_ ?_; unfold x; rotate_left; try clear_value x; intro hx) | intro x | lift_lets
    | apply Follows.ite | apply Follows.foldl | apply Follows.forRange | split | dsimp only | refine Follows.fst (by assumption) ?_
    | refine Follows.keep ?_ ⟨rfl, Nat.le_refl _, Nat.le_refl _, rfl, rfl⟩

theorem State.closeSession_follows {s : State} {a : State} (h : Follows a s) :
    Follows a (State.closeSession s) := by
  unfold State.closeSession
  with_reducible repeat' first
    | assumption | apply State.mgmtChanged_follows | apply Follows.ite
    | refine Follows.keep ?_ ⟨rfl, Nat.le_refl _, Nat.le_refl _, rfl, rfl⟩

theorem State.planKey_follows {d : Datagram} {s : State} {a : State} (h : Follows a s) :
    Follows a (State.planKey d s).1 := by
  unfold State.planKey
  with_reducible repeat' first
    | assumption | apply State.mgmtChange_follows
    | (intro x; refine Follows.use (a := a) (s := x) ?_ ?_; unfold x; rotate_left; try clear_value x; intro hx) | intro x | lift_lets
    | apply Follows.ite | apply Follows.foldl | apply Follows.forRange | split | dsimp only | refine Follows.fst (by assumption) ?_
    | refine Follows.keep ?_ ⟨rfl, Nat.le_refl _, Nat.le_refl _, rfl, rfl⟩

theorem State.readRecord_follows {s : State} {first : Bool} {seq : Nat} {a : State} (h : Follows a s) :
    Follows a (State.readRecord s first seq).1 := by
  unfold State.readRecord
  with_reducible repeat' first
    | assumption | apply State.writeSel_follows

theorem State.credSet_follows {d : Datagram} {s : State} {a : State} (h : Follows a s) :
    Follows a (State.credSet d s).1 := by
  unfold State.credSet
  with_reducible repeat' first
    | assumption | apply State.mgmtChange_follows
    | (intro x; refine Follows.use (a := a) (s := x) ?_ ?_; unfold x; rotate_left; try clear_value x; intro hx) | intro x | lift_lets
    | apply Follows.ite | apply Follows.foldl | apply Follows.forRange | split | dsimp only | refine Follows.fst (by assumption) ?_
    | refine Follows.keep ?_ ⟨rfl, Nat.le_refl _, Nat.le_refl _, rfl, rfl⟩

theorem execMgtCredSet_follows {d : Datagram} {s : State} {a : State} (h : Follows a s) :
    Yields a (execMgtCredSet d s) := by
  unfold execMgtCredSet
  with_reducible repeat' first
    | apply Yields.next | assumption | apply State.request_follows | apply State.credSet_follows | apply Follows.ite
    | apply Follows.foldl | apply Follows.forRange | intro

theorem execSessionTimeout_follows {s : State} {a : State} (h : Follows a s) :
    Yields a (execSessionTimeout s) := by
  unfold execSessionTimeout
  with_reducible repeat' first
    | apply Yields.next | assumption | apply State.closeSession_follows

theorem execArpRequest_follows {senderMac : Nat} {senderIp : Nat} {targetIp : Nat} {s : State} {a : State} (h : Follows a s) :
    Yields a (execArpRequest senderMac senderIp targetIp s) := by
  unfold execArpRequest
  with_reducible repeat' first
    | apply Yields.next | assumption | apply State.send_follows | apply Follows.ite
    | refine Follows.keep ?_ ⟨rfl, Nat.le_refl _, Nat.le_refl _, rfl, rfl⟩

theorem execMgtTest_follows {d : Datagram} {s : State} {a : State} (h : Follows a s) :
    Yields a (execMgtTest d s) := by
  unfold execMgtTest
  with_reducible repeat' first
    | apply Yields.next | assumption | apply State.request_follows | apply State.mgtTest_follows | apply Follows.ite
    | apply Follows.foldl | apply Follows.forRange | intro

theorem State.readRecords_follows {s : State} {first : Bool} {start : Nat} {x3 : Nat} {a : State} (h : Follows a s) :
    Follows a (State.readRecords s first start x3).1 := by
  fun_induction State.readRecords s first start x3
  all_goals with_reducible repeat' first
    | assumption | apply State.readRecord_follows | apply_assumption -exfalso -symm
    | (intro x; refine Follows.use (a := a) (s := x) ?_ ?_; unfold x; rotate_left; try clear_value x; intro hx) | intro x | lift_lets
    | apply Follows.ite | apply Follows.foldl | apply Follows.forRange | split | dsimp only | refine Follows.fst (by assumption) ?_
    | refine Follows.keep ?_ ⟨rfl, Nat.le_refl _, Nat.le_refl _, rfl, rfl⟩

theorem State.logRead_follows {d : Datagram} {s : State} {a : State} (h : Follows a s) :
    Follows a (State.logRead d s).1 := by
  unfold State.logRead
  with_reducible repeat' first
    | assumption | apply State.readRecords_follows
    | (intro x; refine Follows.use (a := a) (s := x) ?_ ?_; unfold x; rotate_left; try clear_value x; intro hx) | intro x | lift_lets
    | apply Follows.ite | apply Follows.foldl | apply Follows.forRange | split | dsimp only | refine Follows.fst (by assumption) ?_
    | refine Follows.keep ?_ ⟨rfl, Nat.le_refl _, Nat.le_refl _, rfl, rfl⟩

theorem ofReply_follows {r : Reply} {a : State} (h : Follows a r.state) :
    Follows a (ofReply r).1 := by
  unfold ofReply
  with_reducible repeat' first
    | assumption

theorem State.updateData_follows {d : Datagram} {s : State} {a : State} (h : Follows a s) :
    Follows a (State.updateData d s).1 := by
  unfold State.updateData
  with_reducible repeat' first
    | assumption | apply State.writeStaging_follows
    | (intro x; refine Follows.use (a := a) (s := x) ?_ ?_; unfold x; rotate_left; try clear_value x; intro hx) | intro x | lift_lets
    | apply Follows.ite | apply Follows.foldl | apply Follows.forRange | split | dsimp only | refine Follows.fst (by assumption) ?_
    | refine Follows.keep ?_ ⟨rfl, Nat.le_refl _, Nat.le_refl _, rfl, rfl⟩

theorem State.mgtUpdate_follows {d : Datagram} {s : State} {a : State} (h : Follows a s) :
    Follows a (State.mgtUpdate d s).1 := by
  unfold State.mgtUpdate
  with_reducible repeat' first
    | assumption | apply ofReply_follows | apply State.openStaging_follows | apply State.updateData_follows
    | apply State.finishStaging_follows | apply State.commitStaged_follows | apply State.abortStaging_follows
    | apply State.stagingStatus_follows
    | (intro x; refine Follows.use (a := a) (s := x) ?_ ?_; unfold x; rotate_left; try clear_value x; intro hx) | intro x | lift_lets
    | apply Follows.ite | apply Follows.foldl | apply Follows.forRange | split | dsimp only | refine Follows.fst (by assumption) ?_
    | refine Follows.keep ?_ ⟨rfl, Nat.le_refl _, Nat.le_refl _, rfl, rfl⟩

theorem execMgtUpdate_follows {d : Datagram} {s : State} {a : State} (h : Follows a s) :
    Yields a (execMgtUpdate d s) := by
  unfold execMgtUpdate
  with_reducible repeat' first
    | apply Yields.next | assumption | apply State.request_follows | apply State.mgtUpdate_follows | apply Follows.ite
    | apply Follows.foldl | apply Follows.forRange | intro

theorem execMgtHello_follows {d : Datagram} {s : State} {a : State} (h : Follows a s) :
    Yields a (execMgtHello d s) := by
  unfold execMgtHello
  with_reducible repeat' first
    | apply Yields.next | assumption | apply State.answerPlain_follows | apply State.tickFresh_follows | apply Follows.ite
    | refine Follows.keep ?_ ⟨rfl, Nat.le_refl _, Nat.le_refl _, rfl, rfl⟩

theorem State.mgtReset_follows {d : Datagram} {s : State} {a : State} (h : Follows a s) :
    Follows a (State.mgtReset d s).1 := by
  unfold State.mgtReset
  with_reducible repeat' first
    | assumption | apply State.domainReq_follows
    | (intro x; refine Follows.use (a := a) (s := x) ?_ ?_; unfold x; rotate_left; try clear_value x; intro hx) | intro x | lift_lets
    | apply Follows.ite | apply Follows.foldl | apply Follows.forRange | split | dsimp only | refine Follows.fst (by assumption) ?_
    | refine Follows.keep ?_ ⟨rfl, Nat.le_refl _, Nat.le_refl _, rfl, rfl⟩

theorem execMgtReset_follows {d : Datagram} {s : State} {a : State} (h : Follows a s) :
    Yields a (execMgtReset d s) := by
  unfold execMgtReset
  with_reducible repeat' first
    | apply Yields.next | assumption | apply State.request_follows | apply State.mgtReset_follows | apply Follows.ite
    | apply Follows.foldl | apply Follows.forRange | intro

theorem execMgtClose_follows {d : Datagram} {s : State} {a : State} (h : Follows a s) :
    Yields a (execMgtClose d s) := by
  unfold execMgtClose
  with_reducible repeat' first
    | apply Yields.next | assumption | apply State.request_follows | apply State.closeSession_follows | apply Follows.ite
    | apply Follows.foldl | apply Follows.forRange | intro

theorem execIcmpEchoRequest_follows {targetIp : Nat} {rest : List Byte} {s : State} {a : State} (h : Follows a s) :
    Yields a (execIcmpEchoRequest targetIp rest s) := by
  unfold execIcmpEchoRequest
  with_reducible repeat' first
    | apply Yields.next | assumption | apply State.send_follows | apply Follows.ite
    | refine Follows.keep ?_ ⟨rfl, Nat.le_refl _, Nat.le_refl _, rfl, rfl⟩

theorem execMgtPlankey_follows {d : Datagram} {s : State} {a : State} (h : Follows a s) :
    Yields a (execMgtPlankey d s) := by
  unfold execMgtPlankey
  with_reducible repeat' first
    | apply Yields.next | assumption | apply State.request_follows | apply State.planKey_follows | apply Follows.ite
    | apply Follows.foldl | apply Follows.forRange | intro

theorem execMgtLinkUp_follows {s : State} {a : State} (h : Follows a s) :
    Yields a (execMgtLinkUp s) := by
  unfold execMgtLinkUp
  with_reducible repeat' first
    | apply Yields.next | assumption | apply State.mgmtChanged_follows | apply Follows.ite
    | refine Follows.keep ?_ ⟨rfl, Nat.le_refl _, Nat.le_refl _, rfl, rfl⟩

theorem execMgtOpen_follows {d : Datagram} {s : State} {a : State} (h : Follows a s) :
    Yields a (execMgtOpen d s) := by
  unfold execMgtOpen
  with_reducible repeat' first
    | apply Yields.next | assumption | apply State.send_follows | apply State.answerPlain_follows | apply State.authFail_follows
    | apply State.openSession_follows
    | (intro x; refine Follows.use (a := a) (s := x) ?_ ?_; unfold x; rotate_left; try clear_value x; intro hx) | intro x | lift_lets
    | apply Follows.ite | apply Follows.foldl | apply Follows.forRange | split | dsimp only | refine Follows.fst (by assumption) ?_
    | refine Follows.keep ?_ ⟨rfl, Nat.le_refl _, Nat.le_refl _, rfl, rfl⟩

theorem execMgtAttest_follows {d : Datagram} {s : State} {a : State} (h : Follows a s) :
    Yields a (execMgtAttest d s) := by
  unfold execMgtAttest
  with_reducible repeat' first
    | apply Yields.next | assumption | apply State.request_follows | apply State.mgtAttest_follows | apply Follows.ite
    | apply Follows.foldl | apply Follows.forRange | intro

theorem execMgtLogRead_follows {d : Datagram} {s : State} {a : State} (h : Follows a s) :
    Yields a (execMgtLogRead d s) := by
  unfold execMgtLogRead
  with_reducible repeat' first
    | apply Yields.next | assumption | apply State.request_follows | apply State.logRead_follows | apply Follows.ite
    | apply Follows.foldl | apply Follows.forRange | intro

theorem execMgtLinkDown_follows {s : State} {a : State} (h : Follows a s) :
    Yields a (execMgtLinkDown s) := by
  unfold execMgtLinkDown
  with_reducible repeat' first
    | apply Yields.next | assumption | apply State.mgmtChanged_follows | apply Follows.ite
    | refine Follows.keep ?_ ⟨rfl, Nat.le_refl _, Nat.le_refl _, rfl, rfl⟩

end Sys2Proof.Machine
end

