-- ==== Sys2Proof/Laws/FollowsTapPort.lean ====
section
/-! SUPPORT. What Machine/TapPort.lean does to the queue and to what every step keeps: one lemma for each definition that gives a state. -/
namespace Sys2Proof.Machine
open Sys2Proof

theorem execTapSamplePreload_follows {s : State} {a : State} (h : Follows a s) :
    Yields a (execTapSamplePreload s) := by
  unfold execTapSamplePreload
  with_reducible repeat' first
    | apply Yields.next | assumption | apply State.tapLoad_follows | apply Follows.ite
    | refine Follows.keep ?_ ⟨rfl, Nat.le_refl _, Nat.le_refl _, rfl, rfl⟩

theorem execTapExtest_follows {s : State} {a : State} (h : Follows a s) :
    Yields a (execTapExtest s) := by
  unfold execTapExtest
  with_reducible repeat' first
    | apply Yields.next | assumption | apply State.tapLoad_follows

theorem execTapClamp_follows {s : State} {a : State} (h : Follows a s) :
    Yields a (execTapClamp s) := by
  unfold execTapClamp
  with_reducible repeat' first
    | apply Yields.next | assumption | apply State.tapLoad_follows

theorem execTapIdcode_follows {s : State} {a : State} (h : Follows a s) :
    Yields a (execTapIdcode s) := by
  unfold execTapIdcode
  with_reducible repeat' first
    | apply Yields.next | assumption | apply State.tapLoad_follows

theorem execTapBypass_follows {s : State} {a : State} (h : Follows a s) :
    Yields a (execTapBypass s) := by
  unfold execTapBypass
  with_reducible repeat' first
    | apply Yields.next | assumption | apply State.tapLoad_follows

theorem execTapHighz_follows {s : State} {a : State} (h : Follows a s) :
    Yields a (execTapHighz s) := by
  unfold execTapHighz
  with_reducible repeat' first
    | apply Yields.next | assumption | apply State.tapLoad_follows

end Sys2Proof.Machine
end

