-- ==== Sys2Proof/Laws/FollowsRegAccess.lean ====
section
/-! SUPPORT. What Machine/RegAccess.lean does to the queue and to what every step keeps: one lemma for each definition that gives a state. -/
namespace Sys2Proof.Machine
open Sys2Proof

theorem State.wordAccess_follows {s : State} {kind : AccessKind} {o : Nat} {size : Nat} {value : Nat} {rd : State → Nat → State × Nat} {wr : State → Nat → Nat → State} {a : State} (h : Follows a s) (hrd : ∀ t y0, Follows a t → Follows a (rd t y0).1) (hwr : ∀ t y0 y1, Follows a t → Follows a (wr t y0 y1)) :
    Follows a (State.wordAccess s kind o size value rd wr) := by
  unfold State.wordAccess
  with_reducible repeat' first
    | assumption | apply State.answer_follows | apply hrd | apply hwr
    | (intro x; refine Follows.use (a := a) (s := x) ?_ ?_; unfold x; rotate_left; try clear_value x; intro hx) | intro x | lift_lets
    | apply Follows.ite | apply Follows.foldl | apply Follows.forRange | split | dsimp only | refine Follows.fst (by assumption) ?_
    | refine Follows.keep ?_ ⟨rfl, Nat.le_refl _, Nat.le_refl _, rfl, rfl⟩

theorem State.readReg_follows {s : State} {k : Nat} {a : State} (h : Follows a s) :
    Follows a (State.readReg s k).1 := by
  unfold State.readReg
  with_reducible repeat' first
    | assumption | apply State.readPair_follows | apply State.tickFresh_follows | apply Follows.ite
    | refine Follows.keep ?_ ⟨rfl, Nat.le_refl _, Nat.le_refl _, rfl, rfl⟩

theorem State.plainStore_follows {s : State} {init : Initiator} {k : Nat} {v : Nat} {a : State} (h : Follows a s) :
    Follows a (State.plainStore s init k v) := by
  unfold State.plainStore
  with_reducible repeat' first
    | assumption | apply State.storePair_follows

theorem State.timerWrite_follows {s : State} {init : Initiator} {v : Nat} {a : State} (h : Follows a s) :
    Follows a (State.timerWrite s init v) := by
  unfold State.timerWrite
  with_reducible repeat' first
    | assumption | apply State.plainStore_follows | apply Follows.ite
    | refine Follows.keep ?_ ⟨rfl, Nat.le_refl _, Nat.le_refl _, rfl, rfl⟩

theorem State.pwrWrite_follows {s : State} {init : Initiator} {k : Nat} {v : Nat} {a : State} (h : Follows a s) :
    Follows a (State.pwrWrite s init k v) := by
  unfold State.pwrWrite
  with_reducible repeat' first
    | assumption | apply State.requestState_follows | apply State.plainStore_follows | apply State.timerWrite_follows
    | apply State.writeVote_follows | apply Follows.ite | refine Follows.keep ?_ ⟨rfl, Nat.le_refl _, Nat.le_refl _, rfl, rfl⟩

theorem State.lktWrite_follows {s : State} {init : Initiator} {k : Nat} {v : Nat} {a : State} (h : Follows a s) :
    Follows a (State.lktWrite s init k v) := by
  unfold State.lktWrite
  with_reducible repeat' first
    | assumption | apply State.kickService_follows | apply State.setTileNs_follows | apply State.testReq_follows
    | apply State.plainStore_follows | apply Follows.ite | refine Follows.keep ?_ ⟨rfl, Nat.le_refl _, Nat.le_refl _, rfl, rfl⟩

theorem State.schWrite_follows {s : State} {init : Initiator} {k : Nat} {v : Nat} {a : State} (h : Follows a s) :
    Follows a (State.schWrite s init k v) := by
  unfold State.schWrite
  with_reducible repeat' first
    | assumption | apply State.modeReq_follows | apply State.schCtxSel_follows | apply State.setSwapRate_follows
    | apply State.doorbell_follows | apply State.plainStore_follows | apply Follows.ite
    | refine Follows.keep ?_ ⟨rfl, Nat.le_refl _, Nat.le_refl _, rfl, rfl⟩

theorem State.tierWrite_follows {s : State} {init : Initiator} {k : Nat} {v : Nat} {a : State} (h : Follows a s) :
    Follows a (State.tierWrite s init k v) := by
  unfold State.tierWrite
  with_reducible repeat' first
    | assumption | apply State.tierOp_follows | apply State.pageOp_follows | apply State.tierObjSel_follows
    | apply State.tierQuotaSel_follows | apply State.plainStore_follows | apply Follows.ite
    | refine Follows.keep ?_ ⟨rfl, Nat.le_refl _, Nat.le_refl _, rfl, rfl⟩

theorem State.seqWrite_follows {s : State} {init : Initiator} {k : Nat} {v : Nat} {a : State} (h : Follows a s) :
    Follows a (State.seqWrite s init k v) := by
  unfold State.seqWrite
  with_reducible repeat' first
    | assumption | apply State.seqOp_follows | apply State.seqEntSel_follows | apply State.grpGo_follows
    | apply State.reportOwn_follows | apply State.plainStore_follows | apply State.submitTail_follows | apply State.storeReg_follows
    | apply State.outAck_follows | apply Follows.ite | refine Follows.keep ?_ ⟨rfl, Nat.le_refl _, Nat.le_refl _, rfl, rfl⟩

theorem State.biasWrite_follows {s : State} {init : Initiator} {v : Nat} {a : State} (h : Follows a s) :
    Follows a (State.biasWrite s init v) := by
  unfold State.biasWrite
  with_reducible repeat' first
    | assumption | apply State.plainStore_follows | apply State.showMic_follows | apply Follows.ite
    | refine Follows.keep ?_ ⟨rfl, Nat.le_refl _, Nat.le_refl _, rfl, rfl⟩

theorem State.sensorWrite_follows {s : State} {init : Initiator} {k : Nat} {v : Nat} {a : State} (h : Follows a s) :
    Follows a (State.sensorWrite s init k v) := by
  unfold State.sensorWrite
  with_reducible repeat' first
    | assumption | apply State.biasWrite_follows | apply State.showMic_follows | apply State.plainStore_follows
    | apply State.writeMute_follows | apply State.releaseWake_follows | apply State.iplCommit_follows
    | apply State.writeSetCtrl_follows | apply Follows.ite | refine Follows.keep ?_ ⟨rfl, Nat.le_refl _, Nat.le_refl _, rfl, rfl⟩

theorem State.errInfoWrite_follows {s : State} {init : Initiator} {v : Nat} {a : State} (h : Follows a s) :
    Follows a (State.errInfoWrite s init v) := by
  unfold State.errInfoWrite
  with_reducible repeat' first
    | assumption | apply State.plainStore_follows | apply State.setRb_follows | apply Follows.ite
    | refine Follows.keep ?_ ⟨rfl, Nat.le_refl _, Nat.le_refl _, rfl, rfl⟩

theorem State.pciWrite_follows {s : State} {init : Initiator} {k : Nat} {v : Nat} {a : State} (h : Follows a s) :
    Follows a (State.pciWrite s init k v) := by
  unfold State.pciWrite
  with_reducible repeat' first
    | assumption | apply State.sqPend_follows | apply State.sqHead_follows | apply State.cqTail_follows
    | apply State.plainStore_follows | apply Follows.ite | refine Follows.keep ?_ ⟨rfl, Nat.le_refl _, Nat.le_refl _, rfl, rfl⟩

theorem State.regEffect_follows {s : State} {init : Initiator} {k : Nat} {v : Nat} {a : State} (h : Follows a s) :
    Follows a (State.regEffect s init k v) := by
  unfold State.regEffect
  with_reducible repeat' first
    | assumption | apply State.domainReq_follows | apply State.plainStore_follows | apply State.mbxDoorbell_follows
    | apply State.pwrWrite_follows | apply State.writeSel_follows | apply State.lktWrite_follows | apply State.schWrite_follows
    | apply State.tierWrite_follows | apply State.seqWrite_follows | apply State.showHpd_follows | apply State.sensorWrite_follows
    | apply State.errInfoWrite_follows | apply State.pciWrite_follows
    | (intro x; refine Follows.use (a := a) (s := x) ?_ ?_; unfold x; rotate_left; try clear_value x; intro hx) | intro x | lift_lets
    | apply Follows.ite | apply Follows.foldl | apply Follows.forRange | split | dsimp only | refine Follows.fst (by assumption) ?_
    | refine Follows.keep ?_ ⟨rfl, Nat.le_refl _, Nat.le_refl _, rfl, rfl⟩

theorem State.writeReg_follows {s : State} {init : Initiator} {k : Nat} {v : Nat} {a : State} (h : Follows a s) :
    Follows a (State.writeReg s init k v) := by
  unfold State.writeReg
  with_reducible repeat' first
    | assumption | apply State.denyRk_follows | apply State.regEffect_follows | apply Follows.ite
    | refine Follows.keep ?_ ⟨rfl, Nat.le_refl _, Nat.le_refl _, rfl, rfl⟩

theorem State.deadAnswer_follows {s : State} {kind : AccessKind} {a : State} (h : Follows a s) :
    Follows a (State.deadAnswer s kind) := by
  unfold State.deadAnswer
  with_reducible repeat' first
    | assumption | apply State.answer_follows

theorem State.registerAccess_follows {s : State} {init : Initiator} {kind : AccessKind} {addr : Nat} {size : Nat} {value : Nat} {a : State} (h : Follows a s) :
    Follows a (State.registerAccess s init kind addr size value) := by
  unfold State.registerAccess
  with_reducible repeat' first
    | assumption | apply State.wordAccess_follows | apply State.readReg_follows | apply State.writeReg_follows
    | apply State.denyAccess_follows | apply State.deadAnswer_follows
    | (intro x; refine Follows.use (a := a) (s := x) ?_ ?_; unfold x; rotate_left; try clear_value x; intro hx) | intro x | lift_lets
    | apply Follows.ite | apply Follows.foldl | apply Follows.forRange | split | dsimp only | refine Follows.fst (by assumption) ?_
    | refine Follows.keep ?_ ⟨rfl, Nat.le_refl _, Nat.le_refl _, rfl, rfl⟩

theorem State.access_follows {s : State} {init : Initiator} {kind : AccessKind} {addr : Nat} {size : Nat} {value : Nat} {symbols : Nat} {a : State} (h : Follows a s) :
    Follows a (State.access s init kind addr size value symbols) := by
  unfold State.access
  with_reducible repeat' first
    | assumption | apply State.registerAccess_follows | apply State.memAccess_follows | apply State.denyAccess_follows
    | apply State.deadAnswer_follows | apply State.hold_follows
    | (intro x; refine Follows.use (a := a) (s := x) ?_ ?_; unfold x; rotate_left; try clear_value x; intro hx) | intro x | lift_lets
    | apply Follows.ite | apply Follows.foldl | apply Follows.forRange | split | dsimp only | refine Follows.fst (by assumption) ?_
    | refine Follows.keep ?_ ⟨rfl, Nat.le_refl _, Nat.le_refl _, rfl, rfl⟩

theorem State.hostPageWrite_follows {s : State} {o : Nat} {v : Nat} {a : State} (h : Follows a s) :
    Follows a (State.hostPageWrite s o v) := by
  unfold State.hostPageWrite
  with_reducible repeat' first
    | assumption | apply State.storePair_follows | apply Follows.ite
    | refine Follows.keep ?_ ⟨rfl, Nat.le_refl _, Nat.le_refl _, rfl, rfl⟩

theorem State.pageWrite_follows {s : State} {q : Nat} {o : Nat} {v : Nat} {a : State} (h : Follows a s) :
    Follows a (State.pageWrite s q o v) := by
  unfold State.pageWrite
  with_reducible repeat' first
    | assumption | apply State.sqTail_follows | apply State.cqHead_follows | apply State.doorbellBad_follows | apply Follows.ite
    | refine Follows.keep ?_ ⟨rfl, Nat.le_refl _, Nat.le_refl _, rfl, rfl⟩

theorem State.unsupported_follows {s : State} {kind : AccessKind} {a : State} (h : Follows a s) :
    Follows a (State.unsupported s kind) := by
  unfold State.unsupported
  with_reducible repeat' first
    | assumption | apply State.answer_follows | apply State.count_follows
    | (intro x; refine Follows.use (a := a) (s := x) ?_ ?_; unfold x; rotate_left; try clear_value x; intro hx) | intro x | lift_lets
    | apply Follows.ite | apply Follows.foldl | apply Follows.forRange | split | dsimp only | refine Follows.fst (by assumption) ?_
    | refine Follows.keep ?_ ⟨rfl, Nat.le_refl _, Nat.le_refl _, rfl, rfl⟩

theorem State.hostPage_follows {s : State} {kind : AccessKind} {o size value : Nat} {a : State} (h : Follows a s) (c d : Nat) :
    Follows a (s.wordAccess kind o size value (fun s o => s.readReg (c + (o - d))) (fun s o v => s.hostPageWrite (o - d) v)) :=
  State.wordAccess_follows h (fun _ _ k => State.readReg_follows k) fun _ _ _ k => State.hostPageWrite_follows k

theorem State.endpointAccess_follows {s : State} {kind : AccessKind} {o size value : Nat} {a : State} (h : Follows a s) :
    Follows a (State.endpointAccess s kind o size value) := by
  unfold State.endpointAccess
  refine Follows.ite (Follows.ite (State.deadAnswer_follows h) (State.wordAccess_follows h (fun _ _ k => k) fun _ _ _ k => State.pageWrite_follows k)) ?_
  refine Follows.ite (State.wordAccess_follows h (fun _ _ k => k) fun _ _ _ k => State.msixWrite_follows k) ?_
  refine Follows.ite (State.wordAccess_follows h (fun _ _ k => k) fun _ _ _ k => k) ?_
  exact Follows.ite (Follows.ite (State.deadAnswer_follows h)
    (State.hostPage_follows h 0x2B0000 0x382000)) (State.unsupported_follows h)

theorem execPcieInboundAccess_follows {bar : Fin 3} {kind : AccessKind} {offset : Nat} {size : Nat} {value : Nat} {s : State} {a : State} (h : Follows a s) :
    Yields a (execPcieInboundAccess bar kind offset size value s) := by
  unfold execPcieInboundAccess
  with_reducible repeat' first
    | apply Yields.next | assumption | apply State.access_follows | apply State.endpointAccess_follows
    | apply State.unsupported_follows | apply Follows.ite | refine Follows.keep ?_ ⟨rfl, Nat.le_refl _, Nat.le_refl _, rfl, rfl⟩

theorem execMemoryAccess_follows {init : Initiator} {kind : AccessKind} {addr : Nat} {size : Nat} {value : Nat} {symbols : Nat} {s : State} {a : State} (h : Follows a s) :
    Yields a (execMemoryAccess init kind addr size value symbols s) := by
  unfold execMemoryAccess
  with_reducible repeat' first
    | apply Yields.next | assumption | apply State.access_follows

theorem execRegisterWrite_follows {init : Initiator} {addr : Nat} {size : Nat} {value : Nat} {s : State} {a : State} (h : Follows a s) :
    Yields a (execRegisterWrite init addr size value s) := by
  unfold execRegisterWrite
  with_reducible repeat' first
    | apply Yields.next | assumption | apply State.access_follows

end Sys2Proof.Machine
end

