-- ==== Sys2Proof/Laws/FollowsQueue.lean ====
section
/-! SUPPORT. What Machine/Step.lean does to the queue and to what every step keeps: one lemma for each definition that gives a state. -/
namespace Sys2Proof.Machine
open Sys2Proof

theorem State.idle_follows {s : State} {a : State} (h : Follows a s) :
    Follows a (State.idle s) := by
  unfold State.idle
  with_reducible repeat' first
    | assumption | apply Follows.ite | refine Follows.keep ?_ ⟨rfl, Nat.le_refl _, Nat.le_refl _, rfl, rfl⟩

end Sys2Proof.Machine
end

