-- ==== Sys2Proof/Laws/State.lean ====
section
/-! SUPPORT. What each shared operation leaves as it was, field by field, and what it writes: rewriting rules, so that no proof about
a command unfolds the update of a state. -/
namespace Sys2Proof.Machine
open Sys2Proof

/-! ### Fields that an operation leaves as they were -/

@[simp] theorem State.setReg_frame (s : State) (k v : Nat) :
    (s.setReg k v).pending = s.pending ∧ (s.setReg k v).timeUs = s.timeUs ∧ (s.setReg k v).fresh = s.fresh ∧
    (s.setReg k v).epoch = s.epoch ∧ (s.setReg k v).bus = s.bus ∧ (s.setReg k v).staged = s.staged ∧
    (s.setReg k v).captured = s.captured ∧ (s.setReg k v).written = s.written ∧ (s.setReg k v).mem = s.mem ∧
    (s.setReg k v).lost = s.lost ∧ (s.setReg k v).badLines = s.badLines ∧ (s.setReg k v).cap = s.cap ∧ (s.setReg k v).evr = s.evr ∧
    (s.setReg k v).domains = s.domains ∧ (s.setReg k v).groves = s.groves ∧ (s.setReg k v).ctxs = s.ctxs ∧
    (s.setReg k v).plan = s.plan ∧ (s.setReg k v).mode = s.mode ∧ (s.setReg k v).tick = s.tick ∧ (s.setReg k v).ddr = s.ddr ∧
    (s.setReg k v).pages = s.pages ∧ (s.setReg k v).tiers = s.tiers ∧ (s.setReg k v).dma = s.dma ∧ (s.setReg k v).seqt = s.seqt ∧
    (s.setReg k v).pic = s.pic ∧ (s.setReg k v).mic = s.mic ∧ (s.setReg k v).cam = s.cam ∧ (s.setReg k v).sets = s.sets ∧
    (s.setReg k v).vil = s.vil ∧ (s.setReg k v).pwr = s.pwr ∧ (s.setReg k v).lkt = s.lkt ∧ (s.setReg k v).sec = s.sec ∧
    (s.setReg k v).flash = s.flash ∧ (s.setReg k v).emmc = s.emmc ∧ (s.setReg k v).boot = s.boot ∧ (s.setReg k v).pci = s.pci ∧
    (s.setReg k v).mgt = s.mgt ∧ (s.setReg k v).tap = s.tap ∧ (s.setReg k v).pins = s.pins :=
  ⟨rfl, rfl, rfl, rfl, rfl, rfl, rfl, rfl, rfl, rfl, rfl, rfl, rfl, rfl, rfl, rfl, rfl, rfl, rfl, rfl, rfl, rfl, rfl, rfl, rfl, rfl, rfl, rfl, rfl, rfl, rfl, rfl, rfl, rfl, rfl, rfl, rfl, rfl, rfl⟩

@[simp] theorem State.setRf_frame (s : State) (k lo w v : Nat) :
    (s.setRf k lo w v).pending = s.pending ∧ (s.setRf k lo w v).timeUs = s.timeUs ∧ (s.setRf k lo w v).fresh = s.fresh ∧
    (s.setRf k lo w v).epoch = s.epoch ∧ (s.setRf k lo w v).bus = s.bus ∧ (s.setRf k lo w v).staged = s.staged ∧
    (s.setRf k lo w v).captured = s.captured ∧ (s.setRf k lo w v).written = s.written ∧ (s.setRf k lo w v).mem = s.mem ∧
    (s.setRf k lo w v).lost = s.lost ∧ (s.setRf k lo w v).badLines = s.badLines ∧ (s.setRf k lo w v).cap = s.cap ∧
    (s.setRf k lo w v).evr = s.evr ∧ (s.setRf k lo w v).domains = s.domains ∧ (s.setRf k lo w v).groves = s.groves ∧
    (s.setRf k lo w v).ctxs = s.ctxs ∧ (s.setRf k lo w v).plan = s.plan ∧ (s.setRf k lo w v).mode = s.mode ∧
    (s.setRf k lo w v).tick = s.tick ∧ (s.setRf k lo w v).ddr = s.ddr ∧ (s.setRf k lo w v).pages = s.pages ∧
    (s.setRf k lo w v).tiers = s.tiers ∧ (s.setRf k lo w v).dma = s.dma ∧ (s.setRf k lo w v).seqt = s.seqt ∧
    (s.setRf k lo w v).pic = s.pic ∧ (s.setRf k lo w v).mic = s.mic ∧ (s.setRf k lo w v).cam = s.cam ∧
    (s.setRf k lo w v).sets = s.sets ∧ (s.setRf k lo w v).vil = s.vil ∧ (s.setRf k lo w v).pwr = s.pwr ∧
    (s.setRf k lo w v).lkt = s.lkt ∧ (s.setRf k lo w v).sec = s.sec ∧ (s.setRf k lo w v).flash = s.flash ∧
    (s.setRf k lo w v).emmc = s.emmc ∧ (s.setRf k lo w v).boot = s.boot ∧ (s.setRf k lo w v).pci = s.pci ∧
    (s.setRf k lo w v).mgt = s.mgt ∧ (s.setRf k lo w v).tap = s.tap ∧ (s.setRf k lo w v).pins = s.pins :=
  ⟨rfl, rfl, rfl, rfl, rfl, rfl, rfl, rfl, rfl, rfl, rfl, rfl, rfl, rfl, rfl, rfl, rfl, rfl, rfl, rfl, rfl, rfl, rfl, rfl, rfl, rfl, rfl, rfl, rfl, rfl, rfl, rfl, rfl, rfl, rfl, rfl, rfl, rfl, rfl⟩

@[simp] theorem State.setRb_frame (s : State) (k n : Nat) (b : Bool) :
    (s.setRb k n b).pending = s.pending ∧ (s.setRb k n b).timeUs = s.timeUs ∧ (s.setRb k n b).fresh = s.fresh ∧
    (s.setRb k n b).epoch = s.epoch ∧ (s.setRb k n b).bus = s.bus ∧ (s.setRb k n b).staged = s.staged ∧
    (s.setRb k n b).captured = s.captured ∧ (s.setRb k n b).written = s.written ∧ (s.setRb k n b).mem = s.mem ∧
    (s.setRb k n b).lost = s.lost ∧ (s.setRb k n b).badLines = s.badLines ∧ (s.setRb k n b).cap = s.cap ∧ (s.setRb k n b).evr = s.evr ∧
    (s.setRb k n b).domains = s.domains ∧ (s.setRb k n b).groves = s.groves ∧ (s.setRb k n b).ctxs = s.ctxs ∧
    (s.setRb k n b).plan = s.plan ∧ (s.setRb k n b).mode = s.mode ∧ (s.setRb k n b).tick = s.tick ∧ (s.setRb k n b).ddr = s.ddr ∧
    (s.setRb k n b).pages = s.pages ∧ (s.setRb k n b).tiers = s.tiers ∧ (s.setRb k n b).dma = s.dma ∧ (s.setRb k n b).seqt = s.seqt ∧
    (s.setRb k n b).pic = s.pic ∧ (s.setRb k n b).mic = s.mic ∧ (s.setRb k n b).cam = s.cam ∧ (s.setRb k n b).sets = s.sets ∧
    (s.setRb k n b).vil = s.vil ∧ (s.setRb k n b).pwr = s.pwr ∧ (s.setRb k n b).lkt = s.lkt ∧ (s.setRb k n b).sec = s.sec ∧
    (s.setRb k n b).flash = s.flash ∧ (s.setRb k n b).emmc = s.emmc ∧ (s.setRb k n b).boot = s.boot ∧ (s.setRb k n b).pci = s.pci ∧
    (s.setRb k n b).mgt = s.mgt ∧ (s.setRb k n b).tap = s.tap ∧ (s.setRb k n b).pins = s.pins :=
  ⟨rfl, rfl, rfl, rfl, rfl, rfl, rfl, rfl, rfl, rfl, rfl, rfl, rfl, rfl, rfl, rfl, rfl, rfl, rfl, rfl, rfl, rfl, rfl, rfl, rfl, rfl, rfl, rfl, rfl, rfl, rfl, rfl, rfl, rfl, rfl, rfl, rfl, rfl, rfl⟩

@[simp] theorem State.incReg_frame (s : State) (k n : Nat) :
    (s.incReg k n).pending = s.pending ∧ (s.incReg k n).timeUs = s.timeUs ∧ (s.incReg k n).fresh = s.fresh ∧
    (s.incReg k n).epoch = s.epoch ∧ (s.incReg k n).bus = s.bus ∧ (s.incReg k n).staged = s.staged ∧
    (s.incReg k n).captured = s.captured ∧ (s.incReg k n).written = s.written ∧ (s.incReg k n).mem = s.mem ∧
    (s.incReg k n).lost = s.lost ∧ (s.incReg k n).badLines = s.badLines ∧ (s.incReg k n).cap = s.cap ∧ (s.incReg k n).evr = s.evr ∧
    (s.incReg k n).domains = s.domains ∧ (s.incReg k n).groves = s.groves ∧ (s.incReg k n).ctxs = s.ctxs ∧
    (s.incReg k n).plan = s.plan ∧ (s.incReg k n).mode = s.mode ∧ (s.incReg k n).tick = s.tick ∧ (s.incReg k n).ddr = s.ddr ∧
    (s.incReg k n).pages = s.pages ∧ (s.incReg k n).tiers = s.tiers ∧ (s.incReg k n).dma = s.dma ∧ (s.incReg k n).seqt = s.seqt ∧
    (s.incReg k n).pic = s.pic ∧ (s.incReg k n).mic = s.mic ∧ (s.incReg k n).cam = s.cam ∧ (s.incReg k n).sets = s.sets ∧
    (s.incReg k n).vil = s.vil ∧ (s.incReg k n).pwr = s.pwr ∧ (s.incReg k n).lkt = s.lkt ∧ (s.incReg k n).sec = s.sec ∧
    (s.incReg k n).flash = s.flash ∧ (s.incReg k n).emmc = s.emmc ∧ (s.incReg k n).boot = s.boot ∧ (s.incReg k n).pci = s.pci ∧
    (s.incReg k n).mgt = s.mgt ∧ (s.incReg k n).tap = s.tap ∧ (s.incReg k n).pins = s.pins :=
  ⟨rfl, rfl, rfl, rfl, rfl, rfl, rfl, rfl, rfl, rfl, rfl, rfl, rfl, rfl, rfl, rfl, rfl, rfl, rfl, rfl, rfl, rfl, rfl, rfl, rfl, rfl, rfl, rfl, rfl, rfl, rfl, rfl, rfl, rfl, rfl, rfl, rfl, rfl, rfl⟩

@[simp] theorem State.setR64_frame (s : State) (k v : Nat) :
    (s.setR64 k v).pending = s.pending ∧ (s.setR64 k v).timeUs = s.timeUs ∧ (s.setR64 k v).fresh = s.fresh ∧
    (s.setR64 k v).epoch = s.epoch ∧ (s.setR64 k v).bus = s.bus ∧ (s.setR64 k v).staged = s.staged ∧
    (s.setR64 k v).captured = s.captured ∧ (s.setR64 k v).written = s.written ∧ (s.setR64 k v).mem = s.mem ∧
    (s.setR64 k v).lost = s.lost ∧ (s.setR64 k v).badLines = s.badLines ∧ (s.setR64 k v).cap = s.cap ∧ (s.setR64 k v).evr = s.evr ∧
    (s.setR64 k v).domains = s.domains ∧ (s.setR64 k v).groves = s.groves ∧ (s.setR64 k v).ctxs = s.ctxs ∧
    (s.setR64 k v).plan = s.plan ∧ (s.setR64 k v).mode = s.mode ∧ (s.setR64 k v).tick = s.tick ∧ (s.setR64 k v).ddr = s.ddr ∧
    (s.setR64 k v).pages = s.pages ∧ (s.setR64 k v).tiers = s.tiers ∧ (s.setR64 k v).dma = s.dma ∧ (s.setR64 k v).seqt = s.seqt ∧
    (s.setR64 k v).pic = s.pic ∧ (s.setR64 k v).mic = s.mic ∧ (s.setR64 k v).cam = s.cam ∧ (s.setR64 k v).sets = s.sets ∧
    (s.setR64 k v).vil = s.vil ∧ (s.setR64 k v).pwr = s.pwr ∧ (s.setR64 k v).lkt = s.lkt ∧ (s.setR64 k v).sec = s.sec ∧
    (s.setR64 k v).flash = s.flash ∧ (s.setR64 k v).emmc = s.emmc ∧ (s.setR64 k v).boot = s.boot ∧ (s.setR64 k v).pci = s.pci ∧
    (s.setR64 k v).mgt = s.mgt ∧ (s.setR64 k v).tap = s.tap ∧ (s.setR64 k v).pins = s.pins :=
  ⟨rfl, rfl, rfl, rfl, rfl, rfl, rfl, rfl, rfl, rfl, rfl, rfl, rfl, rfl, rfl, rfl, rfl, rfl, rfl, rfl, rfl, rfl, rfl, rfl, rfl, rfl, rfl, rfl, rfl, rfl, rfl, rfl, rfl, rfl, rfl, rfl, rfl, rfl, rfl⟩

@[simp] theorem State.incR64_frame (s : State) (k n : Nat) :
    (s.incR64 k n).pending = s.pending ∧ (s.incR64 k n).timeUs = s.timeUs ∧ (s.incR64 k n).fresh = s.fresh ∧
    (s.incR64 k n).epoch = s.epoch ∧ (s.incR64 k n).bus = s.bus ∧ (s.incR64 k n).staged = s.staged ∧
    (s.incR64 k n).captured = s.captured ∧ (s.incR64 k n).written = s.written ∧ (s.incR64 k n).mem = s.mem ∧
    (s.incR64 k n).lost = s.lost ∧ (s.incR64 k n).badLines = s.badLines ∧ (s.incR64 k n).cap = s.cap ∧ (s.incR64 k n).evr = s.evr ∧
    (s.incR64 k n).domains = s.domains ∧ (s.incR64 k n).groves = s.groves ∧ (s.incR64 k n).ctxs = s.ctxs ∧
    (s.incR64 k n).plan = s.plan ∧ (s.incR64 k n).mode = s.mode ∧ (s.incR64 k n).tick = s.tick ∧ (s.incR64 k n).ddr = s.ddr ∧
    (s.incR64 k n).pages = s.pages ∧ (s.incR64 k n).tiers = s.tiers ∧ (s.incR64 k n).dma = s.dma ∧ (s.incR64 k n).seqt = s.seqt ∧
    (s.incR64 k n).pic = s.pic ∧ (s.incR64 k n).mic = s.mic ∧ (s.incR64 k n).cam = s.cam ∧ (s.incR64 k n).sets = s.sets ∧
    (s.incR64 k n).vil = s.vil ∧ (s.incR64 k n).pwr = s.pwr ∧ (s.incR64 k n).lkt = s.lkt ∧ (s.incR64 k n).sec = s.sec ∧
    (s.incR64 k n).flash = s.flash ∧ (s.incR64 k n).emmc = s.emmc ∧ (s.incR64 k n).boot = s.boot ∧ (s.incR64 k n).pci = s.pci ∧
    (s.incR64 k n).mgt = s.mgt ∧ (s.incR64 k n).tap = s.tap ∧ (s.incR64 k n).pins = s.pins :=
  ⟨rfl, rfl, rfl, rfl, rfl, rfl, rfl, rfl, rfl, rfl, rfl, rfl, rfl, rfl, rfl, rfl, rfl, rfl, rfl, rfl, rfl, rfl, rfl, rfl, rfl, rfl, rfl, rfl, rfl, rfl, rfl, rfl, rfl, rfl, rfl, rfl, rfl, rfl, rfl⟩

@[simp] theorem State.tickFresh_frame (s : State) :
    (s.tickFresh).pending = s.pending ∧ (s.tickFresh).timeUs = s.timeUs ∧ (s.tickFresh).epoch = s.epoch ∧ (s.tickFresh).bus = s.bus ∧
    (s.tickFresh).regs = s.regs ∧ (s.tickFresh).staged = s.staged ∧ (s.tickFresh).captured = s.captured ∧
    (s.tickFresh).written = s.written ∧ (s.tickFresh).mem = s.mem ∧ (s.tickFresh).lost = s.lost ∧ (s.tickFresh).badLines = s.badLines ∧
    (s.tickFresh).cap = s.cap ∧ (s.tickFresh).evr = s.evr ∧ (s.tickFresh).domains = s.domains ∧ (s.tickFresh).groves = s.groves ∧
    (s.tickFresh).ctxs = s.ctxs ∧ (s.tickFresh).plan = s.plan ∧ (s.tickFresh).mode = s.mode ∧ (s.tickFresh).tick = s.tick ∧
    (s.tickFresh).ddr = s.ddr ∧ (s.tickFresh).pages = s.pages ∧ (s.tickFresh).tiers = s.tiers ∧ (s.tickFresh).dma = s.dma ∧
    (s.tickFresh).seqt = s.seqt ∧ (s.tickFresh).pic = s.pic ∧ (s.tickFresh).mic = s.mic ∧ (s.tickFresh).cam = s.cam ∧
    (s.tickFresh).sets = s.sets ∧ (s.tickFresh).vil = s.vil ∧ (s.tickFresh).pwr = s.pwr ∧ (s.tickFresh).lkt = s.lkt ∧
    (s.tickFresh).sec = s.sec ∧ (s.tickFresh).flash = s.flash ∧ (s.tickFresh).emmc = s.emmc ∧ (s.tickFresh).boot = s.boot ∧
    (s.tickFresh).pci = s.pci ∧ (s.tickFresh).mgt = s.mgt ∧ (s.tickFresh).tap = s.tap ∧ (s.tickFresh).pins = s.pins :=
  ⟨rfl, rfl, rfl, rfl, rfl, rfl, rfl, rfl, rfl, rfl, rfl, rfl, rfl, rfl, rfl, rfl, rfl, rfl, rfl, rfl, rfl, rfl, rfl, rfl, rfl, rfl, rfl, rfl, rfl, rfl, rfl, rfl, rfl, rfl, rfl, rfl, rfl, rfl, rfl⟩

@[simp] theorem State.answer_frame (s : State) (b : BusAnswer) :
    (s.answer b).pending = s.pending ∧ (s.answer b).timeUs = s.timeUs ∧ (s.answer b).fresh = s.fresh ∧ (s.answer b).epoch = s.epoch ∧
    (s.answer b).regs = s.regs ∧ (s.answer b).staged = s.staged ∧ (s.answer b).captured = s.captured ∧
    (s.answer b).written = s.written ∧ (s.answer b).mem = s.mem ∧ (s.answer b).lost = s.lost ∧ (s.answer b).badLines = s.badLines ∧
    (s.answer b).cap = s.cap ∧ (s.answer b).evr = s.evr ∧ (s.answer b).domains = s.domains ∧ (s.answer b).groves = s.groves ∧
    (s.answer b).ctxs = s.ctxs ∧ (s.answer b).plan = s.plan ∧ (s.answer b).mode = s.mode ∧ (s.answer b).tick = s.tick ∧
    (s.answer b).ddr = s.ddr ∧ (s.answer b).pages = s.pages ∧ (s.answer b).tiers = s.tiers ∧ (s.answer b).dma = s.dma ∧
    (s.answer b).seqt = s.seqt ∧ (s.answer b).pic = s.pic ∧ (s.answer b).mic = s.mic ∧ (s.answer b).cam = s.cam ∧
    (s.answer b).sets = s.sets ∧ (s.answer b).vil = s.vil ∧ (s.answer b).pwr = s.pwr ∧ (s.answer b).lkt = s.lkt ∧
    (s.answer b).sec = s.sec ∧ (s.answer b).flash = s.flash ∧ (s.answer b).emmc = s.emmc ∧ (s.answer b).boot = s.boot ∧
    (s.answer b).pci = s.pci ∧ (s.answer b).mgt = s.mgt ∧ (s.answer b).tap = s.tap ∧ (s.answer b).pins = s.pins :=
  ⟨rfl, rfl, rfl, rfl, rfl, rfl, rfl, rfl, rfl, rfl, rfl, rfl, rfl, rfl, rfl, rfl, rfl, rfl, rfl, rfl, rfl, rfl, rfl, rfl, rfl, rfl, rfl, rfl, rfl, rfl, rfl, rfl, rfl, rfl, rfl, rfl, rfl, rfl, rfl⟩

@[simp] theorem State.modDom_frame (s : State) (d : Nat) (f : Domain → Domain) :
    (s.modDom d f).pending = s.pending ∧ (s.modDom d f).timeUs = s.timeUs ∧ (s.modDom d f).fresh = s.fresh ∧
    (s.modDom d f).epoch = s.epoch ∧ (s.modDom d f).bus = s.bus ∧ (s.modDom d f).regs = s.regs ∧ (s.modDom d f).staged = s.staged ∧
    (s.modDom d f).captured = s.captured ∧ (s.modDom d f).written = s.written ∧ (s.modDom d f).mem = s.mem ∧
    (s.modDom d f).lost = s.lost ∧ (s.modDom d f).badLines = s.badLines ∧ (s.modDom d f).cap = s.cap ∧ (s.modDom d f).evr = s.evr ∧
    (s.modDom d f).groves = s.groves ∧ (s.modDom d f).ctxs = s.ctxs ∧ (s.modDom d f).plan = s.plan ∧ (s.modDom d f).mode = s.mode ∧
    (s.modDom d f).tick = s.tick ∧ (s.modDom d f).ddr = s.ddr ∧ (s.modDom d f).pages = s.pages ∧ (s.modDom d f).tiers = s.tiers ∧
    (s.modDom d f).dma = s.dma ∧ (s.modDom d f).seqt = s.seqt ∧ (s.modDom d f).pic = s.pic ∧ (s.modDom d f).mic = s.mic ∧
    (s.modDom d f).cam = s.cam ∧ (s.modDom d f).sets = s.sets ∧ (s.modDom d f).vil = s.vil ∧ (s.modDom d f).pwr = s.pwr ∧
    (s.modDom d f).lkt = s.lkt ∧ (s.modDom d f).sec = s.sec ∧ (s.modDom d f).flash = s.flash ∧ (s.modDom d f).emmc = s.emmc ∧
    (s.modDom d f).boot = s.boot ∧ (s.modDom d f).pci = s.pci ∧ (s.modDom d f).mgt = s.mgt ∧ (s.modDom d f).tap = s.tap ∧
    (s.modDom d f).pins = s.pins :=
  ⟨rfl, rfl, rfl, rfl, rfl, rfl, rfl, rfl, rfl, rfl, rfl, rfl, rfl, rfl, rfl, rfl, rfl, rfl, rfl, rfl, rfl, rfl, rfl, rfl, rfl, rfl, rfl, rfl, rfl, rfl, rfl, rfl, rfl, rfl, rfl, rfl, rfl, rfl, rfl⟩

@[simp] theorem State.requestReset_frame (s : State) (d : Nat) (q : ResetRequest) :
    (s.requestReset d q).pending = s.pending ∧ (s.requestReset d q).timeUs = s.timeUs ∧ (s.requestReset d q).fresh = s.fresh ∧
    (s.requestReset d q).epoch = s.epoch ∧ (s.requestReset d q).bus = s.bus ∧ (s.requestReset d q).regs = s.regs ∧
    (s.requestReset d q).staged = s.staged ∧ (s.requestReset d q).captured = s.captured ∧ (s.requestReset d q).written = s.written ∧
    (s.requestReset d q).mem = s.mem ∧ (s.requestReset d q).lost = s.lost ∧ (s.requestReset d q).badLines = s.badLines ∧
    (s.requestReset d q).cap = s.cap ∧ (s.requestReset d q).evr = s.evr ∧ (s.requestReset d q).groves = s.groves ∧
    (s.requestReset d q).ctxs = s.ctxs ∧ (s.requestReset d q).plan = s.plan ∧ (s.requestReset d q).mode = s.mode ∧
    (s.requestReset d q).tick = s.tick ∧ (s.requestReset d q).ddr = s.ddr ∧ (s.requestReset d q).pages = s.pages ∧
    (s.requestReset d q).tiers = s.tiers ∧ (s.requestReset d q).dma = s.dma ∧ (s.requestReset d q).seqt = s.seqt ∧
    (s.requestReset d q).pic = s.pic ∧ (s.requestReset d q).mic = s.mic ∧ (s.requestReset d q).cam = s.cam ∧
    (s.requestReset d q).sets = s.sets ∧ (s.requestReset d q).vil = s.vil ∧ (s.requestReset d q).pwr = s.pwr ∧
    (s.requestReset d q).lkt = s.lkt ∧ (s.requestReset d q).sec = s.sec ∧ (s.requestReset d q).flash = s.flash ∧
    (s.requestReset d q).emmc = s.emmc ∧ (s.requestReset d q).boot = s.boot ∧ (s.requestReset d q).pci = s.pci ∧
    (s.requestReset d q).mgt = s.mgt ∧ (s.requestReset d q).tap = s.tap ∧ (s.requestReset d q).pins = s.pins :=
  ⟨rfl, rfl, rfl, rfl, rfl, rfl, rfl, rfl, rfl, rfl, rfl, rfl, rfl, rfl, rfl, rfl, rfl, rfl, rfl, rfl, rfl, rfl, rfl, rfl, rfl, rfl, rfl, rfl, rfl, rfl, rfl, rfl, rfl, rfl, rfl, rfl, rfl, rfl, rfl⟩

@[simp] theorem State.modGrove_frame (s : State) (g : Nat) (f : Grove → Grove) :
    (s.modGrove g f).pending = s.pending ∧ (s.modGrove g f).timeUs = s.timeUs ∧ (s.modGrove g f).fresh = s.fresh ∧
    (s.modGrove g f).epoch = s.epoch ∧ (s.modGrove g f).bus = s.bus ∧ (s.modGrove g f).regs = s.regs ∧
    (s.modGrove g f).staged = s.staged ∧ (s.modGrove g f).captured = s.captured ∧ (s.modGrove g f).written = s.written ∧
    (s.modGrove g f).mem = s.mem ∧ (s.modGrove g f).lost = s.lost ∧ (s.modGrove g f).badLines = s.badLines ∧
    (s.modGrove g f).cap = s.cap ∧ (s.modGrove g f).evr = s.evr ∧ (s.modGrove g f).domains = s.domains ∧
    (s.modGrove g f).ctxs = s.ctxs ∧ (s.modGrove g f).plan = s.plan ∧ (s.modGrove g f).mode = s.mode ∧ (s.modGrove g f).tick = s.tick ∧
    (s.modGrove g f).ddr = s.ddr ∧ (s.modGrove g f).pages = s.pages ∧ (s.modGrove g f).tiers = s.tiers ∧ (s.modGrove g f).dma = s.dma ∧
    (s.modGrove g f).seqt = s.seqt ∧ (s.modGrove g f).pic = s.pic ∧ (s.modGrove g f).mic = s.mic ∧ (s.modGrove g f).cam = s.cam ∧
    (s.modGrove g f).sets = s.sets ∧ (s.modGrove g f).vil = s.vil ∧ (s.modGrove g f).pwr = s.pwr ∧ (s.modGrove g f).lkt = s.lkt ∧
    (s.modGrove g f).sec = s.sec ∧ (s.modGrove g f).flash = s.flash ∧ (s.modGrove g f).emmc = s.emmc ∧ (s.modGrove g f).boot = s.boot ∧
    (s.modGrove g f).pci = s.pci ∧ (s.modGrove g f).mgt = s.mgt ∧ (s.modGrove g f).tap = s.tap ∧ (s.modGrove g f).pins = s.pins :=
  ⟨rfl, rfl, rfl, rfl, rfl, rfl, rfl, rfl, rfl, rfl, rfl, rfl, rfl, rfl, rfl, rfl, rfl, rfl, rfl, rfl, rfl, rfl, rfl, rfl, rfl, rfl, rfl, rfl, rfl, rfl, rfl, rfl, rfl, rfl, rfl, rfl, rfl, rfl, rfl⟩

@[simp] theorem State.modCtx_frame (s : State) (c : Nat) (f : Ctx → Ctx) :
    (s.modCtx c f).pending = s.pending ∧ (s.modCtx c f).timeUs = s.timeUs ∧ (s.modCtx c f).fresh = s.fresh ∧
    (s.modCtx c f).epoch = s.epoch ∧ (s.modCtx c f).bus = s.bus ∧ (s.modCtx c f).regs = s.regs ∧ (s.modCtx c f).staged = s.staged ∧
    (s.modCtx c f).captured = s.captured ∧ (s.modCtx c f).written = s.written ∧ (s.modCtx c f).mem = s.mem ∧
    (s.modCtx c f).lost = s.lost ∧ (s.modCtx c f).badLines = s.badLines ∧ (s.modCtx c f).cap = s.cap ∧ (s.modCtx c f).evr = s.evr ∧
    (s.modCtx c f).domains = s.domains ∧ (s.modCtx c f).groves = s.groves ∧ (s.modCtx c f).plan = s.plan ∧
    (s.modCtx c f).mode = s.mode ∧ (s.modCtx c f).tick = s.tick ∧ (s.modCtx c f).ddr = s.ddr ∧ (s.modCtx c f).pages = s.pages ∧
    (s.modCtx c f).tiers = s.tiers ∧ (s.modCtx c f).dma = s.dma ∧ (s.modCtx c f).seqt = s.seqt ∧ (s.modCtx c f).pic = s.pic ∧
    (s.modCtx c f).mic = s.mic ∧ (s.modCtx c f).cam = s.cam ∧ (s.modCtx c f).sets = s.sets ∧ (s.modCtx c f).vil = s.vil ∧
    (s.modCtx c f).pwr = s.pwr ∧ (s.modCtx c f).lkt = s.lkt ∧ (s.modCtx c f).sec = s.sec ∧ (s.modCtx c f).flash = s.flash ∧
    (s.modCtx c f).emmc = s.emmc ∧ (s.modCtx c f).boot = s.boot ∧ (s.modCtx c f).pci = s.pci ∧ (s.modCtx c f).mgt = s.mgt ∧
    (s.modCtx c f).tap = s.tap ∧ (s.modCtx c f).pins = s.pins :=
  ⟨rfl, rfl, rfl, rfl, rfl, rfl, rfl, rfl, rfl, rfl, rfl, rfl, rfl, rfl, rfl, rfl, rfl, rfl, rfl, rfl, rfl, rfl, rfl, rfl, rfl, rfl, rfl, rfl, rfl, rfl, rfl, rfl, rfl, rfl, rfl, rfl, rfl, rfl, rfl⟩

@[simp] theorem State.modList_frame (s : State) (l : Nat) (f : PageList → PageList) :
    (s.modList l f).pending = s.pending ∧ (s.modList l f).timeUs = s.timeUs ∧ (s.modList l f).fresh = s.fresh ∧
    (s.modList l f).epoch = s.epoch ∧ (s.modList l f).bus = s.bus ∧ (s.modList l f).regs = s.regs ∧ (s.modList l f).staged = s.staged ∧
    (s.modList l f).captured = s.captured ∧ (s.modList l f).written = s.written ∧ (s.modList l f).mem = s.mem ∧
    (s.modList l f).lost = s.lost ∧ (s.modList l f).badLines = s.badLines ∧ (s.modList l f).cap = s.cap ∧ (s.modList l f).evr = s.evr ∧
    (s.modList l f).domains = s.domains ∧ (s.modList l f).groves = s.groves ∧ (s.modList l f).ctxs = s.ctxs ∧
    (s.modList l f).plan = s.plan ∧ (s.modList l f).mode = s.mode ∧ (s.modList l f).tick = s.tick ∧ (s.modList l f).ddr = s.ddr ∧
    (s.modList l f).tiers = s.tiers ∧ (s.modList l f).dma = s.dma ∧ (s.modList l f).seqt = s.seqt ∧ (s.modList l f).pic = s.pic ∧
    (s.modList l f).mic = s.mic ∧ (s.modList l f).cam = s.cam ∧ (s.modList l f).sets = s.sets ∧ (s.modList l f).vil = s.vil ∧
    (s.modList l f).pwr = s.pwr ∧ (s.modList l f).lkt = s.lkt ∧ (s.modList l f).sec = s.sec ∧ (s.modList l f).flash = s.flash ∧
    (s.modList l f).emmc = s.emmc ∧ (s.modList l f).boot = s.boot ∧ (s.modList l f).pci = s.pci ∧ (s.modList l f).mgt = s.mgt ∧
    (s.modList l f).tap = s.tap ∧ (s.modList l f).pins = s.pins :=
  ⟨rfl, rfl, rfl, rfl, rfl, rfl, rfl, rfl, rfl, rfl, rfl, rfl, rfl, rfl, rfl, rfl, rfl, rfl, rfl, rfl, rfl, rfl, rfl, rfl, rfl, rfl, rfl, rfl, rfl, rfl, rfl, rfl, rfl, rfl, rfl, rfl, rfl, rfl, rfl⟩

@[simp] theorem State.modFrame_frame (s : State) (n : Nat) (f : Frame → Frame) :
    (s.modFrame n f).pending = s.pending ∧ (s.modFrame n f).timeUs = s.timeUs ∧ (s.modFrame n f).fresh = s.fresh ∧
    (s.modFrame n f).epoch = s.epoch ∧ (s.modFrame n f).bus = s.bus ∧ (s.modFrame n f).regs = s.regs ∧
    (s.modFrame n f).staged = s.staged ∧ (s.modFrame n f).captured = s.captured ∧ (s.modFrame n f).written = s.written ∧
    (s.modFrame n f).mem = s.mem ∧ (s.modFrame n f).lost = s.lost ∧ (s.modFrame n f).badLines = s.badLines ∧
    (s.modFrame n f).cap = s.cap ∧ (s.modFrame n f).evr = s.evr ∧ (s.modFrame n f).domains = s.domains ∧
    (s.modFrame n f).groves = s.groves ∧ (s.modFrame n f).ctxs = s.ctxs ∧ (s.modFrame n f).plan = s.plan ∧
    (s.modFrame n f).mode = s.mode ∧ (s.modFrame n f).tick = s.tick ∧ (s.modFrame n f).ddr = s.ddr ∧ (s.modFrame n f).tiers = s.tiers ∧
    (s.modFrame n f).dma = s.dma ∧ (s.modFrame n f).seqt = s.seqt ∧ (s.modFrame n f).pic = s.pic ∧ (s.modFrame n f).mic = s.mic ∧
    (s.modFrame n f).cam = s.cam ∧ (s.modFrame n f).sets = s.sets ∧ (s.modFrame n f).vil = s.vil ∧ (s.modFrame n f).pwr = s.pwr ∧
    (s.modFrame n f).lkt = s.lkt ∧ (s.modFrame n f).sec = s.sec ∧ (s.modFrame n f).flash = s.flash ∧ (s.modFrame n f).emmc = s.emmc ∧
    (s.modFrame n f).boot = s.boot ∧ (s.modFrame n f).pci = s.pci ∧ (s.modFrame n f).mgt = s.mgt ∧ (s.modFrame n f).tap = s.tap ∧
    (s.modFrame n f).pins = s.pins :=
  ⟨rfl, rfl, rfl, rfl, rfl, rfl, rfl, rfl, rfl, rfl, rfl, rfl, rfl, rfl, rfl, rfl, rfl, rfl, rfl, rfl, rfl, rfl, rfl, rfl, rfl, rfl, rfl, rfl, rfl, rfl, rfl, rfl, rfl, rfl, rfl, rfl, rfl, rfl, rfl⟩

@[simp] theorem State.modEntry_frame (s : State) (e : Nat) (f : SeqEntry → SeqEntry) :
    (s.modEntry e f).pending = s.pending ∧ (s.modEntry e f).timeUs = s.timeUs ∧ (s.modEntry e f).fresh = s.fresh ∧
    (s.modEntry e f).epoch = s.epoch ∧ (s.modEntry e f).bus = s.bus ∧ (s.modEntry e f).regs = s.regs ∧
    (s.modEntry e f).staged = s.staged ∧ (s.modEntry e f).captured = s.captured ∧ (s.modEntry e f).written = s.written ∧
    (s.modEntry e f).mem = s.mem ∧ (s.modEntry e f).lost = s.lost ∧ (s.modEntry e f).badLines = s.badLines ∧
    (s.modEntry e f).cap = s.cap ∧ (s.modEntry e f).evr = s.evr ∧ (s.modEntry e f).domains = s.domains ∧
    (s.modEntry e f).groves = s.groves ∧ (s.modEntry e f).ctxs = s.ctxs ∧ (s.modEntry e f).plan = s.plan ∧
    (s.modEntry e f).mode = s.mode ∧ (s.modEntry e f).tick = s.tick ∧ (s.modEntry e f).ddr = s.ddr ∧ (s.modEntry e f).pages = s.pages ∧
    (s.modEntry e f).tiers = s.tiers ∧ (s.modEntry e f).dma = s.dma ∧ (s.modEntry e f).pic = s.pic ∧ (s.modEntry e f).mic = s.mic ∧
    (s.modEntry e f).cam = s.cam ∧ (s.modEntry e f).sets = s.sets ∧ (s.modEntry e f).vil = s.vil ∧ (s.modEntry e f).pwr = s.pwr ∧
    (s.modEntry e f).lkt = s.lkt ∧ (s.modEntry e f).sec = s.sec ∧ (s.modEntry e f).flash = s.flash ∧ (s.modEntry e f).emmc = s.emmc ∧
    (s.modEntry e f).boot = s.boot ∧ (s.modEntry e f).pci = s.pci ∧ (s.modEntry e f).mgt = s.mgt ∧ (s.modEntry e f).tap = s.tap ∧
    (s.modEntry e f).pins = s.pins :=
  ⟨rfl, rfl, rfl, rfl, rfl, rfl, rfl, rfl, rfl, rfl, rfl, rfl, rfl, rfl, rfl, rfl, rfl, rfl, rfl, rfl, rfl, rfl, rfl, rfl, rfl, rfl, rfl, rfl, rfl, rfl, rfl, rfl, rfl, rfl, rfl, rfl, rfl, rfl, rfl⟩

@[simp] theorem State.modSeqGroup_frame (s : State) (g : Nat) (f : SeqGroup → SeqGroup) :
    (s.modSeqGroup g f).pending = s.pending ∧ (s.modSeqGroup g f).timeUs = s.timeUs ∧ (s.modSeqGroup g f).fresh = s.fresh ∧
    (s.modSeqGroup g f).epoch = s.epoch ∧ (s.modSeqGroup g f).bus = s.bus ∧ (s.modSeqGroup g f).regs = s.regs ∧
    (s.modSeqGroup g f).staged = s.staged ∧ (s.modSeqGroup g f).captured = s.captured ∧ (s.modSeqGroup g f).written = s.written ∧
    (s.modSeqGroup g f).mem = s.mem ∧ (s.modSeqGroup g f).lost = s.lost ∧ (s.modSeqGroup g f).badLines = s.badLines ∧
    (s.modSeqGroup g f).cap = s.cap ∧ (s.modSeqGroup g f).evr = s.evr ∧ (s.modSeqGroup g f).domains = s.domains ∧
    (s.modSeqGroup g f).groves = s.groves ∧ (s.modSeqGroup g f).ctxs = s.ctxs ∧ (s.modSeqGroup g f).plan = s.plan ∧
    (s.modSeqGroup g f).mode = s.mode ∧ (s.modSeqGroup g f).tick = s.tick ∧ (s.modSeqGroup g f).ddr = s.ddr ∧
    (s.modSeqGroup g f).pages = s.pages ∧ (s.modSeqGroup g f).tiers = s.tiers ∧ (s.modSeqGroup g f).dma = s.dma ∧
    (s.modSeqGroup g f).pic = s.pic ∧ (s.modSeqGroup g f).mic = s.mic ∧ (s.modSeqGroup g f).cam = s.cam ∧
    (s.modSeqGroup g f).sets = s.sets ∧ (s.modSeqGroup g f).vil = s.vil ∧ (s.modSeqGroup g f).pwr = s.pwr ∧
    (s.modSeqGroup g f).lkt = s.lkt ∧ (s.modSeqGroup g f).sec = s.sec ∧ (s.modSeqGroup g f).flash = s.flash ∧
    (s.modSeqGroup g f).emmc = s.emmc ∧ (s.modSeqGroup g f).boot = s.boot ∧ (s.modSeqGroup g f).pci = s.pci ∧
    (s.modSeqGroup g f).mgt = s.mgt ∧ (s.modSeqGroup g f).tap = s.tap ∧ (s.modSeqGroup g f).pins = s.pins :=
  ⟨rfl, rfl, rfl, rfl, rfl, rfl, rfl, rfl, rfl, rfl, rfl, rfl, rfl, rfl, rfl, rfl, rfl, rfl, rfl, rfl, rfl, rfl, rfl, rfl, rfl, rfl, rfl, rfl, rfl, rfl, rfl, rfl, rfl, rfl, rfl, rfl, rfl, rfl, rfl⟩

@[simp] theorem State.modObj_frame (s : State) (k : Nat) (f : Obj → Obj) :
    (s.modObj k f).pending = s.pending ∧ (s.modObj k f).timeUs = s.timeUs ∧ (s.modObj k f).fresh = s.fresh ∧
    (s.modObj k f).epoch = s.epoch ∧ (s.modObj k f).bus = s.bus ∧ (s.modObj k f).regs = s.regs ∧ (s.modObj k f).staged = s.staged ∧
    (s.modObj k f).captured = s.captured ∧ (s.modObj k f).written = s.written ∧ (s.modObj k f).mem = s.mem ∧
    (s.modObj k f).lost = s.lost ∧ (s.modObj k f).badLines = s.badLines ∧ (s.modObj k f).cap = s.cap ∧ (s.modObj k f).evr = s.evr ∧
    (s.modObj k f).domains = s.domains ∧ (s.modObj k f).groves = s.groves ∧ (s.modObj k f).ctxs = s.ctxs ∧
    (s.modObj k f).plan = s.plan ∧ (s.modObj k f).mode = s.mode ∧ (s.modObj k f).tick = s.tick ∧ (s.modObj k f).ddr = s.ddr ∧
    (s.modObj k f).pages = s.pages ∧ (s.modObj k f).dma = s.dma ∧ (s.modObj k f).seqt = s.seqt ∧ (s.modObj k f).pic = s.pic ∧
    (s.modObj k f).mic = s.mic ∧ (s.modObj k f).cam = s.cam ∧ (s.modObj k f).sets = s.sets ∧ (s.modObj k f).vil = s.vil ∧
    (s.modObj k f).pwr = s.pwr ∧ (s.modObj k f).lkt = s.lkt ∧ (s.modObj k f).sec = s.sec ∧ (s.modObj k f).flash = s.flash ∧
    (s.modObj k f).emmc = s.emmc ∧ (s.modObj k f).boot = s.boot ∧ (s.modObj k f).pci = s.pci ∧ (s.modObj k f).mgt = s.mgt ∧
    (s.modObj k f).tap = s.tap ∧ (s.modObj k f).pins = s.pins :=
  ⟨rfl, rfl, rfl, rfl, rfl, rfl, rfl, rfl, rfl, rfl, rfl, rfl, rfl, rfl, rfl, rfl, rfl, rfl, rfl, rfl, rfl, rfl, rfl, rfl, rfl, rfl, rfl, rfl, rfl, rfl, rfl, rfl, rfl, rfl, rfl, rfl, rfl, rfl, rfl⟩

@[simp] theorem State.modXfer_frame (s : State) (t : Nat) (f : Transfer → Transfer) :
    (s.modXfer t f).pending = s.pending ∧ (s.modXfer t f).timeUs = s.timeUs ∧ (s.modXfer t f).fresh = s.fresh ∧
    (s.modXfer t f).epoch = s.epoch ∧ (s.modXfer t f).bus = s.bus ∧ (s.modXfer t f).regs = s.regs ∧ (s.modXfer t f).staged = s.staged ∧
    (s.modXfer t f).captured = s.captured ∧ (s.modXfer t f).written = s.written ∧ (s.modXfer t f).mem = s.mem ∧
    (s.modXfer t f).lost = s.lost ∧ (s.modXfer t f).badLines = s.badLines ∧ (s.modXfer t f).cap = s.cap ∧ (s.modXfer t f).evr = s.evr ∧
    (s.modXfer t f).domains = s.domains ∧ (s.modXfer t f).groves = s.groves ∧ (s.modXfer t f).ctxs = s.ctxs ∧
    (s.modXfer t f).plan = s.plan ∧ (s.modXfer t f).mode = s.mode ∧ (s.modXfer t f).tick = s.tick ∧ (s.modXfer t f).ddr = s.ddr ∧
    (s.modXfer t f).pages = s.pages ∧ (s.modXfer t f).tiers = s.tiers ∧ (s.modXfer t f).seqt = s.seqt ∧ (s.modXfer t f).pic = s.pic ∧
    (s.modXfer t f).mic = s.mic ∧ (s.modXfer t f).cam = s.cam ∧ (s.modXfer t f).sets = s.sets ∧ (s.modXfer t f).vil = s.vil ∧
    (s.modXfer t f).pwr = s.pwr ∧ (s.modXfer t f).lkt = s.lkt ∧ (s.modXfer t f).sec = s.sec ∧ (s.modXfer t f).flash = s.flash ∧
    (s.modXfer t f).emmc = s.emmc ∧ (s.modXfer t f).boot = s.boot ∧ (s.modXfer t f).pci = s.pci ∧ (s.modXfer t f).mgt = s.mgt ∧
    (s.modXfer t f).tap = s.tap ∧ (s.modXfer t f).pins = s.pins :=
  ⟨rfl, rfl, rfl, rfl, rfl, rfl, rfl, rfl, rfl, rfl, rfl, rfl, rfl, rfl, rfl, rfl, rfl, rfl, rfl, rfl, rfl, rfl, rfl, rfl, rfl, rfl, rfl, rfl, rfl, rfl, rfl, rfl, rfl, rfl, rfl, rfl, rfl, rfl, rfl⟩

@[simp] theorem State.modSet_frame (s : State) (e : Nat) (f : SampleSet → SampleSet) :
    (s.modSet e f).pending = s.pending ∧ (s.modSet e f).timeUs = s.timeUs ∧ (s.modSet e f).fresh = s.fresh ∧
    (s.modSet e f).epoch = s.epoch ∧ (s.modSet e f).bus = s.bus ∧ (s.modSet e f).regs = s.regs ∧ (s.modSet e f).staged = s.staged ∧
    (s.modSet e f).captured = s.captured ∧ (s.modSet e f).written = s.written ∧ (s.modSet e f).mem = s.mem ∧
    (s.modSet e f).lost = s.lost ∧ (s.modSet e f).badLines = s.badLines ∧ (s.modSet e f).cap = s.cap ∧ (s.modSet e f).evr = s.evr ∧
    (s.modSet e f).domains = s.domains ∧ (s.modSet e f).groves = s.groves ∧ (s.modSet e f).ctxs = s.ctxs ∧
    (s.modSet e f).plan = s.plan ∧ (s.modSet e f).mode = s.mode ∧ (s.modSet e f).tick = s.tick ∧ (s.modSet e f).ddr = s.ddr ∧
    (s.modSet e f).pages = s.pages ∧ (s.modSet e f).tiers = s.tiers ∧ (s.modSet e f).dma = s.dma ∧ (s.modSet e f).seqt = s.seqt ∧
    (s.modSet e f).pic = s.pic ∧ (s.modSet e f).mic = s.mic ∧ (s.modSet e f).cam = s.cam ∧ (s.modSet e f).vil = s.vil ∧
    (s.modSet e f).pwr = s.pwr ∧ (s.modSet e f).lkt = s.lkt ∧ (s.modSet e f).sec = s.sec ∧ (s.modSet e f).flash = s.flash ∧
    (s.modSet e f).emmc = s.emmc ∧ (s.modSet e f).boot = s.boot ∧ (s.modSet e f).pci = s.pci ∧ (s.modSet e f).mgt = s.mgt ∧
    (s.modSet e f).tap = s.tap ∧ (s.modSet e f).pins = s.pins :=
  ⟨rfl, rfl, rfl, rfl, rfl, rfl, rfl, rfl, rfl, rfl, rfl, rfl, rfl, rfl, rfl, rfl, rfl, rfl, rfl, rfl, rfl, rfl, rfl, rfl, rfl, rfl, rfl, rfl, rfl, rfl, rfl, rfl, rfl, rfl, rfl, rfl, rfl, rfl, rfl⟩

@[simp] theorem State.modPort_frame (s : State) (p : Nat) (f : Port → Port) :
    (s.modPort p f).pending = s.pending ∧ (s.modPort p f).timeUs = s.timeUs ∧ (s.modPort p f).fresh = s.fresh ∧
    (s.modPort p f).epoch = s.epoch ∧ (s.modPort p f).bus = s.bus ∧ (s.modPort p f).regs = s.regs ∧ (s.modPort p f).staged = s.staged ∧
    (s.modPort p f).captured = s.captured ∧ (s.modPort p f).written = s.written ∧ (s.modPort p f).mem = s.mem ∧
    (s.modPort p f).lost = s.lost ∧ (s.modPort p f).badLines = s.badLines ∧ (s.modPort p f).cap = s.cap ∧ (s.modPort p f).evr = s.evr ∧
    (s.modPort p f).domains = s.domains ∧ (s.modPort p f).groves = s.groves ∧ (s.modPort p f).ctxs = s.ctxs ∧
    (s.modPort p f).plan = s.plan ∧ (s.modPort p f).mode = s.mode ∧ (s.modPort p f).tick = s.tick ∧ (s.modPort p f).ddr = s.ddr ∧
    (s.modPort p f).pages = s.pages ∧ (s.modPort p f).tiers = s.tiers ∧ (s.modPort p f).dma = s.dma ∧ (s.modPort p f).seqt = s.seqt ∧
    (s.modPort p f).pic = s.pic ∧ (s.modPort p f).mic = s.mic ∧ (s.modPort p f).cam = s.cam ∧ (s.modPort p f).sets = s.sets ∧
    (s.modPort p f).pwr = s.pwr ∧ (s.modPort p f).lkt = s.lkt ∧ (s.modPort p f).sec = s.sec ∧ (s.modPort p f).flash = s.flash ∧
    (s.modPort p f).emmc = s.emmc ∧ (s.modPort p f).boot = s.boot ∧ (s.modPort p f).pci = s.pci ∧ (s.modPort p f).mgt = s.mgt ∧
    (s.modPort p f).tap = s.tap ∧ (s.modPort p f).pins = s.pins :=
  ⟨rfl, rfl, rfl, rfl, rfl, rfl, rfl, rfl, rfl, rfl, rfl, rfl, rfl, rfl, rfl, rfl, rfl, rfl, rfl, rfl, rfl, rfl, rfl, rfl, rfl, rfl, rfl, rfl, rfl, rfl, rfl, rfl, rfl, rfl, rfl, rfl, rfl, rfl, rfl⟩

@[simp] theorem State.zeroMem_frame (s : State) (a n : Nat) :
    (s.zeroMem a n).pending = s.pending ∧ (s.zeroMem a n).timeUs = s.timeUs ∧ (s.zeroMem a n).fresh = s.fresh ∧
    (s.zeroMem a n).epoch = s.epoch ∧ (s.zeroMem a n).bus = s.bus ∧ (s.zeroMem a n).regs = s.regs ∧ (s.zeroMem a n).staged = s.staged ∧
    (s.zeroMem a n).captured = s.captured ∧ (s.zeroMem a n).written = s.written ∧ (s.zeroMem a n).cap = s.cap ∧
    (s.zeroMem a n).evr = s.evr ∧ (s.zeroMem a n).domains = s.domains ∧ (s.zeroMem a n).groves = s.groves ∧
    (s.zeroMem a n).ctxs = s.ctxs ∧ (s.zeroMem a n).plan = s.plan ∧ (s.zeroMem a n).mode = s.mode ∧ (s.zeroMem a n).tick = s.tick ∧
    (s.zeroMem a n).ddr = s.ddr ∧ (s.zeroMem a n).pages = s.pages ∧ (s.zeroMem a n).tiers = s.tiers ∧ (s.zeroMem a n).dma = s.dma ∧
    (s.zeroMem a n).seqt = s.seqt ∧ (s.zeroMem a n).pic = s.pic ∧ (s.zeroMem a n).mic = s.mic ∧ (s.zeroMem a n).cam = s.cam ∧
    (s.zeroMem a n).sets = s.sets ∧ (s.zeroMem a n).vil = s.vil ∧ (s.zeroMem a n).pwr = s.pwr ∧ (s.zeroMem a n).lkt = s.lkt ∧
    (s.zeroMem a n).sec = s.sec ∧ (s.zeroMem a n).flash = s.flash ∧ (s.zeroMem a n).emmc = s.emmc ∧ (s.zeroMem a n).boot = s.boot ∧
    (s.zeroMem a n).pci = s.pci ∧ (s.zeroMem a n).mgt = s.mgt ∧ (s.zeroMem a n).tap = s.tap ∧ (s.zeroMem a n).pins = s.pins :=
  ⟨rfl, rfl, rfl, rfl, rfl, rfl, rfl, rfl, rfl, rfl, rfl, rfl, rfl, rfl, rfl, rfl, rfl, rfl, rfl, rfl, rfl, rfl, rfl, rfl, rfl, rfl, rfl, rfl, rfl, rfl, rfl, rfl, rfl, rfl, rfl, rfl, rfl⟩

@[simp] theorem State.loseMem_frame (s : State) (a n : Nat) :
    (s.loseMem a n).pending = s.pending ∧ (s.loseMem a n).timeUs = s.timeUs ∧ (s.loseMem a n).fresh = s.fresh ∧
    (s.loseMem a n).bus = s.bus ∧ (s.loseMem a n).regs = s.regs ∧ (s.loseMem a n).staged = s.staged ∧
    (s.loseMem a n).captured = s.captured ∧ (s.loseMem a n).written = s.written ∧ (s.loseMem a n).badLines = s.badLines ∧
    (s.loseMem a n).cap = s.cap ∧ (s.loseMem a n).evr = s.evr ∧ (s.loseMem a n).domains = s.domains ∧
    (s.loseMem a n).groves = s.groves ∧ (s.loseMem a n).ctxs = s.ctxs ∧ (s.loseMem a n).plan = s.plan ∧ (s.loseMem a n).mode = s.mode ∧
    (s.loseMem a n).tick = s.tick ∧ (s.loseMem a n).ddr = s.ddr ∧ (s.loseMem a n).pages = s.pages ∧ (s.loseMem a n).tiers = s.tiers ∧
    (s.loseMem a n).dma = s.dma ∧ (s.loseMem a n).seqt = s.seqt ∧ (s.loseMem a n).pic = s.pic ∧ (s.loseMem a n).mic = s.mic ∧
    (s.loseMem a n).cam = s.cam ∧ (s.loseMem a n).sets = s.sets ∧ (s.loseMem a n).vil = s.vil ∧ (s.loseMem a n).pwr = s.pwr ∧
    (s.loseMem a n).lkt = s.lkt ∧ (s.loseMem a n).sec = s.sec ∧ (s.loseMem a n).flash = s.flash ∧ (s.loseMem a n).emmc = s.emmc ∧
    (s.loseMem a n).boot = s.boot ∧ (s.loseMem a n).pci = s.pci ∧ (s.loseMem a n).mgt = s.mgt ∧ (s.loseMem a n).tap = s.tap ∧
    (s.loseMem a n).pins = s.pins :=
  ⟨rfl, rfl, rfl, rfl, rfl, rfl, rfl, rfl, rfl, rfl, rfl, rfl, rfl, rfl, rfl, rfl, rfl, rfl, rfl, rfl, rfl, rfl, rfl, rfl, rfl, rfl, rfl, rfl, rfl, rfl, rfl, rfl, rfl, rfl, rfl, rfl, rfl⟩

@[simp] theorem State.resetBlock_frame (s : State) (b : Nat) :
    (s.resetBlock b).pending = s.pending ∧ (s.resetBlock b).timeUs = s.timeUs ∧ (s.resetBlock b).fresh = s.fresh ∧
    (s.resetBlock b).epoch = s.epoch ∧ (s.resetBlock b).bus = s.bus ∧ (s.resetBlock b).mem = s.mem ∧ (s.resetBlock b).lost = s.lost ∧
    (s.resetBlock b).badLines = s.badLines ∧ (s.resetBlock b).cap = s.cap ∧ (s.resetBlock b).evr = s.evr ∧
    (s.resetBlock b).domains = s.domains ∧ (s.resetBlock b).groves = s.groves ∧ (s.resetBlock b).ctxs = s.ctxs ∧
    (s.resetBlock b).plan = s.plan ∧ (s.resetBlock b).mode = s.mode ∧ (s.resetBlock b).tick = s.tick ∧ (s.resetBlock b).ddr = s.ddr ∧
    (s.resetBlock b).pages = s.pages ∧ (s.resetBlock b).tiers = s.tiers ∧ (s.resetBlock b).dma = s.dma ∧
    (s.resetBlock b).seqt = s.seqt ∧ (s.resetBlock b).pic = s.pic ∧ (s.resetBlock b).mic = s.mic ∧ (s.resetBlock b).cam = s.cam ∧
    (s.resetBlock b).sets = s.sets ∧ (s.resetBlock b).vil = s.vil ∧ (s.resetBlock b).pwr = s.pwr ∧ (s.resetBlock b).lkt = s.lkt ∧
    (s.resetBlock b).sec = s.sec ∧ (s.resetBlock b).flash = s.flash ∧ (s.resetBlock b).emmc = s.emmc ∧ (s.resetBlock b).boot = s.boot ∧
    (s.resetBlock b).pci = s.pci ∧ (s.resetBlock b).mgt = s.mgt ∧ (s.resetBlock b).tap = s.tap ∧ (s.resetBlock b).pins = s.pins :=
  ⟨rfl, rfl, rfl, rfl, rfl, rfl, rfl, rfl, rfl, rfl, rfl, rfl, rfl, rfl, rfl, rfl, rfl, rfl, rfl, rfl, rfl, rfl, rfl, rfl, rfl, rfl, rfl, rfl, rfl, rfl, rfl, rfl, rfl, rfl, rfl, rfl⟩

@[simp] theorem State.evt_frame (s : State) (k n : Nat) :
    (s.evt k n).pending = s.pending ∧ (s.evt k n).timeUs = s.timeUs ∧ (s.evt k n).fresh = s.fresh ∧ (s.evt k n).epoch = s.epoch ∧
    (s.evt k n).bus = s.bus ∧ (s.evt k n).staged = s.staged ∧ (s.evt k n).captured = s.captured ∧ (s.evt k n).written = s.written ∧
    (s.evt k n).mem = s.mem ∧ (s.evt k n).lost = s.lost ∧ (s.evt k n).badLines = s.badLines ∧ (s.evt k n).cap = s.cap ∧
    (s.evt k n).evr = s.evr ∧ (s.evt k n).domains = s.domains ∧ (s.evt k n).groves = s.groves ∧ (s.evt k n).ctxs = s.ctxs ∧
    (s.evt k n).plan = s.plan ∧ (s.evt k n).mode = s.mode ∧ (s.evt k n).tick = s.tick ∧ (s.evt k n).ddr = s.ddr ∧
    (s.evt k n).pages = s.pages ∧ (s.evt k n).tiers = s.tiers ∧ (s.evt k n).dma = s.dma ∧ (s.evt k n).seqt = s.seqt ∧
    (s.evt k n).pic = s.pic ∧ (s.evt k n).mic = s.mic ∧ (s.evt k n).cam = s.cam ∧ (s.evt k n).sets = s.sets ∧ (s.evt k n).vil = s.vil ∧
    (s.evt k n).pwr = s.pwr ∧ (s.evt k n).lkt = s.lkt ∧ (s.evt k n).sec = s.sec ∧ (s.evt k n).flash = s.flash ∧
    (s.evt k n).emmc = s.emmc ∧ (s.evt k n).boot = s.boot ∧ (s.evt k n).pci = s.pci ∧ (s.evt k n).mgt = s.mgt ∧
    (s.evt k n).tap = s.tap ∧ (s.evt k n).pins = s.pins :=
  by
  unfold State.evt; split <;> simp

@[simp] theorem State.put_frame (s : State) (k v : Nat) :
    (s.put k v).pending = s.pending ∧ (s.put k v).timeUs = s.timeUs ∧ (s.put k v).fresh = s.fresh ∧ (s.put k v).epoch = s.epoch ∧
    (s.put k v).bus = s.bus ∧ (s.put k v).staged = s.staged ∧ (s.put k v).captured = s.captured ∧ (s.put k v).written = s.written ∧
    (s.put k v).mem = s.mem ∧ (s.put k v).lost = s.lost ∧ (s.put k v).badLines = s.badLines ∧ (s.put k v).cap = s.cap ∧
    (s.put k v).evr = s.evr ∧ (s.put k v).domains = s.domains ∧ (s.put k v).groves = s.groves ∧ (s.put k v).ctxs = s.ctxs ∧
    (s.put k v).plan = s.plan ∧ (s.put k v).mode = s.mode ∧ (s.put k v).tick = s.tick ∧ (s.put k v).ddr = s.ddr ∧
    (s.put k v).pages = s.pages ∧ (s.put k v).tiers = s.tiers ∧ (s.put k v).dma = s.dma ∧ (s.put k v).seqt = s.seqt ∧
    (s.put k v).pic = s.pic ∧ (s.put k v).mic = s.mic ∧ (s.put k v).cam = s.cam ∧ (s.put k v).sets = s.sets ∧ (s.put k v).vil = s.vil ∧
    (s.put k v).pwr = s.pwr ∧ (s.put k v).lkt = s.lkt ∧ (s.put k v).sec = s.sec ∧ (s.put k v).flash = s.flash ∧
    (s.put k v).emmc = s.emmc ∧ (s.put k v).boot = s.boot ∧ (s.put k v).pci = s.pci ∧ (s.put k v).mgt = s.mgt ∧
    (s.put k v).tap = s.tap ∧ (s.put k v).pins = s.pins :=
  by
  unfold State.put; split <;> simp

@[simp] theorem State.putF_frame (s : State) (k lo w v : Nat) :
    (s.putF k lo w v).pending = s.pending ∧ (s.putF k lo w v).timeUs = s.timeUs ∧ (s.putF k lo w v).fresh = s.fresh ∧
    (s.putF k lo w v).epoch = s.epoch ∧ (s.putF k lo w v).bus = s.bus ∧ (s.putF k lo w v).staged = s.staged ∧
    (s.putF k lo w v).captured = s.captured ∧ (s.putF k lo w v).written = s.written ∧ (s.putF k lo w v).mem = s.mem ∧
    (s.putF k lo w v).lost = s.lost ∧ (s.putF k lo w v).badLines = s.badLines ∧ (s.putF k lo w v).cap = s.cap ∧
    (s.putF k lo w v).evr = s.evr ∧ (s.putF k lo w v).domains = s.domains ∧ (s.putF k lo w v).groves = s.groves ∧
    (s.putF k lo w v).ctxs = s.ctxs ∧ (s.putF k lo w v).plan = s.plan ∧ (s.putF k lo w v).mode = s.mode ∧
    (s.putF k lo w v).tick = s.tick ∧ (s.putF k lo w v).ddr = s.ddr ∧ (s.putF k lo w v).pages = s.pages ∧
    (s.putF k lo w v).tiers = s.tiers ∧ (s.putF k lo w v).dma = s.dma ∧ (s.putF k lo w v).seqt = s.seqt ∧
    (s.putF k lo w v).pic = s.pic ∧ (s.putF k lo w v).mic = s.mic ∧ (s.putF k lo w v).cam = s.cam ∧ (s.putF k lo w v).sets = s.sets ∧
    (s.putF k lo w v).vil = s.vil ∧ (s.putF k lo w v).pwr = s.pwr ∧ (s.putF k lo w v).lkt = s.lkt ∧ (s.putF k lo w v).sec = s.sec ∧
    (s.putF k lo w v).flash = s.flash ∧ (s.putF k lo w v).emmc = s.emmc ∧ (s.putF k lo w v).boot = s.boot ∧
    (s.putF k lo w v).pci = s.pci ∧ (s.putF k lo w v).mgt = s.mgt ∧ (s.putF k lo w v).tap = s.tap ∧ (s.putF k lo w v).pins = s.pins :=
  by
  unfold State.putF; split <;> simp

@[simp] theorem State.count_frame (s : State) (k n : Nat) :
    (s.count k n).pending = s.pending ∧ (s.count k n).timeUs = s.timeUs ∧ (s.count k n).fresh = s.fresh ∧
    (s.count k n).epoch = s.epoch ∧ (s.count k n).bus = s.bus ∧ (s.count k n).staged = s.staged ∧ (s.count k n).captured = s.captured ∧
    (s.count k n).written = s.written ∧ (s.count k n).mem = s.mem ∧ (s.count k n).lost = s.lost ∧ (s.count k n).badLines = s.badLines ∧
    (s.count k n).cap = s.cap ∧ (s.count k n).evr = s.evr ∧ (s.count k n).domains = s.domains ∧ (s.count k n).groves = s.groves ∧
    (s.count k n).ctxs = s.ctxs ∧ (s.count k n).plan = s.plan ∧ (s.count k n).mode = s.mode ∧ (s.count k n).tick = s.tick ∧
    (s.count k n).ddr = s.ddr ∧ (s.count k n).pages = s.pages ∧ (s.count k n).tiers = s.tiers ∧ (s.count k n).dma = s.dma ∧
    (s.count k n).seqt = s.seqt ∧ (s.count k n).pic = s.pic ∧ (s.count k n).mic = s.mic ∧ (s.count k n).cam = s.cam ∧
    (s.count k n).sets = s.sets ∧ (s.count k n).vil = s.vil ∧ (s.count k n).pwr = s.pwr ∧ (s.count k n).lkt = s.lkt ∧
    (s.count k n).sec = s.sec ∧ (s.count k n).flash = s.flash ∧ (s.count k n).emmc = s.emmc ∧ (s.count k n).boot = s.boot ∧
    (s.count k n).pci = s.pci ∧ (s.count k n).mgt = s.mgt ∧ (s.count k n).tap = s.tap ∧ (s.count k n).pins = s.pins :=
  by
  unfold State.count; split <;> simp

@[simp] theorem State.wrBytes_frame (s : State) (a : Nat) (bs : List Byte) :
    (s.wrBytes a bs).pending = s.pending ∧ (s.wrBytes a bs).timeUs = s.timeUs ∧ (s.wrBytes a bs).fresh = s.fresh ∧
    (s.wrBytes a bs).epoch = s.epoch ∧ (s.wrBytes a bs).bus = s.bus ∧ (s.wrBytes a bs).regs = s.regs ∧
    (s.wrBytes a bs).staged = s.staged ∧ (s.wrBytes a bs).captured = s.captured ∧ (s.wrBytes a bs).written = s.written ∧
    (s.wrBytes a bs).cap = s.cap ∧ (s.wrBytes a bs).evr = s.evr ∧ (s.wrBytes a bs).domains = s.domains ∧
    (s.wrBytes a bs).groves = s.groves ∧ (s.wrBytes a bs).ctxs = s.ctxs ∧ (s.wrBytes a bs).plan = s.plan ∧
    (s.wrBytes a bs).mode = s.mode ∧ (s.wrBytes a bs).tick = s.tick ∧ (s.wrBytes a bs).pages = s.pages ∧
    (s.wrBytes a bs).tiers = s.tiers ∧ (s.wrBytes a bs).dma = s.dma ∧ (s.wrBytes a bs).seqt = s.seqt ∧ (s.wrBytes a bs).pic = s.pic ∧
    (s.wrBytes a bs).mic = s.mic ∧ (s.wrBytes a bs).cam = s.cam ∧ (s.wrBytes a bs).sets = s.sets ∧ (s.wrBytes a bs).vil = s.vil ∧
    (s.wrBytes a bs).pwr = s.pwr ∧ (s.wrBytes a bs).lkt = s.lkt ∧ (s.wrBytes a bs).sec = s.sec ∧ (s.wrBytes a bs).flash = s.flash ∧
    (s.wrBytes a bs).emmc = s.emmc ∧ (s.wrBytes a bs).boot = s.boot ∧ (s.wrBytes a bs).pci = s.pci ∧ (s.wrBytes a bs).mgt = s.mgt ∧
    (s.wrBytes a bs).tap = s.tap ∧ (s.wrBytes a bs).pins = s.pins :=
  by
  unfold State.wrBytes; split <;> simp

@[simp] theorem State.wrLE_frame (s : State) (a n v : Nat) :
    (s.wrLE a n v).pending = s.pending ∧ (s.wrLE a n v).timeUs = s.timeUs ∧ (s.wrLE a n v).fresh = s.fresh ∧
    (s.wrLE a n v).epoch = s.epoch ∧ (s.wrLE a n v).bus = s.bus ∧ (s.wrLE a n v).regs = s.regs ∧ (s.wrLE a n v).staged = s.staged ∧
    (s.wrLE a n v).captured = s.captured ∧ (s.wrLE a n v).written = s.written ∧ (s.wrLE a n v).cap = s.cap ∧
    (s.wrLE a n v).evr = s.evr ∧ (s.wrLE a n v).domains = s.domains ∧ (s.wrLE a n v).groves = s.groves ∧ (s.wrLE a n v).ctxs = s.ctxs ∧
    (s.wrLE a n v).plan = s.plan ∧ (s.wrLE a n v).mode = s.mode ∧ (s.wrLE a n v).tick = s.tick ∧ (s.wrLE a n v).pages = s.pages ∧
    (s.wrLE a n v).tiers = s.tiers ∧ (s.wrLE a n v).dma = s.dma ∧ (s.wrLE a n v).seqt = s.seqt ∧ (s.wrLE a n v).pic = s.pic ∧
    (s.wrLE a n v).mic = s.mic ∧ (s.wrLE a n v).cam = s.cam ∧ (s.wrLE a n v).sets = s.sets ∧ (s.wrLE a n v).vil = s.vil ∧
    (s.wrLE a n v).pwr = s.pwr ∧ (s.wrLE a n v).lkt = s.lkt ∧ (s.wrLE a n v).sec = s.sec ∧ (s.wrLE a n v).flash = s.flash ∧
    (s.wrLE a n v).emmc = s.emmc ∧ (s.wrLE a n v).boot = s.boot ∧ (s.wrLE a n v).pci = s.pci ∧ (s.wrLE a n v).mgt = s.mgt ∧
    (s.wrLE a n v).tap = s.tap ∧ (s.wrLE a n v).pins = s.pins :=
  by
  unfold State.wrLE; simp

@[simp] theorem State.loseRecord_frame (s : State) :
    (s.loseRecord).pending = s.pending ∧ (s.loseRecord).timeUs = s.timeUs ∧ (s.loseRecord).fresh = s.fresh ∧
    (s.loseRecord).epoch = s.epoch ∧ (s.loseRecord).bus = s.bus ∧ (s.loseRecord).staged = s.staged ∧
    (s.loseRecord).captured = s.captured ∧ (s.loseRecord).written = s.written ∧ (s.loseRecord).mem = s.mem ∧
    (s.loseRecord).lost = s.lost ∧ (s.loseRecord).badLines = s.badLines ∧ (s.loseRecord).cap = s.cap ∧
    (s.loseRecord).domains = s.domains ∧ (s.loseRecord).groves = s.groves ∧ (s.loseRecord).ctxs = s.ctxs ∧
    (s.loseRecord).plan = s.plan ∧ (s.loseRecord).mode = s.mode ∧ (s.loseRecord).tick = s.tick ∧ (s.loseRecord).ddr = s.ddr ∧
    (s.loseRecord).pages = s.pages ∧ (s.loseRecord).tiers = s.tiers ∧ (s.loseRecord).dma = s.dma ∧ (s.loseRecord).seqt = s.seqt ∧
    (s.loseRecord).pic = s.pic ∧ (s.loseRecord).mic = s.mic ∧ (s.loseRecord).cam = s.cam ∧ (s.loseRecord).sets = s.sets ∧
    (s.loseRecord).vil = s.vil ∧ (s.loseRecord).pwr = s.pwr ∧ (s.loseRecord).lkt = s.lkt ∧ (s.loseRecord).sec = s.sec ∧
    (s.loseRecord).flash = s.flash ∧ (s.loseRecord).emmc = s.emmc ∧ (s.loseRecord).boot = s.boot ∧ (s.loseRecord).pci = s.pci ∧
    (s.loseRecord).mgt = s.mgt ∧ (s.loseRecord).tap = s.tap ∧ (s.loseRecord).pins = s.pins :=
  by
  unfold State.loseRecord; simp

@[simp] theorem State.storeLast_frame (s : State) (r : Record) :
    (s.storeLast r).pending = s.pending ∧ (s.storeLast r).timeUs = s.timeUs ∧ (s.storeLast r).fresh = s.fresh ∧
    (s.storeLast r).epoch = s.epoch ∧ (s.storeLast r).bus = s.bus ∧ (s.storeLast r).staged = s.staged ∧
    (s.storeLast r).captured = s.captured ∧ (s.storeLast r).written = s.written ∧ (s.storeLast r).mem = s.mem ∧
    (s.storeLast r).lost = s.lost ∧ (s.storeLast r).badLines = s.badLines ∧ (s.storeLast r).cap = s.cap ∧
    (s.storeLast r).domains = s.domains ∧ (s.storeLast r).groves = s.groves ∧ (s.storeLast r).ctxs = s.ctxs ∧
    (s.storeLast r).plan = s.plan ∧ (s.storeLast r).mode = s.mode ∧ (s.storeLast r).tick = s.tick ∧ (s.storeLast r).ddr = s.ddr ∧
    (s.storeLast r).pages = s.pages ∧ (s.storeLast r).tiers = s.tiers ∧ (s.storeLast r).dma = s.dma ∧ (s.storeLast r).seqt = s.seqt ∧
    (s.storeLast r).pic = s.pic ∧ (s.storeLast r).mic = s.mic ∧ (s.storeLast r).cam = s.cam ∧ (s.storeLast r).sets = s.sets ∧
    (s.storeLast r).vil = s.vil ∧ (s.storeLast r).pwr = s.pwr ∧ (s.storeLast r).lkt = s.lkt ∧ (s.storeLast r).sec = s.sec ∧
    (s.storeLast r).flash = s.flash ∧ (s.storeLast r).emmc = s.emmc ∧ (s.storeLast r).boot = s.boot ∧ (s.storeLast r).pci = s.pci ∧
    (s.storeLast r).mgt = s.mgt ∧ (s.storeLast r).tap = s.tap ∧ (s.storeLast r).pins = s.pins :=
  by
  unfold State.storeLast; dsimp only; split <;> simp

@[simp] theorem State.keepFirst_frame (s : State) (r : Record) :
    (s.keepFirst r).pending = s.pending ∧ (s.keepFirst r).timeUs = s.timeUs ∧ (s.keepFirst r).fresh = s.fresh ∧
    (s.keepFirst r).epoch = s.epoch ∧ (s.keepFirst r).bus = s.bus ∧ (s.keepFirst r).staged = s.staged ∧
    (s.keepFirst r).captured = s.captured ∧ (s.keepFirst r).written = s.written ∧ (s.keepFirst r).mem = s.mem ∧
    (s.keepFirst r).lost = s.lost ∧ (s.keepFirst r).badLines = s.badLines ∧ (s.keepFirst r).cap = s.cap ∧
    (s.keepFirst r).domains = s.domains ∧ (s.keepFirst r).groves = s.groves ∧ (s.keepFirst r).ctxs = s.ctxs ∧
    (s.keepFirst r).plan = s.plan ∧ (s.keepFirst r).mode = s.mode ∧ (s.keepFirst r).tick = s.tick ∧ (s.keepFirst r).ddr = s.ddr ∧
    (s.keepFirst r).pages = s.pages ∧ (s.keepFirst r).tiers = s.tiers ∧ (s.keepFirst r).dma = s.dma ∧ (s.keepFirst r).seqt = s.seqt ∧
    (s.keepFirst r).pic = s.pic ∧ (s.keepFirst r).mic = s.mic ∧ (s.keepFirst r).cam = s.cam ∧ (s.keepFirst r).sets = s.sets ∧
    (s.keepFirst r).vil = s.vil ∧ (s.keepFirst r).pwr = s.pwr ∧ (s.keepFirst r).lkt = s.lkt ∧ (s.keepFirst r).sec = s.sec ∧
    (s.keepFirst r).flash = s.flash ∧ (s.keepFirst r).emmc = s.emmc ∧ (s.keepFirst r).boot = s.boot ∧ (s.keepFirst r).pci = s.pci ∧
    (s.keepFirst r).mgt = s.mgt ∧ (s.keepFirst r).tap = s.tap ∧ (s.keepFirst r).pins = s.pins :=
  by
  unfold State.keepFirst; dsimp only; (repeat' split) <;> simp

@[simp] theorem State.nextSeq_frame (s : State) :
    (s.nextSeq).pending = s.pending ∧ (s.nextSeq).timeUs = s.timeUs ∧ (s.nextSeq).fresh = s.fresh ∧ (s.nextSeq).epoch = s.epoch ∧
    (s.nextSeq).bus = s.bus ∧ (s.nextSeq).staged = s.staged ∧ (s.nextSeq).captured = s.captured ∧ (s.nextSeq).written = s.written ∧
    (s.nextSeq).mem = s.mem ∧ (s.nextSeq).lost = s.lost ∧ (s.nextSeq).badLines = s.badLines ∧ (s.nextSeq).cap = s.cap ∧
    (s.nextSeq).domains = s.domains ∧ (s.nextSeq).groves = s.groves ∧ (s.nextSeq).ctxs = s.ctxs ∧ (s.nextSeq).plan = s.plan ∧
    (s.nextSeq).mode = s.mode ∧ (s.nextSeq).tick = s.tick ∧ (s.nextSeq).ddr = s.ddr ∧ (s.nextSeq).pages = s.pages ∧
    (s.nextSeq).tiers = s.tiers ∧ (s.nextSeq).dma = s.dma ∧ (s.nextSeq).seqt = s.seqt ∧ (s.nextSeq).pic = s.pic ∧
    (s.nextSeq).mic = s.mic ∧ (s.nextSeq).cam = s.cam ∧ (s.nextSeq).sets = s.sets ∧ (s.nextSeq).vil = s.vil ∧ (s.nextSeq).pwr = s.pwr ∧
    (s.nextSeq).lkt = s.lkt ∧ (s.nextSeq).sec = s.sec ∧ (s.nextSeq).flash = s.flash ∧ (s.nextSeq).emmc = s.emmc ∧
    (s.nextSeq).boot = s.boot ∧ (s.nextSeq).pci = s.pci ∧ (s.nextSeq).mgt = s.mgt ∧ (s.nextSeq).tap = s.tap ∧ (s.nextSeq).pins = s.pins :=
  by
  unfold State.nextSeq; dsimp only; split <;> simp

@[simp] theorem State.storeOrQueue_frame (s : State) (r : Record) :
    (s.storeOrQueue r).pending = s.pending ∧ (s.storeOrQueue r).timeUs = s.timeUs ∧ (s.storeOrQueue r).fresh = s.fresh ∧
    (s.storeOrQueue r).epoch = s.epoch ∧ (s.storeOrQueue r).bus = s.bus ∧ (s.storeOrQueue r).staged = s.staged ∧
    (s.storeOrQueue r).captured = s.captured ∧ (s.storeOrQueue r).written = s.written ∧ (s.storeOrQueue r).mem = s.mem ∧
    (s.storeOrQueue r).lost = s.lost ∧ (s.storeOrQueue r).badLines = s.badLines ∧ (s.storeOrQueue r).cap = s.cap ∧
    (s.storeOrQueue r).domains = s.domains ∧ (s.storeOrQueue r).groves = s.groves ∧ (s.storeOrQueue r).ctxs = s.ctxs ∧
    (s.storeOrQueue r).plan = s.plan ∧ (s.storeOrQueue r).mode = s.mode ∧ (s.storeOrQueue r).tick = s.tick ∧
    (s.storeOrQueue r).ddr = s.ddr ∧ (s.storeOrQueue r).pages = s.pages ∧ (s.storeOrQueue r).tiers = s.tiers ∧
    (s.storeOrQueue r).dma = s.dma ∧ (s.storeOrQueue r).seqt = s.seqt ∧ (s.storeOrQueue r).pic = s.pic ∧
    (s.storeOrQueue r).mic = s.mic ∧ (s.storeOrQueue r).cam = s.cam ∧ (s.storeOrQueue r).sets = s.sets ∧
    (s.storeOrQueue r).vil = s.vil ∧ (s.storeOrQueue r).pwr = s.pwr ∧ (s.storeOrQueue r).lkt = s.lkt ∧ (s.storeOrQueue r).sec = s.sec ∧
    (s.storeOrQueue r).flash = s.flash ∧ (s.storeOrQueue r).emmc = s.emmc ∧ (s.storeOrQueue r).boot = s.boot ∧
    (s.storeOrQueue r).pci = s.pci ∧ (s.storeOrQueue r).mgt = s.mgt ∧ (s.storeOrQueue r).tap = s.tap ∧ (s.storeOrQueue r).pins = s.pins :=
  by
  unfold State.storeOrQueue; dsimp only; split <;> simp

@[simp] theorem State.number_frame (s : State) (r : Record) :
    (s.number r).pending = s.pending ∧ (s.number r).timeUs = s.timeUs ∧ (s.number r).fresh = s.fresh ∧ (s.number r).epoch = s.epoch ∧
    (s.number r).bus = s.bus ∧ (s.number r).staged = s.staged ∧ (s.number r).captured = s.captured ∧ (s.number r).written = s.written ∧
    (s.number r).mem = s.mem ∧ (s.number r).lost = s.lost ∧ (s.number r).badLines = s.badLines ∧ (s.number r).cap = s.cap ∧
    (s.number r).domains = s.domains ∧ (s.number r).groves = s.groves ∧ (s.number r).ctxs = s.ctxs ∧ (s.number r).plan = s.plan ∧
    (s.number r).mode = s.mode ∧ (s.number r).tick = s.tick ∧ (s.number r).ddr = s.ddr ∧ (s.number r).pages = s.pages ∧
    (s.number r).tiers = s.tiers ∧ (s.number r).dma = s.dma ∧ (s.number r).seqt = s.seqt ∧ (s.number r).pic = s.pic ∧
    (s.number r).mic = s.mic ∧ (s.number r).cam = s.cam ∧ (s.number r).sets = s.sets ∧ (s.number r).vil = s.vil ∧
    (s.number r).pwr = s.pwr ∧ (s.number r).lkt = s.lkt ∧ (s.number r).sec = s.sec ∧ (s.number r).flash = s.flash ∧
    (s.number r).emmc = s.emmc ∧ (s.number r).boot = s.boot ∧ (s.number r).pci = s.pci ∧ (s.number r).mgt = s.mgt ∧
    (s.number r).tap = s.tap ∧ (s.number r).pins = s.pins :=
  by
  unfold State.number; dsimp only; split <;> simp

@[simp] theorem State.record_frame (s : State) (r : Record) :
    (s.record r).pending = s.pending ∧ (s.record r).timeUs = s.timeUs ∧ (s.record r).fresh = s.fresh ∧ (s.record r).epoch = s.epoch ∧
    (s.record r).bus = s.bus ∧ (s.record r).staged = s.staged ∧ (s.record r).captured = s.captured ∧ (s.record r).written = s.written ∧
    (s.record r).mem = s.mem ∧ (s.record r).lost = s.lost ∧ (s.record r).badLines = s.badLines ∧ (s.record r).cap = s.cap ∧
    (s.record r).domains = s.domains ∧ (s.record r).groves = s.groves ∧ (s.record r).ctxs = s.ctxs ∧ (s.record r).plan = s.plan ∧
    (s.record r).mode = s.mode ∧ (s.record r).tick = s.tick ∧ (s.record r).ddr = s.ddr ∧ (s.record r).pages = s.pages ∧
    (s.record r).tiers = s.tiers ∧ (s.record r).dma = s.dma ∧ (s.record r).seqt = s.seqt ∧ (s.record r).pic = s.pic ∧
    (s.record r).mic = s.mic ∧ (s.record r).cam = s.cam ∧ (s.record r).sets = s.sets ∧ (s.record r).vil = s.vil ∧
    (s.record r).pwr = s.pwr ∧ (s.record r).lkt = s.lkt ∧ (s.record r).sec = s.sec ∧ (s.record r).flash = s.flash ∧
    (s.record r).emmc = s.emmc ∧ (s.record r).boot = s.boot ∧ (s.record r).pci = s.pci ∧ (s.record r).mgt = s.mgt ∧
    (s.record r).tap = s.tap ∧ (s.record r).pins = s.pins :=
  by
  unfold State.record; dsimp only; (repeat' split) <;> simp

@[simp] theorem State.report_frame (s : State) (code src : Nat) (args : List Nat) (ctx stream : Option Nat) :
    (s.report code src args ctx stream).pending = s.pending ∧ (s.report code src args ctx stream).timeUs = s.timeUs ∧
    (s.report code src args ctx stream).fresh = s.fresh ∧ (s.report code src args ctx stream).epoch = s.epoch ∧
    (s.report code src args ctx stream).bus = s.bus ∧ (s.report code src args ctx stream).staged = s.staged ∧
    (s.report code src args ctx stream).captured = s.captured ∧ (s.report code src args ctx stream).written = s.written ∧
    (s.report code src args ctx stream).mem = s.mem ∧ (s.report code src args ctx stream).lost = s.lost ∧
    (s.report code src args ctx stream).badLines = s.badLines ∧ (s.report code src args ctx stream).cap = s.cap ∧
    (s.report code src args ctx stream).domains = s.domains ∧ (s.report code src args ctx stream).groves = s.groves ∧
    (s.report code src args ctx stream).ctxs = s.ctxs ∧ (s.report code src args ctx stream).plan = s.plan ∧
    (s.report code src args ctx stream).mode = s.mode ∧ (s.report code src args ctx stream).tick = s.tick ∧
    (s.report code src args ctx stream).ddr = s.ddr ∧ (s.report code src args ctx stream).pages = s.pages ∧
    (s.report code src args ctx stream).tiers = s.tiers ∧ (s.report code src args ctx stream).dma = s.dma ∧
    (s.report code src args ctx stream).seqt = s.seqt ∧ (s.report code src args ctx stream).pic = s.pic ∧
    (s.report code src args ctx stream).mic = s.mic ∧ (s.report code src args ctx stream).cam = s.cam ∧
    (s.report code src args ctx stream).sets = s.sets ∧ (s.report code src args ctx stream).vil = s.vil ∧
    (s.report code src args ctx stream).pwr = s.pwr ∧ (s.report code src args ctx stream).lkt = s.lkt ∧
    (s.report code src args ctx stream).sec = s.sec ∧ (s.report code src args ctx stream).flash = s.flash ∧
    (s.report code src args ctx stream).emmc = s.emmc ∧ (s.report code src args ctx stream).boot = s.boot ∧
    (s.report code src args ctx stream).pci = s.pci ∧ (s.report code src args ctx stream).mgt = s.mgt ∧
    (s.report code src args ctx stream).tap = s.tap ∧ (s.report code src args ctx stream).pins = s.pins :=
  by
  unfold State.report; simp

@[simp] theorem State.reportOwn_frame (s : State) (group k site : Nat) (ctx stream : Option Nat) :
    (s.reportOwn group k site ctx stream).pending = s.pending ∧ (s.reportOwn group k site ctx stream).timeUs = s.timeUs ∧
    (s.reportOwn group k site ctx stream).fresh = s.fresh ∧ (s.reportOwn group k site ctx stream).epoch = s.epoch ∧
    (s.reportOwn group k site ctx stream).bus = s.bus ∧ (s.reportOwn group k site ctx stream).staged = s.staged ∧
    (s.reportOwn group k site ctx stream).captured = s.captured ∧ (s.reportOwn group k site ctx stream).written = s.written ∧
    (s.reportOwn group k site ctx stream).mem = s.mem ∧ (s.reportOwn group k site ctx stream).lost = s.lost ∧
    (s.reportOwn group k site ctx stream).badLines = s.badLines ∧ (s.reportOwn group k site ctx stream).cap = s.cap ∧
    (s.reportOwn group k site ctx stream).domains = s.domains ∧ (s.reportOwn group k site ctx stream).groves = s.groves ∧
    (s.reportOwn group k site ctx stream).ctxs = s.ctxs ∧ (s.reportOwn group k site ctx stream).plan = s.plan ∧
    (s.reportOwn group k site ctx stream).mode = s.mode ∧ (s.reportOwn group k site ctx stream).tick = s.tick ∧
    (s.reportOwn group k site ctx stream).ddr = s.ddr ∧ (s.reportOwn group k site ctx stream).pages = s.pages ∧
    (s.reportOwn group k site ctx stream).tiers = s.tiers ∧ (s.reportOwn group k site ctx stream).dma = s.dma ∧
    (s.reportOwn group k site ctx stream).seqt = s.seqt ∧ (s.reportOwn group k site ctx stream).pic = s.pic ∧
    (s.reportOwn group k site ctx stream).mic = s.mic ∧ (s.reportOwn group k site ctx stream).cam = s.cam ∧
    (s.reportOwn group k site ctx stream).sets = s.sets ∧ (s.reportOwn group k site ctx stream).vil = s.vil ∧
    (s.reportOwn group k site ctx stream).pwr = s.pwr ∧ (s.reportOwn group k site ctx stream).lkt = s.lkt ∧
    (s.reportOwn group k site ctx stream).sec = s.sec ∧ (s.reportOwn group k site ctx stream).flash = s.flash ∧
    (s.reportOwn group k site ctx stream).emmc = s.emmc ∧ (s.reportOwn group k site ctx stream).boot = s.boot ∧
    (s.reportOwn group k site ctx stream).pci = s.pci ∧ (s.reportOwn group k site ctx stream).mgt = s.mgt ∧
    (s.reportOwn group k site ctx stream).tap = s.tap ∧ (s.reportOwn group k site ctx stream).pins = s.pins :=
  by
  unfold State.reportOwn; simp

@[simp] theorem State.lookout_frame (s : State) (k d : Nat) (g c x : Option Nat) :
    (s.lookout k d g c x).pending = s.pending ∧ (s.lookout k d g c x).timeUs = s.timeUs ∧ (s.lookout k d g c x).fresh = s.fresh ∧
    (s.lookout k d g c x).epoch = s.epoch ∧ (s.lookout k d g c x).bus = s.bus ∧ (s.lookout k d g c x).staged = s.staged ∧
    (s.lookout k d g c x).captured = s.captured ∧ (s.lookout k d g c x).written = s.written ∧ (s.lookout k d g c x).mem = s.mem ∧
    (s.lookout k d g c x).lost = s.lost ∧ (s.lookout k d g c x).badLines = s.badLines ∧ (s.lookout k d g c x).cap = s.cap ∧
    (s.lookout k d g c x).domains = s.domains ∧ (s.lookout k d g c x).groves = s.groves ∧ (s.lookout k d g c x).ctxs = s.ctxs ∧
    (s.lookout k d g c x).plan = s.plan ∧ (s.lookout k d g c x).mode = s.mode ∧ (s.lookout k d g c x).tick = s.tick ∧
    (s.lookout k d g c x).ddr = s.ddr ∧ (s.lookout k d g c x).pages = s.pages ∧ (s.lookout k d g c x).tiers = s.tiers ∧
    (s.lookout k d g c x).dma = s.dma ∧ (s.lookout k d g c x).seqt = s.seqt ∧ (s.lookout k d g c x).pic = s.pic ∧
    (s.lookout k d g c x).mic = s.mic ∧ (s.lookout k d g c x).cam = s.cam ∧ (s.lookout k d g c x).sets = s.sets ∧
    (s.lookout k d g c x).vil = s.vil ∧ (s.lookout k d g c x).pwr = s.pwr ∧ (s.lookout k d g c x).lkt = s.lkt ∧
    (s.lookout k d g c x).sec = s.sec ∧ (s.lookout k d g c x).flash = s.flash ∧ (s.lookout k d g c x).emmc = s.emmc ∧
    (s.lookout k d g c x).boot = s.boot ∧ (s.lookout k d g c x).pci = s.pci ∧ (s.lookout k d g c x).mgt = s.mgt ∧
    (s.lookout k d g c x).tap = s.tap ∧ (s.lookout k d g c x).pins = s.pins :=
  by
  unfold State.lookout; simp

/-! ### Registers -/

theorem tfind_tputD {α : Type} [DecidableEq α] (d : α) (t : Tbl α) (k j : Nat) (v : α) :
    (tfind (tputD d t k v) j).getD d = if j = k then v else (tfind t j).getD d := by
  unfold tputD
  split
  · subst_vars; split
    · subst_vars; simp
    · rename_i h; rw [tfind_tdel_other _ h]
  · split
    · subst_vars; simp
    · rename_i h; rw [tfind_tput_other _ _ h]

/-- A register written holds the value's low 32 bits; every other register is as it was. -/
@[simp] theorem State.reg_setReg (s : State) (k v j : Nat) : (s.setReg k v).reg j = if j = k then BitVec.ofNat 32 v else s.reg j := by
  unfold State.reg State.setReg
  by_cases h : j = k
  · subst h; rw [if_pos rfl]; have := tfind_tputD (regReset j) s.regs j j (BitVec.ofNat 32 v); rwa [if_pos rfl] at this
  · rw [if_neg h]; dsimp only; unfold tputD; split
    · rw [tfind_tdel_other _ h]
    · rw [tfind_tput_other _ _ h]

@[simp] theorem State.rn_setReg (s : State) (k v j : Nat) : (s.setReg k v).rn j = if j = k then v % 2 ^ 32 else s.rn j := by
  unfold State.rn; rw [State.reg_setReg]; split <;> simp

@[simp] theorem State.rn_setRf (s : State) (k lo w v j : Nat) :
    (s.setRf k lo w v).rn j = if j = k then setFld (s.rn k) lo w v % 2 ^ 32 else s.rn j := by
  unfold State.setRf; simp

@[simp] theorem State.rn_setRb (s : State) (k n : Nat) (b : Bool) (j : Nat) :
    (s.setRb k n b).rn j = if j = k then setFld (s.rn k) n 1 (b2n b) % 2 ^ 32 else s.rn j := by
  unfold State.setRb; simp

theorem State.rn_setReg_other (s : State) {k j : Nat} (v : Nat) (h : j ≠ k) : (s.setReg k v).rn j = s.rn j := by
  rw [State.rn_setReg, if_neg h]

theorem State.rn_setRb_other (s : State) {k j : Nat} (n : Nat) (b : Bool) (h : j ≠ k) : (s.setRb k n b).rn j = s.rn j :=
  State.rn_setReg_other _ _ h

theorem State.rn_evt_other (s : State) {k j : Nat} (n : Nat) (h : j ≠ k) : (s.evt k n).rn j = s.rn j := by
  unfold State.evt; split
  · exact State.rn_setReg_other _ _ h
  · rfl

theorem State.rn_put_other (s : State) {k j : Nat} (v : Nat) (h : j ≠ k) : (s.put k v).rn j = s.rn j := by
  unfold State.put; split
  · exact State.rn_setReg_other _ _ h
  · rfl

theorem State.rn_put_live (s : State) {k : Nat} (v : Nat) (h : s.blockLive (k / 0x10000) = true) : (s.put k v).rn k = v % 2 ^ 32 := by
  unfold State.put; rw [if_pos h, State.rn_setReg, if_pos rfl]

theorem State.rn_putF_other (s : State) {k j : Nat} (lo w v : Nat) (h : j ≠ k) : (s.putF k lo w v).rn j = s.rn j := by
  unfold State.putF; split
  · exact State.rn_setReg_other _ _ h
  · rfl

theorem State.rn_count_other (s : State) {k j : Nat} (n : Nat) (h : j ≠ k) : (s.count k n).rn j = s.rn j := by
  unfold State.count; split
  · exact State.rn_setReg_other _ _ h
  · rfl

theorem ne_of_block {j k b : Nat} (h : j / 0x10000 ≠ b) (e : k / 0x10000 = b) : j ≠ k := fun q => h (q ▸ e)

theorem State.rn_storeLast (s : State) (r : Record) {j : Nat} (h : j / 0x10000 ≠ 3) : (s.storeLast r).rn j = s.rn j := by
  unfold State.storeLast
  rw [State.rn_setRb_other _ _ _ (ne_of_block h (by decide))]
  split
  · exact State.rn_setRb_other _ _ _ (ne_of_block h (by decide))
  · rfl

theorem State.rn_keepFirst (s : State) (r : Record) {j : Nat} (h : j / 0x10000 ≠ 3) : (s.keepFirst r).rn j = s.rn j := by
  unfold State.keepFirst
  have l2 : j ≠ Reg.EVR_EVT := ne_of_block h (by decide)
  have l3 : j ≠ Reg.EVR_STATUS := ne_of_block h (by decide)
  split
  · dsimp only; split
    · rw [State.rn_setRb_other _ _ _ l2, State.rn_setRb_other _ _ _ l3, State.rn_setRb_other _ _ _ l2]; rfl
    · rw [State.rn_setRb_other _ _ _ l2]; rfl
  · rfl

theorem State.rn_nextSeq (s : State) {j : Nat} (h : j / 0x10000 ≠ 3) : s.nextSeq.rn j = s.rn j := by
  unfold State.nextSeq
  have l3 : j ≠ Reg.EVR_STATUS := ne_of_block h (by decide)
  have l4 : j ≠ Reg.EVR_HEAD := ne_of_block h (by decide)
  dsimp only; split
  · rw [State.rn_setRb_other _ _ _ l3, State.rn_setReg_other _ _ l4]; rfl
  · rw [State.rn_setReg_other _ _ l4]; rfl

theorem State.rn_storeOrQueue (s : State) (r : Record) {j : Nat} (h : j / 0x10000 ≠ 3) : (s.storeOrQueue r).rn j = s.rn j := by
  unfold State.storeOrQueue
  split
  · exact State.rn_storeLast _ _ h
  · exact State.rn_setReg_other _ _ (ne_of_block h (by decide))

/-- The event recorder writes no register of another block than its own. -/
theorem State.rn_number (s : State) (r : Record) {j : Nat} (h : j / 0x10000 ≠ 3) : (s.number r).rn j = s.rn j := by
  unfold State.number
  dsimp only; split
  · exact (State.rn_setRb_other _ _ _ (ne_of_block h (by decide))).trans (State.rn_setReg_other _ _ (ne_of_block h (by decide)))
  · rw [State.rn_storeOrQueue _ _ h, State.rn_nextSeq _ h, State.rn_keepFirst _ _ h]

theorem State.rn_record (s : State) (r : Record) {j : Nat} (h : j / 0x10000 ≠ 3) : (s.record r).rn j = s.rn j := by
  unfold State.record
  split
  · dsimp only; split
    · exact State.rn_number _ _ h
    · exact State.rn_setReg_other _ _ (ne_of_block h (by decide))
  · exact State.rn_number _ _ h

theorem State.rn_report (s : State) (code src : Nat) (args : List Nat) (ctx stream : Option Nat) {j : Nat} (h : j / 0x10000 ≠ 3) :
    (s.report code src args ctx stream).rn j = s.rn j := State.rn_record _ _ h

theorem State.rn_reportOwn (s : State) (group k site : Nat) (ctx stream : Option Nat) {j : Nat} (h : j / 0x10000 ≠ 3) :
    (s.reportOwn group k site ctx stream).rn j = s.rn j := State.rn_report _ _ _ _ _ _ h

/-! ### Memory -/

theorem lostEpoch_cut_outside {lo hi x : Nat} (h : x < lo ∨ hi ≤ x) (rs : List LostRange) :
    lostEpoch (cutLost lo hi rs) x = lostEpoch rs x := by
  induction rs with
  | nil => rfl
  | cons r rs ih =>
    unfold cutLost
    split
    · simp only [lostEpoch, ih]
    · rename_i hc
      by_cases h1 : r.start < lo <;> by_cases h2 : hi < r.stop <;> simp only [h1, h2, if_true, if_false, List.nil_append,
        List.cons_append, lostEpoch, ih]
      all_goals (repeat' split) <;> first | rfl | omega

theorem lostEpoch_cut_inside {lo hi x : Nat} (h : lo ≤ x ∧ x < hi) (rs : List LostRange) : lostEpoch (cutLost lo hi rs) x = none := by
  induction rs with
  | nil => rfl
  | cons r rs ih =>
    unfold cutLost
    split
    · rename_i hc
      simp only [lostEpoch, ih]
      rw [if_neg (by omega)]
    · by_cases h1 : r.start < lo <;> by_cases h2 : hi < r.stop <;> simp only [h1, h2, if_true, if_false, List.nil_append,
        List.cons_append, lostEpoch, ih]
      all_goals (repeat' split) <;> first | rfl | omega

theorem tfind_putCells_outside (bs : List Byte) : ∀ (m : List Host.Cell) (a x : Nat), x < a ∨ a + bs.length ≤ x →
    tfind (putCells m a bs) x = tfind m x := by
  induction bs with
  | nil => intro m a x _; rfl
  | cons b bs ih =>
    intro m a x h
    simp only [List.length_cons] at h
    show tfind (putCells (tputD 0 m a b) (a + 1) bs) x = _
    rw [ih _ _ _ (by omega)]
    unfold tputD
    split
    · exact tfind_tdel_other _ (by omega)
    · exact tfind_tput_other _ _ (by omega)

theorem tfind_putCells_inside (bs : List Byte) : ∀ (m : List Host.Cell) (a i : Nat) (h : i < bs.length),
    (tfind (putCells m a bs) (a + i)).getD 0 = bs[i] := by
  induction bs with
  | nil => intro m a i h; exact absurd h (Nat.not_lt_zero _)
  | cons b bs ih =>
    intro m a i h
    show (tfind (putCells (tputD 0 m a b) (a + 1) bs) (a + i)).getD 0 = _
    cases i with
    | zero =>
      rw [tfind_putCells_outside _ _ _ _ (by omega), tfind_tputD, if_pos (by omega)]; rfl
    | succ i =>
      have := ih (tputD 0 m a b) (a + 1) i (by simpa using h)
      rw [show a + (i + 1) = a + 1 + i by omega, this]; rfl

/-- A byte outside the bytes stored reads as before. -/
theorem State.rd8_wrBytes_outside (s : State) (a : Nat) (bs : List Byte) {x : Nat} (h : x < a ∨ a + bs.length ≤ x) :
    (s.wrBytes a bs).rd8 x = s.rd8 x := by
  unfold State.wrBytes
  split
  · rfl
  · unfold State.rd8 State.unlisted
    dsimp only
    rw [tfind_putCells_outside _ _ _ _ h, lostEpoch_cut_outside h]

/-- A byte stored above the control ROM reads as it was stored. -/
theorem State.rd8_wrBytes_inside (s : State) (a : Nat) (bs : List Byte) (ha : 0x3FFFF < a) {i : Nat} (h : i < bs.length) :
    (s.wrBytes a bs).rd8 (a + i) = bs[i] := by
  unfold State.wrBytes
  split
  · rename_i he; cases bs with
    | nil => exact absurd h (Nat.not_lt_zero _)
    | cons _ _ => simp at he
  · unfold State.rd8 State.unlisted
    dsimp only
    rw [if_neg (by omega), lostEpoch_cut_inside ⟨by omega, by omega⟩]
    exact tfind_putCells_inside bs s.mem a i h

end Sys2Proof.Machine
end

