-- ==== Sys2Proof/Machine/Flags.lean ====
section
/-! DEFINITION. Interrupt lines: an event register's bits under its enable register (the IRQ_EN rows of the register maps),
the PCIe vectors (R432) and the HOST_WAKE ball (R301). The device has no arithmetic flags. -/
namespace Sys2Proof.Machine
open Sys2Proof

/-- The interrupt of an event register `evtReg`, its enable register standing at the next word: some enabled event bit is set
while the block answers (R376: the interrupts of a domain in reset are deasserted). -/
def State.irq (s : State) (evtReg : Nat) : Bool :=
  s.blockLive (evtReg / 0x10000) && (s.rn evtReg &&& s.rn (evtReg + 4)) != 0

/-- The event registers of every block that has one. -/
def eventRegisters : List Nat :=
  [Reg.MODE_EVT, Reg.TICK_EVT, Reg.PAGE_EVT, Reg.SEQ_EVT, Reg.TIER_EVT, Reg.DMA_EVT, Reg.DDR_EVT, Reg.VIN_EVT, Reg.VOUT_EVT,
   Reg.RCMP_EVT, Reg.MIC_EVT, Reg.DAWN_EVT, Reg.CAM_EVT, Reg.IPL_EVT, Reg.VIL_EVT 0, Reg.VIL_EVT 1, Reg.PWR_EVT, Reg.LKT_EVT,
   Reg.SEC_EVT, Reg.EVR_EVT, Reg.PCI_EVT, Reg.MGT_EVT] ++ (List.range 16).map Reg.GRV_EVT

/-- The event registers whose interrupt is raised; MODE_EVT has no enable register (Table 2.9), so it raises none. -/
def State.irqLines (s : State) : List Nat := eventRegisters.filter (fun k => k != Reg.MODE_EVT && s.irq k)

/-- PCIe vector 128 signals PCI_EVT (R432). -/
def State.vector128 (s : State) : Bool := s.irq Reg.PCI_EVT
/-- The HOST_WAKE ball, and PCIe vector 129, follow DAWN_HOST_WAKE.ASSERTED (R301, R432). -/
def State.hostWake (s : State) : Bool := s.rb Reg.DAWN_HOST_WAKE 0

end Sys2Proof.Machine
end

