-- ==== Sys2Proof/WellFormed.lean ====
section
/-! DEFINITION. Which commands an environment can give: operands within the widths that the spec's tables give them. `exec` is total on
every command; well-formedness says which terms stand for something a device can meet. -/
namespace Sys2Proof

/-- An access: 1, 2, 4 or 8 bytes, or, on memory, up to a line of 64 bytes, within the 40-bit address space, its value within its
bytes (R5, R17). -/
def accessOk (addr size value : Nat) : Bool :=
  decide (1 ≤ size) && decide (size ≤ 64) && decide (addr + size ≤ 2 ^ 40) && decide (value < 2 ^ (8 * size))

/-- A register write: 8, 16, 32 or 64 bits (R5). -/
def registerAccessOk (addr size value : Nat) : Bool :=
  (size == 1 || size == 2 || size == 4 || size == 8) && decide (addr + size ≤ 2 ^ 40) && decide (value < 2 ^ (8 * size))

/-- A flit: every field within its bits, and PLEN payload bytes, at most 240 (Table 16.1). -/
def Flit.ok (f : Flit) : Bool :=
  decide (f.seq < 4096) && decide (f.ack < 4096) && decide (f.stream < 32) && decide (f.xid < 16) && decide (f.gen < 4096)
    && decide (f.buf < 256) && decide (f.offset < 2 ^ 24) && decide (f.plen ≤ 240) && decide (f.payload.length ≤ 240)

/-- A management datagram: SEQ of 32 bits, BODY_LEN up to 1,280, a signature of two 48-byte numbers (Table 22.6). -/
def Datagram.ok (d : Datagram) : Bool :=
  decide (d.seq < 2 ^ 32) && decide (d.payload.length ≤ 1280) && decide (d.sigR < 2 ^ 384) && decide (d.sigS < 2 ^ 384)

/-- A video timing: the active picture within the total, the codes within their fields (Tables 13.8 and 13.9). -/
def VideoTiming.ok (t : VideoTiming) : Bool :=
  decide (0 < t.activeW) && decide (t.activeW < t.totalW) && decide (t.totalW < 65536) && decide (0 < t.activeH)
    && decide (t.activeH < t.totalH) && decide (t.totalH < 65536) && decide (0 < t.frameMhz)
    && decide (t.enc < 4) && decide (t.depth < 3) && decide (t.colorimetry < 2)

/-- An event report: a code other than 0x0000, within 16 bits, at most four 32-bit arguments (R411, Table 20.1). -/
def EventReport.ok (e : EventReport) : Bool :=
  decide (0 < e.code) && decide (e.code < 65536) && decide (e.src < 256) && decide (e.args.length ≤ 4)
    && e.args.all (fun a => decide (a < 2 ^ 32))

/-- A row of samples: three planes of 16-bit codes at most. -/
def rowOk (planes : List (List Nat)) : Bool := decide (planes.length ≤ 3) && planes.all (fun p => p.all (fun x => decide (x < 65536)))

/-- Whether a command's operands lie within what the spec gives them. Operands typed by their range (a Grove, a context, a
register value) need no check. -/
def Instr.wf (i : Instr) : Bool :=
  match i with
  | .registerWrite _ addr size value => registerAccessOk addr size value
  | .memoryAccess _ _ addr size value symbols => accessOk addr size value && decide (symbols ≤ 18)
  | .pcieInboundAccess _ _ offset size value => accessOk offset size value
  | .coldStart step => decide (1 ≤ step) && decide (step ≤ 10)
  | .swapComplete _ us => decide (us < 2 ^ 32)
  | .micFrame xs => decide (xs.length ≤ 4) && xs.all (fun x => decide (-32768 ≤ x) && decide (x ≤ 32767))
  | .hdmiLinkLock t => t.ok
  | .timingChange t => t.ok
  | .inputRow planes _ => rowOk planes
  | .camFrameEnd rows => rows.all (fun r => r.all (fun x => decide (x < 65536)))
  | .infoframeCapture _ bytes => decide (bytes.length ≤ 32)
  | .flitIdle _ f => f.ok
  | .flitWrite _ f => f.ok
  | .flitReadReq _ f => f.ok
  | .flitReadData _ f => f.ok
  | .flitHello _ f => f.ok
  | .flitRing _ f => f.ok
  | .flitStatus _ f => f.ok
  | .flitTick _ f => f.ok
  | .reservedFlit _ type f => decide (8 ≤ type) && decide (type < 16) && f.ok
  | .badFlit _ _ f => f.ok
  | .thermalSample ts => decide (ts.length ≤ 8)
  | .eventRecord e => e.ok
  | .mgtHello d => d.ok
  | .mgtOpen d => d.ok
  | .mgtEnroll d => d.ok
  | .mgtClose d => d.ok
  | .mgtLogRead d => d.ok
  | .mgtAttest d => d.ok
  | .mgtCert d => d.ok
  | .mgtReset d => d.ok
  | .mgtTest d => d.ok
  | .mgtUpdate d => d.ok
  | .mgtCredSet d => d.ok
  | .mgtPlankey d => d.ok
  | .arpRequest mac ip target => decide (mac < 2 ^ 48) && decide (ip < 2 ^ 32) && decide (target < 2 ^ 32)
  | .icmpEchoRequest target rest => decide (target < 2 ^ 32) && decide (rest.length ≤ 1496)
  | .sysDomainReq _ _ => true
  | .domainReset _ => true
  | .domainRelease _ => true
  | .powerOnReset => true
  | .externalReset _ => true
  | .ddrTraining _ => true
  | .ddrTrainingEnd => true
  | .ddrRestore _ _ => true
  | .planAdmission => true
  | .planReplacesRom => true
  | .planReadmission => true
  | .modeReq _ _ => true
  | .modeChangeTake => true
  | .modeWeightsResident => true
  | .modeSwitch => true
  | .tickBoundary => true
  | .hdmiFrameStart _ => true
  | .frameStartTimeout => true
  | .aliveTimerToggle => true
  | .doorbellWrite _ _ _ => true
  | .tileBoundary _ => true
  | .windowBoundary _ _ _ => true
  | .groveIdle _ => true
  | .schCtxSel _ _ => true
  | .schSwapMbps _ _ _ => true
  | .nop _ => true
  | .matmul _ => true
  | .conv _ => true
  | .poolMax _ => true
  | .poolAvg _ => true
  | .argmax _ => true
  | .ew _ => true
  | .scan _ => true
  | .attn _ => true
  | .moveBytes _ => true
  | .xfer _ => true
  | .waitXfers _ => true
  | .tally _ => true
  | .commandComplete _ _ => true
  | .capStop _ => true
  | .transferPiece _ => true
  | .transferComplete _ => true
  | .copyOnWrite _ _ => true
  | .frameDrainEnd _ => true
  | .listNew _ _ => true
  | .listFree _ _ => true
  | .listAppend _ _ => true
  | .listTruncate _ _ => true
  | .listFork _ _ => true
  | .listPublish _ _ => true
  | .poolAudit _ _ => true
  | .seqAdmit _ _ => true
  | .seqRetire _ _ => true
  | .seqHold _ _ => true
  | .seqRelease _ _ => true
  | .seqPrio _ _ => true
  | .seqEntSel _ _ => true
  | .seqSubmit _ _ _ => true
  | .seqOutack _ _ _ => true
  | .stepBuild _ => true
  | .seqGrpGo _ _ _ => true
  | .stepCompletion _ => true
  | .scheduledBoundary _ => true
  | .objNew _ _ => true
  | .objFree _ _ => true
  | .objPlace _ _ => true
  | .objFlush _ _ => true
  | .objectMoveDone _ => true
  | .objectDrainEnd _ => true
  | .ageEviction => true
  | .tierObjSel _ _ => true
  | .tierQuotaSel _ _ => true
  | .scrubLine _ => true
  | .hdmiLinkLoss => true
  | .inputLost => true
  | .bandDecision => true
  | .outputFrameStart => true
  | .dpLinkTrain _ _ _ => true
  | .dpTrainRetry _ => true
  | .dpSinkIrq _ => true
  | .voutMute _ _ => true
  | .bypCtrl _ _ => true
  | .vinHpd _ _ => true
  | .dawnHop _ => true
  | .biasFault _ => true
  | .micMute _ _ => true
  | .followTimeout => true
  | .cascadeVoteTimeout => true
  | .hostWakeHoldExpiry => true
  | .dawnHostWake _ _ => true
  | .camVsync => true
  | .camNoSignal => true
  | .iplCommit _ _ => true
  | .presenceMark => true
  | .presenceScore _ => true
  | .setEnable _ _ _ => true
  | .sampleDecodeDone _ _ _ _ => true
  | .batchWrite _ => true
  | .iplSetAck _ _ _ => true
  | .portTraining _ _ => true
  | .portTrainRetry _ _ => true
  | .ringWaitExpiry => true
  | .replayTimeout _ => true
  | .tickFlitTimeout => true
  | .peerTimeout _ => true
  | .pwrStateReq _ _ => true
  | .pwrVote _ _ _ => true
  | .s1Entry => true
  | .s2Entry => true
  | .s2Exit => true
  | .s3Entry => true
  | .s3Exit => true
  | .wakeInRise _ => true
  | .wakeTimerExpiry => true
  | .pmbusPowerGood => true
  | .pmbusTimeout => true
  | .pmbusRetry => true
  | .thermalDwellExpiry => true
  | .thermalHoldExpiry => true
  | .pgFail _ _ => true
  | .pgTimeout _ => true
  | .tileTimerExpiry _ => true
  | .lktGroveStuck _ => true
  | .lktDmaTimeout _ _ _ => true
  | .lktKernelWd => true
  | .lktServiceWd => true
  | .lktVideoStall => true
  | .lktMissLimit _ => true
  | .lktKickK _ _ => true
  | .lktKickS _ _ => true
  | .lktTileNs _ _ => true
  | .standingImageRewrite => true
  | .testTile _ _ _ => true
  | .lktTestReq _ _ => true
  | .testEnd _ _ => true
  | .mbxDoorbell _ _ _ => true
  | .ctxStart _ => true
  | .ctxStop _ => true
  | .ctxPrio _ => true
  | .winGrant _ => true
  | .winRevoke _ => true
  | .seqGroup _ => true
  | .pkgLoad _ => true
  | .mbxReset _ => true
  | .swapRate _ => true
  | .mbxTest _ => true
  | .camRing _ => true
  | .mbxAttest _ => true
  | .mbxCert _ => true
  | .qpBind _ => true
  | .updOpen _ => true
  | .updWrite _ => true
  | .updClose _ => true
  | .updCommit _ => true
  | .updAbort _ => true
  | .updStatus _ => true
  | .osRead _ => true
  | .osWrite _ => true
  | .rateWindowEnd => true
  | .evrSel _ _ _ => true
  | .perst => true
  | .flr => true
  | .pcieLinkDown => true
  | .pciObBase _ _ => true
  | .qppSqTail _ _ => true
  | .qppCqHead _ _ => true
  | .qpSqHead _ _ _ => true
  | .qpCqTail _ _ _ => true
  | .pciSqPend _ _ _ => true
  | .sessionTimeout => true
  | .tapExtest => true
  | .tapSamplePreload => true
  | .tapIdcode => true
  | .tapClamp => true
  | .tapHighz => true
  | .tapBypass => true
  | .powerUp => true
  | .powerGoodRise _ => true
  | .pmbAlert => true
  | .pcieLinkUp => true
  | .mgtLinkUp => true
  | .mgtLinkDown => true

end Sys2Proof
end

