-- ==== Sys2Proof/Tests/Slice0.lean ====
section
/-! SUPPORT. The model's own tests: ill-formed commands that are refused, values that the spec works out, and for every statement states
and operands that meet its hypotheses. -/
namespace Sys2Proof.Tests
open Sys2Proof Sys2Proof.Machine
set_option Elab.async false

/-! ### Small states -/

/-- The device with every domain ON and released, and memory that nothing has lost. -/
def up : State := { State.reset with domains := (List.range 9).map (fun d => (d, { inReset := false })), lost := [] }

/-! ### Ill-formed commands are refused -/

/-- A video timing of 3,840 by 2,160 at 60 Hz. -/
def uhd : VideoTiming :=
  { activeW := 3840, activeH := 2160, totalW := 4400, totalH := 2250, frameMhz := 60000, enc := 0, depth := 1, full := true,
    colorimetry := 1, dsc := false, vrr := false, allm := false, frlRate := 3, lanes := 4 }

/-- A datagram without a signature. -/
def dg (seq : Nat) (bs : List Byte) : Datagram := { seq := seq, payload := bs, sigR := 0, sigS := 0 }

theorem test_wf_accepts : (Instr.registerWrite .kernel 0x1000004 4 0xFFFFFFFF).wf = true ∧ (Instr.hdmiLinkLock uhd).wf = true
    ∧ (Instr.flitWrite 1 { flitZero with seq := 4095 }).wf = true ∧ (Instr.mgtHello (dg 0xFFFFFFFF [])).wf = true := by decide +kernel

theorem test_wf_refuses_sizes : (Instr.registerWrite .kernel 0 3 0).wf = false ∧ (Instr.registerWrite .kernel (2 ^ 40 - 3) 4 0).wf = false
    ∧ (Instr.registerWrite .kernel 0 1 256).wf = false ∧ (Instr.memoryAccess .service .read 0 65 0 0).wf = false
    ∧ (Instr.memoryAccess .service .read 0 0 0 0).wf = false ∧ (Instr.memoryAccess .service .write 0 4 0 19).wf = false
    ∧ (Instr.pcieInboundAccess 0 .read (2 ^ 40) 1 0).wf = false := by decide +kernel

theorem test_wf_refuses_ranges : (Instr.coldStart 0).wf = false ∧ (Instr.coldStart 11).wf = false
    ∧ (Instr.swapComplete 0 (2 ^ 32)).wf = false ∧ (Instr.thermalSample [0, 0, 0, 0, 0, 0, 0, 0, 0]).wf = false
    ∧ (Instr.eventRecord { code := 0, src := 0, ctx := none, stream := none, args := [] }).wf = false
    ∧ (Instr.eventRecord { code := 1, src := 0, ctx := none, stream := none, args := [0, 0, 0, 0, 0] }).wf = false
    ∧ (Instr.arpRequest (2 ^ 48) 0 0).wf = false ∧ (Instr.icmpEchoRequest (2 ^ 32) []).wf = false := by decide +kernel

theorem test_wf_refuses_samples : (Instr.micFrame [0, 0, 0, 0, 0]).wf = false ∧ (Instr.micFrame [32768]).wf = false
    ∧ (Instr.hdmiLinkLock { uhd with activeW := 4400 }).wf = false ∧ (Instr.timingChange { uhd with frameMhz := 0 }).wf = false
    ∧ (Instr.inputRow [[], [], [], []] false).wf = false ∧ (Instr.camFrameEnd [[65536]]).wf = false
    ∧ (Instr.infoframeCapture true (List.replicate 33 0)).wf = false := by decide +kernel

theorem test_wf_refuses_flits : (Instr.flitIdle 0 { flitZero with ack := 4096 }).wf = false
    ∧ (Instr.flitWrite 0 { flitZero with plen := 241 }).wf = false ∧ (Instr.flitReadReq 0 { flitZero with stream := 32 }).wf = false
    ∧ (Instr.flitReadData 0 { flitZero with xid := 16 }).wf = false ∧ (Instr.flitHello 0 { flitZero with gen := 4096 }).wf = false
    ∧ (Instr.flitRing 0 { flitZero with buf := 256 }).wf = false ∧ (Instr.flitStatus 0 { flitZero with offset := 2 ^ 24 }).wf = false
    ∧ (Instr.flitTick 0 { flitZero with seq := 4096 }).wf = false ∧ (Instr.reservedFlit 0 7 flitZero).wf = false
    ∧ (Instr.reservedFlit 0 16 flitZero).wf = false ∧ (Instr.badFlit 0 true { flitZero with seq := 4096 }).wf = false := by
  decide +kernel

theorem test_wf_refuses_datagrams : (Instr.mgtHello (dg (2 ^ 32) [])).wf = false
    ∧ (Instr.mgtOpen { dg 1 [] with sigR := 2 ^ 384 }).wf = false ∧ (Instr.mgtEnroll { dg 1 [] with sigS := 2 ^ 384 }).wf = false
    ∧ ([Instr.mgtClose, .mgtLogRead, .mgtAttest, .mgtCert, .mgtReset, .mgtTest, .mgtUpdate, .mgtCredSet, .mgtPlankey].all
        (fun f => !(f (dg 1 (List.replicate 1281 0))).wf)) = true := by decide +kernel

/-! ### Values that the spec works out -/

/-- R3 and its example: the address of a register. -/
theorem test_register_address : regAddr 0x2D0010 = 0x00402D0010 := by decide +kernel

/-- R28: a tag steps over 0x000. -/
theorem test_next_tag : nextTag 1 = 2 ∧ nextTag 0xFFF = 1 := by decide +kernel

/-- R458: the identification code. -/
theorem test_idcode : ∃ t, exec .tapIdcode up = .next t ∧ t.tap.data = 0x17140E6F := ⟨_, rfl, rfl⟩

/-- The four-channel board of chapter 1's example: usable bytes, and the end of the window. -/
theorem test_usable_bytes : ({ up with ddr := { trainDone := true, trainMask := 0xF }, pins := { population := 0, density := 0 } } : State).ddrUsable
    = 0x3C0000000 := by decide +kernel

/-- Table 3.1: N at a TICK_MAX of 2,160 and of 1,000. -/
theorem test_lock_n : (let m := fun t : Nat => ({ id := 0, roles := 0, opPoint := 0, tickMax := t, period := 1, cooler := 0, streamMask := 0 } : ModeRec)
    (lockN (m 2160) 24000, lockN (m 2160) 60000, lockN (m 2160) 59940, lockN (m 1000) 50000, lockN (m 1000) 24000)
      = (90, 36, 36, 20, 41) ∧ lockable (m 1000) 50000 = true ∧ lockable (m 1000) 24000 = false
      ∧ lockable (m 1000) 120000 = false ∧ tickCycles (m 2160) = 462962) := by decide +kernel

/-- Table 5.5: E4M3 and E2M1 codes as FP32, and the conversion of 1,635 / 512 to E4M3. -/
theorem test_formats : ([0x3C, 0xC5, 0x01, 0x7E].map (fun x => fp32Bits (decodeFmt 9 x)) = [0x3FC00000, 0xC0500000, 0x3B000000, 0x43E00000])
    ∧ ([2, 0xB, 7, 8].map (fun x => fp32Bits (decodeFmt 6 x)) = [0x3F800000, 0xBFC00000, 0x40C00000, 0x80000000])
    ∧ (convertOut 9 (.fin false 1635 (-9))).1 = 0x45 := by decide +kernel

/-- CRC-32 and SHA-384 of the strings that their standards give. -/
theorem test_digests : crc32 [0x31, 0x32, 0x33, 0x34, 0x35, 0x36, 0x37, 0x38, 0x39] = 0xCBF43926
    ∧ (sha384 [0x61, 0x62, 0x63]).take 8 = [0xCB, 0x00, 0x75, 0x3F, 0x45, 0xA3, 0x5E, 0x8B] := by decide +kernel

/-- Chapter 11's example: the control word of a tile's header, and the first values of a segment. -/
theorem test_segment : u32 (tileHeader 1 0 2064 0x252A5 0 false false []) 0 = 0x08100011
    ∧ ((decodeSegment 0 ([0x04, 0x54, 0x62] ++ List.replicate 126 0)).map (·.take 4)) = some [2, 0xFF, 0, 3] := by decide +kernel

/-- The words of a plan image without its signature: one mode, an exchange stream with one list of one NOP, quotas, one tenant, the
power policy and one Canopy region (Tables 2.1 to 2.19). -/
def planWords : List Nat :=
  [0x4E414C50, 0x10000, 0x7140, 0x4101, 0x1000, 7, 7, 0x100, 1, 0, 0x3E80000, 0x1004, 0, 0, 0, 0, 0x3020101, 0x7060504, 0xB0A0908,
   0xF0E0D0C, 0x13121110, 0x17161514, 0x1B1A1918, 0x1F1E1D1C, 0, 0, 0, 0, 0, 0, 0, 0, 0, 0, 0, 0, 0, 0, 0, 0, 0, 0, 0, 0, 0, 0, 0,
   0, 0, 0, 0, 0, 0, 0, 0, 0, 0, 0, 0, 0, 0, 0, 0, 0, 0x10001, 0x170, 0x40, 1, 0x10002, 0x1B0, 0x20, 1, 0x10003, 0x1D0, 0x40, 1,
   0x10005, 0x210, 0x90, 1, 0x10006, 0x2A0, 0x10, 1, 0x10007, 0x2B0, 0x20, 1, 0x10009, 0x2D0, 0x20, 1, 0, 9, 4, 0x3E8, 1, 0, 1, 0,
   0, 0, 0, 0, 0, 0, 0, 0, 0x400, 0, 0, 0, 0, 0, 0, 0, 0, 0x20, 1, 0, 0, 0, 0, 0, 0x40000, 0, 0, 0, 0, 0, 0, 0, 1, 0x10, 4, 0, 0,
   0, 0, 0, 0, 0, 0, 0, 0, 0, 0, 0, 0, 0, 0, 0, 0, 0, 0, 0, 0x64, 0x3E8, 1, 0, 0, 0, 0, 0, 5, 0x100000, 0, 0x64, 0x105, 0, 0x40, 0,
   0xD, 0x200, 0x5695F, 0x3E80064, 0, 0, 0, 0, 0, 1, 0, 0x1000, 0, 0, 0, 0]
/-- A signature that holds of the image by its key: r and s are the digest, and the key is chosen to it. -/
def planSig : Nat :=
  0x6B37418717B86A9C378A259909832881EA34E08083030F0660E18374779AE7D5E61CE2F03D1624902DE148F2C400EA54
def planKey : Nat × Nat :=
  (0x3D9B16672937AA9D92F3C0721AE1962C66A6484D52ECCAF1BC7AB05396A4B80DAE5C6EAC265975FA794A6FCD4807A7EC,
   0x8415625A9A4E2A6B0FC75BAF49456C08C9805C8D793823A095EBBC019F3BBB8E59D9DE7F217CBEFF1DB695C32BB503D2)
def planImage : List Byte :=
  padTo 0 3840 (planWords.flatMap (leBytes 4)) ++ leBytes 4 0x4E474953 ++ leBytes 4 0 ++ leBytes 8 1 ++ beBytes 48 planSig
    ++ beBytes 48 planSig ++ List.replicate 144 0
def planRead : Plan := parsePlan planImage []
theorem test_plan_reads : placementOk planImage = true ∧ sectionsPresent planImage = true ∧ sectionsOk planImage planRead = true
    ∧ planRead.version = 7 ∧ planRead.lists.map (·.cmds) = [[0x40000]] ∧ (planRead.mode 0).role 1 = .open := by decide +kernel
/-- Admission accepts the image under that key, with four channels of DDR5 at the base speed (R43). -/
theorem test_plan_admitted :
    (match checkImage
        { blank := false, slot := planImage, slotBytes := 28 * 2 ^ 20, keys := [keyBytes (some planKey), [], [], []]
          device := {}, rollback := 7, mask := 0xF, raw := 76800, installed := 16 * 2 ^ 30, area := 8 * 2 ^ 30, chip := 0 } with
     | .ok p => p.version == 7
     | .error _ => false) = true := by decide +kernel

/-! ### Tile commands of the spec's examples, and those that witness the statements -/

/-- The eight words of a tile command. -/
def words (ws : List Nat) : Nat := ws.foldr (fun w acc => w + 2 ^ 32 * acc) 0

/-- Standing Grove 0 with one command in its list, and bytes at offsets of its SRAM. -/
def std (c : Nat) (bs : List (Nat × List Byte)) : State :=
  bs.foldl (fun s b => s.wrBytes (groveBase 0 + b.1) b.2)
    { up with groves := [(0, { role := .standing, todo := [{ stream := 0, index := 0, cmd := c }] })] }

/-- What Grove 0 then fetches. -/
def stdF (c : Nat) : Fetched := { grove := 0, cmd := c, owner := .stream 0, index := 0, base := 0, size := groveSramBytes }

/-- Command `c` is fetched, has its opcode and passes its issue checks. -/
def issuable (s : State) (c op : Nat) (k : IssueCheck) : Prop :=
  s.fetch 0 = some (stdF c) ∧ opcodeOf c = op ∧ (stdF c).firstFault k = none ∧ s.missingSlots (stdF c) k.regions = []

/-- A scale entry with GRAN tensor, of 64 channels in E4M3. -/
def entryBytes : List Byte := leBytes 4 0x9001 ++ leBytes 4 64 ++ leBytes 4 0x3F800000

/-- The MATMUL of chapter 4's example, with its program and a scale entry in bank 11. -/
def mmCmd : Nat := words [0x03981401, 0x24204969, 0x40000, 0xA0000, 0x120000, 0, 0x00220360, 0]
def mmState : State := std mmCmd [(0x121000, leBytes 16 (0x103 + 0x2422 * 2 ^ 32) ++ leBytes 8 0x60001 ++ leBytes 8 0x210C
  ++ leBytes 8 (0x3210 + 0x2C00 * 2 ^ 32)), (0x160000, entryBytes)]
theorem witness_matmul : issuable mmState mmCmd 1 (mmState.sharedCheck (stdF mmCmd) (tallyFlag mmCmd) (mmState.matmulCheck (stdF mmCmd)))
    ∧ (mmState.matmulCheck (stdF mmCmd)).cycles = 894 := by unfold issuable; decide +kernel

/-- The same command with a CAP below its 894 cycles faults as CAP_SHORT. -/
def shortCmd : Nat := mmCmd - 27 * 0x10000
def shortState : State := { mmState with groves := [(0, { role := .standing, todo := [{ stream := 0, index := 0, cmd := shortCmd }] })] }
theorem witness_issue_fault : shortState.fetch 0 = some (stdF shortCmd) ∧ opcodeOf shortCmd = 1
    ∧ (stdF shortCmd).firstFault (shortState.sharedCheck (stdF shortCmd) (tallyFlag shortCmd) (shortState.matmulCheck (stdF shortCmd))) = some 7 := by
  decide +kernel

def nopCmd : Nat := words [0x40000]
theorem witness_nop : issuable (std nopCmd []) nopCmd 0 (nopCheck (stdF nopCmd)) := by unfold issuable; decide +kernel

/-- A window descriptor at 0x1100: a 1 × 1 kernel over 1 × 32 pixels of 32 channels, in a mode. -/
def convState (mode c : Nat) : State := std c [(0x1100, leBytes 4 (mode * 2 ^ 24) ++ leBytes 4 0 ++ leBytes 4 (1 + 32 * 2 ^ 16) ++ leBytes 4 0
  ++ leBytes 4 32)]
def convCmd : Nat := words [0x03E80002, 0x999, 0x20000, 0x40000, 0x60000, 0, 0x00110020, 0x00220000]
def poolCmd : Nat := words [0x03E80002, 0x909, 0x20000, 0, 0x60000, 0, 0x00110004, 0x00220000]
def argmaxCmd : Nat := words [0x03E80002, 0x209, 0x20000, 0, 0x60000, 0, 0x00110020, 0x00220100]
theorem witness_conv : (convState 0 convCmd).convMode (stdF convCmd) = 0 ∧ issuable (convState 0 convCmd) convCmd 2
    ((convState 0 convCmd).sharedCheck (stdF convCmd) (tallyFlag convCmd) ((convState 0 convCmd).convIssueCheck (stdF convCmd))) := by
  unfold issuable; decide +kernel
theorem witness_pool_max : (convState 1 poolCmd).convMode (stdF poolCmd) = 1 ∧ issuable (convState 1 poolCmd) poolCmd 2
    ((convState 1 poolCmd).sharedCheck (stdF poolCmd) (tallyFlag poolCmd) ((convState 1 poolCmd).convIssueCheck (stdF poolCmd))) := by
  unfold issuable; decide +kernel
theorem witness_pool_avg : (convState 2 poolCmd).convMode (stdF poolCmd) = 2 ∧ issuable (convState 2 poolCmd) poolCmd 2
    ((convState 2 poolCmd).sharedCheck (stdF poolCmd) (tallyFlag poolCmd) ((convState 2 poolCmd).convIssueCheck (stdF poolCmd))) := by
  unfold issuable; decide +kernel
theorem witness_argmax : (convState 3 argmaxCmd).convMode (stdF argmaxCmd) = 3 ∧ issuable (convState 3 argmaxCmd) argmaxCmd 2
    ((convState 3 argmaxCmd).sharedCheck (stdF argmaxCmd) (tallyFlag argmaxCmd) ((convState 3 argmaxCmd).convIssueCheck (stdF argmaxCmd))) := by
  unfold issuable; decide +kernel

def ewCmd : Nat := words [0x03E80003, 0x909, 0x20000, 0, 0x60000, 0, 64, 1]
theorem witness_ew : issuable (std ewCmd []) ewCmd 3
    ((std ewCmd []).sharedCheck (stdF ewCmd) (tallyFlag ewCmd) ((std ewCmd []).ewCheck (stdF ewCmd))) := by unfold issuable; decide +kernel

/-- A SCAN of one channel and 64 steps, whose carry record is valid under tag 1. -/
def scanCmd : Nat := words [0x03E80004, 0xBBB, 0x20000, 0x40000, 0x60000, 0x80000, 0x00010040, 0]
def scanState : State := std scanCmd [(0x80004, leBytes 4 0x00110001)]
theorem witness_scan : scanState.recPresent (stdF scanCmd) = true ∧ issuable scanState scanCmd 4 (scanState.scanCheck (stdF scanCmd)) := by
  unfold issuable; decide +kernel

def attnCmd : Nat := words [0x03E80005, 0x999, 0x20000, 0x40000, 0x60000, 0x80000, 0x00200010, 1]
theorem witness_attn : issuable (std attnCmd []) attnCmd 5 ((std attnCmd []).attnCheck (stdF attnCmd)) := by unfold issuable; decide +kernel

def moveCmd : Nat := words [0x03E80006, 0, 0x20000, 0, 0x60000, 0, 65536, 0]
theorem witness_move : issuable (std moveCmd []) moveCmd 6 (moveCheck (stdF moveCmd)) := by unfold issuable; decide +kernel

def tallyCmd : Nat := words [0x03E80009, 0, 0, 0, 0, 0, 1, 0x2C00]
theorem witness_tally : issuable (std tallyCmd [(0x160000, entryBytes)]) tallyCmd 9 ((std tallyCmd [(0x160000, entryBytes)]).sharedCheck
    (stdF tallyCmd) true ((std tallyCmd [(0x160000, entryBytes)]).tallyCheck (stdF tallyCmd))) := by unfold issuable; decide +kernel

/-! ### States and operands that meet the hypotheses of the statements

Each theorem is named after the statement it serves, and gives one witness for each of its clauses, at an end of the range where the
clause has one. -/

theorem witness_StepRunsFront : ({ up with pending := [.tapIdcode, .tapBypass] } : State).pending = .tapIdcode :: [.tapBypass] := rfl

theorem witness_QueueDiscipline : up.pending = [] ∧ ∃ t, exec .tapClamp up = .next t := ⟨rfl, _, rfl⟩

theorem witness_StepKeepsInvariant : up.Inv ∧ ∃ t, step { up with pending := [.tapClamp] } = .next t :=
  ⟨⟨by decide +kernel, by decide +kernel, by decide +kernel,
    ⟨fun h => absurd h (by decide +kernel), fun h => absurd h (by decide +kernel), fun h => absurd h (by decide +kernel)⟩,
    ⟨by decide +kernel, by decide +kernel⟩, by unfold State.cacheBounded; decide +kernel, fun _ => by decide +kernel⟩, _, rfl⟩

theorem witness_RegisterPairs : let k := Reg.PCI_OB_BASE_LO
    isLo k = true ∧ isLo (k + 4) = false ∧ tfind ({ up with staged := [(k, 0xFFFFFFFF)] } : State).staged k = some 0xFFFFFFFF
      ∧ ((up.readPair k 1 0xFFFFFFFF).1.captured = (up.readPair k 1 0xFFFFFFFF).1.captured) ∧ (0xFFFFFFFF : Nat) < 2 ^ 32 := by
  decide +kernel

theorem witness_MemoryBytes : 0x3FFFF < (0x40000 : Nat) ∧ 0 < ([1] : List Byte).length := by decide +kernel

/-- D1 in reset, with `n` records waiting in the queue of D0. -/
def closedQueue (n : Nat) : State := { State.reset with evr := { queue := List.replicate n {} } }

theorem witness_EventRecorder : (let e : EventReport := { code := 0x00FF, src := 0, ctx := none, stream := none, args := [] }
    e.code % 65536 ≠ 0 ∧ codeLimited (e.code % 65536) = false)
    ∧ up.running 0 = true ∧ up.recorderOpen = true ∧ up.evr.seq < 256 ∧ up.evr.wrapped = false
    ∧ (closedQueue 15).running 0 = true ∧ (closedQueue 15).recorderOpen = false ∧ (closedQueue 15).evr.queue.length < 16
    ∧ (closedQueue 16).running 0 = true ∧ (closedQueue 16).recorderOpen = false ∧ 16 ≤ (closedQueue 16).evr.queue.length
    ∧ ({ up with evr := { seq := 0xFFFFFFFF, wrapped := true } } : State).evr.seq < 2 ^ 32 := by decide +kernel

theorem witness_EventReadout : up.reaches .kernel (Reg.EVR_SEL 1)
    ∧ tfind ({ up with evr := { first := [(255, {})] } } : State).evr.first (fld 0x100FF 0 10) = some {} ∧ fld 0x100FF 0 10 < 256
    ∧ bitOf 0x10100 16 = true ∧ 256 ≤ fld 0x10100 0 10 ∧ tfind up.evr.last 0x3FF = none := by decide +kernel

/-- The device with requests for the reset of domain `d`. -/
def asking (d : Nat) : State := up.modDom d (fun x => { x with requests := [{ requester := 1 }] })

theorem witness_DomainResets : up.reaches .kernel Reg.SYS_DOMAIN_REQ
    ∧ ((asking 8).inReset 8 = false ∧ ((asking 8).dom 8).requests ≠ [])
    ∧ ((asking 1).inReset 1 = false ∧ ((asking 1).dom 1).requests ≠ [] ∧ (asking 1).inReset 2 = false ∧ (asking 1).inReset 3 = false)
    ∧ (let s := { State.reset with boot := { steps := 4 } }
       s.inReset 1 = true ∧ (s.dom 1).power ≠ .off ∧ s.heldInReset 1 = false)
    ∧ (let s := { up.modDom 8 (fun x => { x with inReset := true }) with boot := { steps := 16 } }
       s.inReset 8 = true ∧ (s.dom 8).power ≠ .off ∧ s.heldInReset 8 = false) := by decide +kernel

theorem witness_DeviceReset : up.boot.staging = none ∧ (0 < 100 ∧ 99 < 100) ∧ 1000 ≤ (1000 : Nat) := by decide +kernel

theorem witness_ColdStartSteps : State.reset.stepDue 1 = true ∧ ({ State.reset with boot := { steps := 2 } } : State).stepDue 2 = true
    ∧ ({ State.reset with boot := { steps := 2 } } : State).stepDue 4 = true ∧ State.reset.pins.testEn = false
    ∧ ({ State.reset with boot := { steps := 2 } } : State).stepDue 5 = true ∧ State.reset.blockLive 0x26 = true
    ∧ ({ State.reset with boot := { steps := 18 } } : State).stepDue 6 = true
    ∧ ({ up with boot := { steps := 0x1FE }, cap := [(0x10, 7)] } : State).stepDue 10 = true := by decide +kernel

theorem witness_DdrController : (let s : State := { up with boot := { steps := 4 } }
      s.running 1 = true ∧ s.boot.cold = true ∧ bitOf s.boot.steps 2 = true ∧ s.ddr.trainDone = false ∧ s.pins.density < 3
        ∧ s.pins.maxSpeed < 3 ∧ s.blockLive 0x2A = true)
    ∧ ([0xFF] : List Nat).headD 0 &&& 0xF = 0xF
    ∧ (let s : State := { up with ddr := { trainDone := true, trainMask := 0xFF } }
       s.running 1 = true ∧ s.ddr.trainDone = true ∧ s.ddrValid = false ∧ s.ddr.trainMask < 2 ^ 8)
    ∧ (let s : State := { up with boot := { cold := false }, ddr := { savedMask := 0xF, savedSpeed := 3 } }
       s.running 1 = true ∧ s.boot.cold = false ∧ s.ddr.trainDone = false ∧ s.ddr.savedMask ≠ 0 ∧ s.ddr.savedMask < 2 ^ 8
        ∧ s.ddr.savedSpeed < 4 ∧ s.pci.heldAccesses = [] ∧ s.blockLive 0x2A = true)
    ∧ (let s : State := { up with ddr := { trainDone := true, trainMask := 0xF } }
       s.running 1 = true ∧ s.ddr.trainDone = true ∧ s.rf Reg.PWR_STATUS 0 2 ≠ 2 ∧ s.badLines = []) := by decide +kernel

/-- A plan with two modes: mode 0 with Grove 0 standing and Grove 1 open, mode 1 with Groves 0 and 1 standing. -/
def twoModes : Plan :=
  { version := 5, modes := [{ id := 0, roles := 9, opPoint := 4, tickMax := 1000, period := 1, cooler := 1, streamMask := 1 },
      { id := 1, roles := 5, opPoint := 4, tickMax := 1000, period := 1, cooler := 1, streamMask := 1 }]
    power := romPlan.power }

/-- The device with that plan in mode 0. -/
def planned : State := { up with plan := { running := twoModes }, groves := [(0, { role := .standing }), (1, { role := .open })] }

theorem witness_ModeRequest : up.reaches .kernel Reg.MODE_REQ ∧ up.thePlan.hasMode 7 = false ∧ up.recorderOpen = true
    ∧ planned.reaches .kernel Reg.MODE_REQ ∧ planned.thePlan.hasMode 1 = true ∧ planned.modeHeld = false
    ∧ ({ planned with mode.thermalHold := true } : State).modeHeld = true := by decide +kernel

theorem witness_ModeChange : (let s : State := { planned with mode.requested := some 1 }
      s.running 1 = true ∧ s.tick.stopped = false ∧ s.lkt.test = false ∧ s.mode.requested = some 1
        ∧ s.thePlan.groveSame s.mode.cur 1 1 = false ∧ s.mode.cur < 2 ^ 8)
    ∧ (let s : State := { planned with mode := { target := 1, step := 2, changing := [1] } }
       s.mode.step = 2 ∧ s.running 1 = true ∧ s.running 2 = true ∧ ∀ g ∈ s.mode.changing, s.groveQuiet g = true)
    ∧ (let s : State := { planned with mode := { target := 1, step := 4, changing := [1] } }
       s.mode.step = 4 ∧ s.mode.requested = none ∧ s.running 1 = true ∧ s.running 2 = true ∧ s.tick.stopped = false
        ∧ s.pwr.voltage ≤ (s.thePlan.mode s.mode.target).opPoint
        ∧ s.frameBoundary ((s.thePlan.streamOfKind s.mode.cur 1).isSome || (s.thePlan.streamOfKind s.mode.target 1).isSome) = true
        ∧ s.entering 1 = false) := by decide +kernel

theorem witness_Plans : (let s : State := { up with cap := [(0x10, 2)] }
      s.admissionDue = true ∧ s.boot.cold = true)
    ∧ (let s : State := { up with cap := [(0x10, 2)], boot := { cold := false } }
       s.admissionDue = true ∧ s.boot.cold = false ∧ s.vil.ring = .absent)
    ∧ (let s : State := { up with plan := { next := some twoModes } }
       s.plan.next = some twoModes ∧ s.running 1 = true ∧ s.running 2 = true ∧ s.tick.stopped = false
        ∧ s.pwr.voltage ≤ (twoModes.mode (s.firstMode twoModes (!s.plan.readmitted))).opPoint
        ∧ s.frameBoundary (twoModes.streamOfKind (s.firstMode twoModes (!s.plan.readmitted)) 1).isSome = true) := by decide +kernel

theorem witness_TickBoundary : up.running 1 = true ∧ up.tick.stopped = false ∧ up.followsRoot = false := by decide +kernel

/-- The receiver locked to frames of 16,666,667 ns, and the tick to them. -/
def framed : State := { up.put Reg.VIN_STATUS 4 with tick := { locked := true, n := 36, period := 16666667 }, pic := { timing := some uhd } }

theorem witness_FrameStarts : (let at_ := 16666667 + tolNs 16666667
      framed.running 8 = true ∧ framed.rb Reg.VIN_STATUS 2 = true ∧ framed.followsRoot = false ∧ framed.fedByRing = false
        ∧ framed.running 1 = true ∧ framed.tick.stopped = false ∧ framed.tick.locked = true
        ∧ framed.tick.frameStart + framed.tick.period ≤ at_ + tolNs framed.tick.period
        ∧ at_ ≤ framed.tick.frameStart + framed.tick.period + tolNs framed.tick.period)
    ∧ (let s := up.modDom 1 (fun x => { x with inReset := true })
       s.inReset 1 = true ∧ s.running 8 = true ∧ s.running 0 = true) := by decide +kernel

/-- A window entry: KIND, WRITE and INIT in word 0, with VALID, then base and size (Table 19.4). -/
def windowed (init : Nat) (isReg : Bool) (base size : Nat) (s : State) : State :=
  (((s.put (Reg.SEC_WIN 255 0) (1 + init * 2 + b2n isReg * 16 + 32)).put (Reg.SEC_WIN 255 1) (base % 2 ^ 32)).put (Reg.SEC_WIN 255 2)
    (base / 2 ^ 32)).put (Reg.SEC_WIN 255 3) size

/-- A window of the service core over the TICK block. -/
def served : State := windowed 0 true 0x402D0000 0x10000 up

theorem witness_Accesses : (let k := Reg.TICK_IRQ_EN
      k % 4 = 0 ∧ served.reaches .service k ∧ rkReg k = false ∧ k / 0x10000 ∈ [0x06, 0x09, 0x21, 0x22, 0x23, 0x28, 0x29, 0x2C, 0x2D]
        ∧ (findRow k).isSome = true ∧ isLo k = false ∧ isHi k = false)
    ∧ (served.reaches .service Reg.TICK_CTRL ∧ rkReg Reg.TICK_CTRL = true ∧ Reg.TICK_CTRL % 4 = 0)
    ∧ (up.acts (.app 0) = true ∧ up.gate (.app 0) (regAddr Reg.TICK_CTRL) 4 true = .denied)
    ∧ (up.gate .kernel 0x10000000 64 false = .pass ∧ up.gate .kernel 0x100FFFC0 64 true = .pass ∧ up.badIn 0x10000000 64 = []
        ∧ regionOf 0x10000000 ≠ .capability ∧ regionOf 0x10000000 ≠ .outbound ∧ regionOf 0x10000000 = .dawnSram) := by decide +kernel

/-- The device with its PCIe link up. -/
def linked : State := { up with pci := { linkUp := true, rate := 4, width := 2 } }

theorem witness_PcieBars : linked.acts .pcie = true ∧ (0x2FFFFF < 0x300000 ∧ 0xFFFFFFFFF < 0x1000000000) ∧ linked.blockLive 0x2B = true := by
  decide +kernel

/-- Context 5 in a state, with a ring of 16 commands and an allocation of 64 KiB on Grove 1, the open Grove of `twoModes`. -/
def ctxIn (st : CtxState) (resident : Bool) : State :=
  { planned with ctxs := [(5, { state := st, resident := resident, grove := 1, mask := 2, sramKib := 64, ringBase := 0x1000000000, ringOrder := 4, quantumUs := 200 })] }

theorem witness_Doorbells : up.reaches .kernel (Reg.SCH_DOORBELL 5) ∧ (up.ctx 5).state = .free
    ∧ (let s := ctxIn .blocked true
       s.reaches .kernel (Reg.SCH_DOORBELL 5) ∧ ¬ ((s.ctx 5).state = .free ∨ (s.ctx 5).state = .stopped ∨ (s.ctx 5).state = .faulted)
        ∧ 15 ≠ (s.ctx 5).tail ∧ s.thePlan.anyOpen = true ∧ 15 < 2 ^ (s.ctx 5).ringOrder ∧ 2 ^ (s.ctx 5).ringOrder ≤ 16)
    ∧ up.reaches .kernel Reg.SCH_CTX_SEL ∧ up.reaches .kernel (Reg.SCH_SWAP_MBPS 15) := by decide +kernel

theorem witness_Dispatch : (let s := ctxIn .ready true
      s.role 1 = .open ∧ s.running 3 = true ∧ (s.grove 1).run = none ∧ (s.grove 1).overdue = false ∧ s.openGrove 1 = true)
    ∧ (let s := (ctxIn .swapped false).modGrove 1 (fun x => { x with swap := some { incoming := some 5, victims := [6] } })
       (s.grove 1).swap = some { incoming := some 5, victims := [6] } ∧ 5 ∉ ([6] : List Nat) ∧ (s.ctx 5).state = .swapped ∧ (s.ctx 5).stopReq = false)
    ∧ (let s := (ctxIn .blocked true).modGrove 1 (fun x => { x with windows := [⟨127, 0, 1000⟩], inWindow := some 127 })
       s.role 1 = .open ∧ (∃ w ∈ (s.grove 1).windows, w.ctx = 127) ∧ (s.grove 1).inWindow = some 127)
    ∧ (let s := ctxIn .blocked true
       s.role 1 = .open ∧ s.running 3 = true ∧ (s.grove 1).run = none
        ∧ ∀ c ∈ s.residents 1, (s.ctx c).state ≠ .ready ∧ (s.ctx c).state ≠ .running) := by decide +kernel

/-- An XFER of 128 bytes from offset 0x2000 of Grove SRAM to the last bytes of Dawn SRAM, its descriptor at 0x1000. -/
def xferCmd : Nat := words [0x00060007, 0, 0x1000, 0, 0, 0, 0, 0xF]
def xferRaw : List Byte := leBytes 4 0x10050 ++ leBytes 4 0 ++ leBytes 8 0x2000 ++ leBytes 8 0xFFF80 ++ leBytes 8 0
def xferState : State :=
  { std xferCmd [(0x1000, xferRaw)] with plan := { running := { twoModes with regions := [⟨2, 0, false, false, 0, 3, 0xFFF80, 128, []⟩] } } }
def waitCmd : Nat := words [0x00060008, 0, 0, 0, 0, 0, 0, 0x8000]

theorem witness_XferAndWait : (let s := xferState
      let f := stdF xferCmd
      let raw := s.operandBytes f (srcA f.cmd) 0 32
      let d := descOf raw
      s.fetch 0 = some f ∧ opcodeOf f.cmd = 7 ∧ f.firstFault (xferCheck f) = none
        ∧ s.badOperand f [{ word := srcA f.cmd, bytes := 32, use := .a }] = none
        ∧ s.xferMustWait f.owner f.grove (xidOf f.cmd) raw = false ∧ s.descFault f.owner f.grove raw = none
        ∧ d.isStore = true ∧ d.mark = 0 ∧ d.port = none ∧ d.object = none)
    ∧ (let s := std waitCmd []
       let f := stdF waitCmd
       s.fetch 0 = some f ∧ opcodeOf f.cmd = 8 ∧ f.firstFault (waitCheck f) = none
        ∧ (bitsOf 16 (fld (extOf f.cmd) 0 16)).any (s.xidBusy f.owner) = false) := by decide +kernel

/-- Context 5 running on Grove 1, with the WAIT at the end of its ring and a transfer under XID 15 in flight. -/
def waiting : State :=
  let s := (ctxIn .running true).modCtx 5 (fun k => { k with head := 15, tail := 0 })
  { (s.wrLE (0x1000000000 + 32 * 15) 32 waitCmd).modGrove 1 (fun x => { x with cur := some 5 }) with
    dma := { xfers := [(0, { owner := .ctx 5, grove := 1, xid := 15, desc := xferRaw, tag := 1 })], next := 1 } }
def waitF : Fetched := { grove := 1, cmd := waitCmd, owner := .ctx 5, index := 15, base := 0, size := 65536 }

theorem witness_XferAndWait_blocks : waiting.fetch 1 = some waitF ∧ opcodeOf waitF.cmd = 8 ∧ waitF.firstFault (waitCheck waitF) = none
    ∧ waitF.owner = .ctx 5 ∧ (bitsOf 16 (fld (extOf waitF.cmd) 0 16)).any (waiting.xidBusy waitF.owner) = true := by decide +kernel

/-- A command of context 5 in execution on Grove 1, and one of stream 0 on Grove 0. -/
def execOf (o : Owner) : Exec := { op := 0, cmd := nopCmd, owner := o, index := 0, cap := 4, cycles := 4, writes := [(0, [1, 2])] }
def executing : State :=
  ((ctxIn .running true).modGrove 1 (fun x => { x with cur := some 5, run := some (execOf (.ctx 5)) })).modGrove 0
    (fun x => { x with run := some (execOf (.stream 0)) })

theorem witness_ExecutionEnds : (executing.grove 1).run = some (execOf (.ctx 5)) ∧ (execOf (.ctx 5)).issues = none
    ∧ (execOf (.ctx 5)).uncorrectable = none ∧ 1 ≤ (execOf (.ctx 5)).cycles ∧ executing.blockLive 0x11 = true
    ∧ (executing.grove 0).run = some (execOf (.stream 0)) ∧ executing.blockLive 0x10 = true ∧ executing.running 1 = true
    ∧ (∀ w ∈ (execOf (.stream 0)).touches, groveBase 0 + w.1 + w.2.length ≤ groveBase 0 + 2) := by decide +kernel

/-- A transfer of context 5 between Grove SRAM and Dawn SRAM. -/
def moving_ (x : Transfer) : State := { ctxIn .blocked true with dma := { xfers := [(0, x)], next := 1 } }
def storing : Transfer := { owner := .ctx 5, grove := 1, xid := 0, desc := xferRaw, tag := 1 }
/-- The same with the ends exchanged. -/
def loading : Transfer := { storing with desc := leBytes 4 0x10005 ++ leBytes 4 0 ++ leBytes 8 0xFFF80 ++ leBytes 8 0x2000 ++ leBytes 8 0 }

theorem witness_Transfers : (let s := moving_ storing
      let d := descOf storing.desc
      s.running 1 = true ∧ s.nextPiece = some 0 ∧ d.remote.1 = 5 ∧ d.isStore = true ∧ s.localAddr (.ctx 5) 1 (d.gsram + 0) = some 0x30202000
        ∧ s.badLines = [])
    ∧ (let s := moving_ loading
       let d := descOf loading.desc
       s.running 1 = true ∧ s.nextPiece = some 0 ∧ d.remote.1 = 5 ∧ d.isStore = false ∧ d.dstKind = 0
        ∧ s.localAddr (.ctx 5) 1 (d.gsram + 0) = some 0x30202000)
    ∧ (let s := moving_ { storing with moved := 128 }
       thas s.dma.xfers 0 = true ∧ s.tiers.waiting = none ∧ (descOf (s.xfer 0).desc).isStep = false ∧ s.stale (s.xfer 0) = false
        ∧ s.xferFinished (s.xfer 0) = true ∧ (descOf (s.xfer 0).desc).isRestore = false)
    ∧ (let s := moving_ { storing with tag := 2 }
       thas s.dma.xfers 0 = true ∧ s.tiers.waiting = none ∧ s.stale (s.xfer 0) = true ∧ s.running 1 = true) := by decide +kernel

/-- A QUOTA section in which context 5 may hold 100 DDR5 tiles and 16 Canopy tiles. -/
def quotas : List Byte :=
  padTo 0 0x60 (leBytes 4 1 ++ leBytes 4 16 ++ leBytes 4 4) ++ leBytes 4 100 ++ leBytes 4 1000 ++ leBytes 4 1 ++ List.replicate 20 0
    ++ leBytes 4 5 ++ leBytes 4 0x00100000 ++ leBytes 4 0 ++ leBytes 4 100

/-- A store of context 5 into page 0 of its list 3, whose frame 7 two entries name; `frames` frames in the pool. -/
def copying (frames : Nat) : State :=
  { moving_ { storing with desc := leBytes 4 0x00200030 ++ leBytes 4 0 ++ leBytes 8 0x2000 ++ leBytes 8 3 ++ leBytes 8 0 } with
    pages := { pageTiles := 1, frames := frames, ptUnits := 4, lists := [(3, { owner := 5, capacity := 4, entries := [0] })],
               used := [(0, { refs := 2, owner := 5 })] }
    plan := { running := { twoModes with quota := quotas } } }

theorem witness_Transfers_copies : (let s := copying 2
      let d := descOf (s.xfer 0).desc
      let l := fld d.remote.2.1 0 10
      let lp := (pagedTile s.pages.pageTiles d ((s.xfer 0).moved / 4096)).1
      let old := nth 0 (s.plist l).entries lp
      let new := (s.takeFrame (s.plist l).owner).2
      s.running 1 = true ∧ thas s.dma.xfers 0 = true ∧ s.stale (s.xfer 0) = false ∧ s.needsCopy (s.xfer 0) = true ∧ s.freeFrames ≠ 0
        ∧ s.framesFit (s.plist l).owner 1 = true ∧ (State.copyTiles old new 0 s.pages.pageTiles (s.takeFrame (s.plist l).owner).1).2 = none)
    ∧ (let s := copying 1
       s.needsCopy (s.xfer 0) = true ∧ s.freeFrames = 0) := by decide +kernel

/-- The device with two modes and quotas, context 5 as a server, a pool of 8 frames, and an empty list 0 of that context. -/
def pooled : State :=
  { ctxIn .ready true with
    plan := { running := { twoModes with quota := quotas } }
    pages := { pageTiles := 1, frames := 8, ptUnits := 4, publicMax := 4, lists := [(0, { owner := 5, capacity := 1024 })] } }
/-- The same with frame 0 in list 1, which belongs to context 5. -/
def listed : State :=
  { pooled with
    pages := { pooled.pages with
      lists := [(0, { owner := 5, capacity := 1024 }), (1, { owner := 5, capacity := 4, entries := [0] }), (1023, { owner := 0xFE, capacity := 4, entries := [1] })]
      used := [(0, { refs := 1, owner := 5 }), (1, { refs := 1, owner := 0xFE })] } }

theorem witness_Pages : (let s := pooled
      let a0 := 5
      let a1 := 1048576
      s.reaches .kernel Reg.PAGE_OP ∧ (a0 < 128 ∧ (s.ctx a0).state ≠ .free) ∧ 1 ≤ a1 ∧ a1 ≤ 1048576 ∧ 1 < 1024 ∧ s.hasList 1 = false
        ∧ (∀ m, m < 1 → s.hasList m = true))
    ∧ pooled.ptUsed + ceilDiv 3072 1024 ≤ pooled.pages.ptUnits
    ∧ (listed.hasList 0 = true ∧ (listed.plist 0).feature = false ∧ listed.attached 0 = false)
    ∧ (listed.hasList 1023 = true ∧ (listed.plist 1023).published = false ∧ (listed.plist 1023).owner = 0xFE)
    ∧ (let s := listed
       s.reaches .kernel Reg.PAGE_OP ∧ (s.plist 0).published = false ∧ (s.plist 0).entries.length + 6 ≤ (s.plist 0).capacity
        ∧ 6 ≤ s.freeFrames ∧ s.framesFit (s.plist 0).owner 6 = true)
    ∧ (1 ≤ (listed.plist 1).entries.length)
    ∧ (let s := listed
       1 < 1024 ∧ s.hasList 1 = true ∧ (s.plist 1).feature = false ∧ s.attached 1 = false ∧ 1 ≤ (s.plist 0).capacity
        ∧ (s.plist 0).entries = [] ∧ (s.plist 0).owner = (s.plist 1).owner
        ∧ (∀ f ∈ (s.plist 1).entries.take 1, (s.frame f).refs + ((s.plist 1).entries.take 1).count f ≤ 65535))
    ∧ (let s : State := { up with pages := { used := [(7, { refs := 0, owner := 5, draining := true })] } }
       thas s.pages.used 7 = true ∧ (s.frame 7).draining = true ∧ s.frameInFlight 7 = false) := by decide +kernel

/-- A window of context 5 over the 1 MiB at 0x10_0000_0000. -/
def tenantWin (s : State) : State :=
  (((s.put (Reg.SEC_WIN 3 0) (1 + 2 + 5 * 256)).put (Reg.SEC_WIN 3 1) 0).put (Reg.SEC_WIN 3 2) 0x10).put (Reg.SEC_WIN 3 3) 0x100000
/-- Entry words for context 5 in group 0: rings of 16 words at 0x10_0000_1000 and 0x10_0000_2000, list 0, MAX_POS 64. -/
def stagedWords : List Nat := [0x00050000, 0x00040000, 0, 64, 0x00010000, 0, 0x00001004, 0x10, 0x00002004, 0x10]
/-- Group 0 enabled with server 5, one page for each 16 rows, steps of at most 8 rows, and its work list in DDR5. -/
def grouped : State :=
  let s := (((tenantWin pooled).put (Reg.SEQ_GRP_CFG 0) (1 + 5 * 256 + 1 * 65536)).put (Reg.SEQ_GRP_SIZE 0) (8 + 100 * 65536)).put (Reg.SEQ_GRP_VOCAB 0) 32000
  (s.put (Reg.SEQ_WL_LO 0) 0x3000).put (Reg.SEQ_WL_HI 0) 0x10
def stagedState : State := (stagedWords.zip (List.range 10)).foldl (fun s p => s.put (Reg.SEQ_STAGE p.2) p.1) grouped
/-- That entry, and the same with a next token, READY. -/
def entry : SeqEntry := stagedEntry (fun n => nth 0 stagedWords n)
def tokened : SeqEntry := { entry with state := .ready, nextToken := 31999, nextValid := true }
def seqWith (x : SeqEntry) : State := { grouped with seqt := { entries := [(511, x)] } }

theorem witness_SequenceOperations : (let s := stagedState
      s.reaches .kernel Reg.SEQ_OP ∧ s.admitError (fun j => s.rn (Reg.SEQ_STAGE j)) = 0 ∧ s.hasEntry 0 = false)
    ∧ (let s := seqWith { entry with state := .held }
       s.reaches .kernel Reg.SEQ_OP ∧ s.hasEntry 511 = true ∧ (s.seqEntry 511).state ≠ .faulted ∧ (s.seqEntry 511).state ≠ .retiring
        ∧ (s.seqEntry 511).state = .held)
    ∧ (seqWith { entry with inStep := true }).hasEntry 511 = true := by decide +kernel

theorem witness_SequenceRings : (let s := seqWith { entry with state := .idle, inTail := 0 }
      s.reaches .kernel (Reg.SEQ_SUBMIT 511) ∧ s.hasEntry 511 = true ∧ (s.seqEntry 511).state ≠ .faulted ∧ (s.seqEntry 511).state ≠ .retiring
        ∧ 15 < 2 ^ (s.seqEntry 511).inOrder ∧ (s.seqEntry 511).state = .idle ∧ 15 ≠ (s.seqEntry 511).inHead
        ∧ (s.seqEntry 511).inHead < 2 ^ (s.seqEntry 511).inOrder)
    ∧ (seqWith entry).reaches .kernel (Reg.SEQ_OUTACK 511) ∧ (seqWith entry).reaches .kernel Reg.SEQ_ENT_SEL := by decide +kernel

/-- A step of group 0 with one row of entry 511 in flight, its number 7, and the transfer of context 5 that completes it. -/
def stepRow : RowGroup := { entry := 511, row0 := 0, rows := 1, consumed := 0, yields := false }
def stepDesc : List Byte := leBytes 4 0x00010250 ++ leBytes 4 7 ++ leBytes 8 0x2000 ++ leBytes 8 0xFFF80 ++ leBytes 8 0
def stepping (iso : Nat) (x : SeqGroup) : State :=
  let s := ((seqWith { tokened with inStep := true }).put (Reg.SEQ_GRP_STEP 0) 7).put (Reg.SEQ_GRP_CFG 0) (1 + iso * 2 + 5 * 256 + 65536)
  { s with seqt.groups := [(0, x)], dma := { xfers := [(0, { owner := .ctx 5, grove := 1, xid := 0, desc := stepDesc, tag := 1 })], next := 1 } }

theorem witness_SequenceSteps : (let s := seqWith tokened
      s.running 1 = true ∧ s.grpEn 0 = true ∧ (s.seqGroup 0).flight = none ∧ s.serverRuns 0 = true ∧ 0x3FFFF < s.grpWorkList 0
        ∧ ((s.candidates 0).foldl (Build.candidate 0) { state := s }).groups = [{ entry := 511, row0 := 0, rows := 1, consumed := 0, yields := true }])
    ∧ (let s := stepping 0 { flight := some [stepRow] }
       s.reaches .kernel (Reg.SEQ_GRP_GO 0) ∧ (s.seqGroup 0).flight.isSome = true ∧ (s.seqGroup 0).released = false ∧ s.grpIso 0 ≠ 2
        ∧ (s.ctx (s.grpServer 0)).state = .ready ∧ s.thePlan.anyOpen = true ∧ 15 < 2 ^ (s.ctx (s.grpServer 0)).ringOrder)
    ∧ (stepping 2 { flight := some [stepRow] }).grpIso 0 = 2
    ∧ (let s := stepping 0 { flight := some [stepRow] }
       let d := descOf (s.xfer 0).desc
       s.running 1 = true ∧ thas s.dma.xfers 0 = true ∧ s.tiers.waiting = none ∧ d.isStep = true ∧ s.earlierXfer 0 = false
        ∧ (s.seqGroup d.group).flight = some [stepRow] ∧ s.stale (s.xfer 0) = false ∧ d.step = s.rn (Reg.SEQ_GRP_STEP d.group)
        ∧ (s.xfer 0).owner = .ctx (s.grpServer d.group) ∧ s.grpEn d.group = true ∧ s.hasEntry stepRow.entry = true
        ∧ (s.seqEntry stepRow.entry).state ≠ .retiring)
    ∧ (let s := stepping 2 { flight := some [stepRow], started := true, goTail := some 15 }
       s.running 1 = true ∧ s.grpEn 0 = true ∧ s.grpIso 0 = 2 ∧ (s.seqGroup 0).started = true ∧ (s.seqGroup 0).flight = some [stepRow]
        ∧ (s.seqGroup 0).released = false ∧ (s.seqGroup 0).goTail = some 15 ∧ s.thePlan.anyOpen = true
        ∧ 15 < 2 ^ (s.ctx (s.grpServer 0)).ringOrder)
    ∧ ((stepping 2 { flight := some [stepRow], started := true, released := true }).seqGroup 0).released = true := by decide +kernel

/-- Object 0 of context 5 in a state, with quotas that let staged copies age after 10 ticks. -/
def objects (o : Obj) : State :=
  { ctxIn .ready true with
    plan := { running := { twoModes with quota := quotas.take 0x6C ++ leBytes 4 10 ++ quotas.drop 0x70 } }
    tiers := { objs := [(0, o)] } }
def object : Obj := { owner := 5, place := 2, tiles := 4 }
/-- An object of 98 tiles, staged in a Canopy of 100. -/
def stagedObj : Obj := { owner := 5, place := 1, tiles := 98, copy := [(0, { header := [], slot := [] })], dirty := [0] }

theorem witness_ObjectOperations : (let s := objects object
      let a0 := 0x5005
      let o := newObj 5 3
      s.reaches .kernel Reg.TIER_OBJ_OP ∧ s.tiers.waiting = none ∧ fld a0 10 2 = 0 ∧ bitOf a0 15 = false ∧ fld a0 18 14 = 0
        ∧ o.place = 0 ∧ o.width ≠ 3 ∧ o.owner < 128 ∧ (s.ctx o.owner).state ≠ .free ∧ s.hasObj 1 = false ∧ (∀ m, m < 1 → s.hasObj m = true)
        ∧ o.flagsOk = true ∧ s.ddrFits o.owner 3 = true ∧ o.sealed = false
        ∧ (s.hasObj 0 = true ∧ (s.obj 0).state = .ready ∧ (s.obj 0).standing = false ∧ (s.obj 0).place = 2
            ∧ s.ddrFits (s.obj 0).owner (s.obj 0).tiles = true))
    ∧ (newObj 0x4005 3).host = true ∧ (newObj 0x4005 3).flagsOk = true
    ∧ ((objects stagedObj).obj 0).place = 1 := by decide +kernel

theorem witness_ObjectMoves : (let s := objects { object with state := .moving }
      s.tiers.waiting = none ∧ s.running 1 = true ∧ s.hasObj 0 = true ∧ (s.obj 0).state = .moving ∧ (s.obj 0).place ≠ 1)
    ∧ (let s := objects { object with state := .draining }
       s.hasObj 0 = true ∧ (s.obj 0).state = .draining ∧ s.objBusy 0 = false)
    ∧ (let s := (objects stagedObj).put Reg.TICK_COUNT_LO 10
       s.thePlan.ageTicks ≠ 0 ∧ 16 * s.cnpFree < s.thePlan.cnpOpen
        ∧ s.victimCopy (fun o => decide (s.thePlan.ageTicks ≤ s.objAge o) && decide ((s.thePlan.quotaOf o.owner).cnpGuar < s.cnpUsed o.owner))
            = some 0
        ∧ s.thePlan.cnpOpen ≤ 16 * (s.evictCopy 0).cnpFree)
    ∧ up.reaches .kernel Reg.TIER_OBJ_SEL ∧ up.reaches .kernel Reg.TIER_QUOTA_SEL := by decide +kernel

/-- Table 2.15's block of an RGB picture of 3840 × 2160 upscaled by 2: bands of 36 rows, an input ring of 200 rows in region 0. -/
def picBlock : List Byte :=
  leBytes 4 0x02201024 ++ leBytes 4 (3840 + 2160 * 65536) ++ leBytes 4 (200 + 400 * 65536) ++ leBytes 4 0 ++ leBytes 4 1 ++ leBytes 4 0
    ++ List.replicate 24 0 ++ leBytes 4 (7680 + 4320 * 65536) ++ leBytes 4 (8800 + 4500 * 65536) ++ List.replicate 8 0
/-- A plan with a picture stream, and a looking stream whose presence block stands at the start of Dawn SRAM. -/
def seeing : Plan :=
  { twoModes with
    streams := [⟨0, 1, picBlock⟩, ⟨1, 3, leBytes 4 0 ++ leBytes 4 0 ++ leBytes 4 1 ++ leBytes 4 (64 + 48 * 65536) ++ leBytes 4 0⟩]
    regions := [⟨2, 0, false, false, 0, 3, 0, 6 * 1024 * 1024, []⟩, ⟨3, 0, false, false, 1, 3, 0, 4096, []⟩] }
/-- That plan in force, with the receiver locked to 3840 × 2160 and one row of the frame still to come. -/
def viewing (pic : Picture) : State := { up.put Reg.VIN_STATUS 4 with plan := { running := seeing }, pic := pic }
def lastRow : Picture := { timing := some uhd, lost := false, rows := 2159 }

theorem witness_InputTimings : (up.running 8 = true ∧ up.rb Reg.VIN_STATUS 2 = false)
    ∧ (let s := viewing lastRow
       s.running 8 = true ∧ s.rb Reg.VIN_STATUS 2 = true ∧ s.pic.lost = false ∧ s.pic.timing ≠ some { uhd with vrr := true }
        ∧ s.pic.timing ≠ none)
    ∧ (∃ i, i < 8 ∧ up.rn (Reg.VIN_AVI 0 + 4 * i) ≠ u32 (padTo 0 32 (List.replicate 32 1)) (4 * i)) ∧ up.reaches .kernel Reg.VIN_HPD := by
  decide +kernel

theorem witness_InputRows : (let s := viewing lastRow
      s.pic.timing = some uhd ∧ s.running 8 = true ∧ s.pic.lost = false ∧ s.pic.rows < uhd.activeH ∧ s.pic.rows + 1 = uhd.activeH
        ∧ s.picParams = some picBlock ∧ s.geomMatch = true ∧ picFrc2 picBlock = false
        ∧ s.thePlan.regions[picInRing picBlock]? = some ⟨2, 0, false, false, 0, 3, 0, 6 * 1024 * 1024, []⟩ ∧ 0 < picInRows picBlock
        ∧ planeExact uhd picBlock 2 = true)
    ∧ (viewing { lastRow with dscBad := true }).geomMatch = false ∧ (viewing { lastRow with rows := 0 }).pic.rows + 1 < uhd.activeH := by
  decide +kernel

theorem witness_OutputFrames : (let s := viewing { lastRow with outRunning := true, outNext := 59, outMuted := false }
      s.running 8 = true ∧ s.pic.outRunning = true ∧ s.neuralParams = some picBlock ∧ s.pic.outNext < picNb picBlock)
    ∧ (up.running 8 = true ∧ up.pic.lost = true ∧ up.fedByRing = false)
    ∧ (let s : State := { up with pic.outRunning := true }
       s.pic.outRunning = true ∧ s.neuralParams = none ∧ s.pic.outNext = 0 ∧ s.pic.outMuted = true)
    ∧ ((viewing { lastRow with outRunning := true, outMuted := false }).put Reg.BYP_CTRL 1).rb Reg.BYP_CTRL 0 = true := by decide +kernel

theorem witness_DisplayPort : up.running 8 = true ∧ ({ up with pic.trainFailed := true } : State).pic.trainFailed = true
    ∧ ({ up with pic.retrainDue := true } : State).pic.retrainDue = true ∧ (up.put Reg.VOUT_STATUS 1).rb Reg.VOUT_STATUS 0 = true
    ∧ (let s : State := { up with pic.lastTrainUs := some 0, timeUs := 99999 }
       s.pic.lastTrainUs = some 0 ∧ s.timeUs < 0 + 100000)
    ∧ (let s : State := { up with pic.lastTrainUs := some 0, timeUs := 100000 }
       s.pic.lastTrainUs = some 0 ∧ 0 + 100000 ≤ s.timeUs)
    ∧ up.reaches .kernel Reg.VOUT_MUTE ∧ up.reaches .kernel Reg.BYP_CTRL := by decide +kernel

/-- Four microphones that listen at 16 kHz with 3 seconds of history, 100 ms of it written. -/
def hearing : State :=
  (((((up.put Reg.MIC_STATUS (1 + 4 * 16)).put Reg.MIC_CFG 0x41).put Reg.MIC_HIST 3000).put Reg.MIC_WPOS_LO 1600).put Reg.DAWN_CFG (128 + 2 * 256)).put
    Reg.MIC_BIAS 0x101
def inStage (st : Nat) (s : State) : State := s.putF Reg.DAWN_STATUS 0 2 st

theorem witness_MicrophoneFrames : hearing.listening = true
    ∧ (hearing.running 0 = true ∧ hearing.rb Reg.MIC_BIAS 8 = true ∧ bitOf hearing.mic.biasOff 1 = false)
    ∧ (let s := inStage 1 hearing
       s.reaches .kernel Reg.MIC_MUTE ∧ s.rb Reg.MIC_MUTE 0 = false) := by decide +kernel

theorem witness_WakeCascade : (let s : State := { hearing with mic.hits := 1 }
      s.listening = true ∧ 0 < s.wpos ∧ s.rb Reg.MIC_MUTE 0 = false ∧ s.mic.hopFrom + s.msFrames 10 ≤ s.wpos ∧ s.rf Reg.DAWN_CFG 0 8 ≤ 128
        ∧ s.rf Reg.DAWN_CFG 8 4 ≤ s.mic.hits + 1 ∧ s.stage = 0)
    ∧ (let s := (inStage 2 hearing).putF Reg.DAWN_STATUS 9 1 1
       s.running 0 = true ∧ s.stage = 2 ∧ s.rb Reg.DAWN_STATUS 9 = true ∧ 1 ≤ s.stage)
    ∧ up.reaches .kernel Reg.DAWN_HOST_WAKE := by decide +kernel

/-- The camera on, with frames of 64 × 48, one in progress, and both output rings and the statistics ring in DDR5. -/
def camera (cur : Option CamFrame) : State :=
  let s := (((viewing {}).put Reg.CAM_CFG 1).put Reg.CAM_SIZE (64 + 48 * 65536)).put Reg.CAM_STATS_SLOTS 16
  let s := (s.put Reg.CAM_STATS_BASE_LO 0).put (Reg.CAM_STATS_BASE_LO + 4) 0x10
  let s := ((s.put (Reg.CAM_OUT_CFG 1) (1 + 3 * 16)).put (Reg.CAM_OUT_PITCH 1) 128).put (Reg.CAM_OUT_HEAD 1) 1
  let s := (s.put (Reg.CAM_OUT_BASE_LO 1) 0x100000).put (Reg.CAM_OUT_BASE_LO 1 + 4) 0x10
  { s with ddr := { trainDone := true, trainMask := 0xFF, trainSpeed := 2 }, cam := { cur := cur } }
def camFrame : CamFrame := { frame := 1, tick := 0, params := {}, presence := false }

theorem witness_Camera : (let s := camera (some camFrame)
      s.running 8 = true ∧ s.rb Reg.CAM_CFG 0 = true ∧ s.cam.cur = some camFrame ∧ camFrame.d0 = false ∧ s.presenceBlock = none)
    ∧ (let s : State := { (viewing {}).modDom 8 (fun x => { x with inReset := true }) with cam.presOn := true, cam.d0Cfg := (1, 64 + 48 * 65536) }
       s.d0Captures = true ∧ bitOf s.cam.d0Cfg.1 0 = true)
    ∧ up.reaches .kernel Reg.IPL_COMMIT
    ∧ (∀ o m, o < 3 → up.meshOf {} o = some m → m.ok = true)
    ∧ (let u := (camera none).put (Reg.IPL_MESH_DIM 1) 0
       (u.meshOf (u.shadowSet 65535) 1).map (·.ok) = some false)
    ∧ completeRows ((camera none).rn Reg.CAM_SIZE) [] = false
    ∧ completeRows ((camera none).rn Reg.CAM_SIZE) (List.replicate 48 (List.replicate 64 0)) = true
    ∧ (let s := camera (some camFrame)
       let n := s.rf (Reg.CAM_OUT_CFG 1) 4 4
       let tail := s.rf (Reg.CAM_OUT_STAT 1) 0 4
       s.running 0 = true ∧ s.rb (Reg.CAM_OUT_CFG 1) 0 = true ∧ 3 ≤ n ∧ s.rn (Reg.CAM_OUT_PITCH 1) ≠ 0
        ∧ (tail + 1) % n = s.rf (Reg.CAM_OUT_HEAD 1) 0 4 ∧ (tail + 1) % n ≠ (s.put (Reg.CAM_OUT_HEAD 1) 0).rf (Reg.CAM_OUT_HEAD 1) 0 4
        ∧ s.ringTarget (s.r64 (Reg.CAM_OUT_BASE_LO 1)) = .ddr ∧ s.rf Reg.CAM_STATS_SLOTS 0 5 ≠ 0
        ∧ (s.cam.statsTail + 1) % s.rf Reg.CAM_STATS_SLOTS 0 5 ≠ s.rf Reg.CAM_STATS_HEAD 0 4
        ∧ s.ringTarget (s.r64 Reg.CAM_STATS_BASE_LO + s.cam.statsTail * 8192) = .ddr ∧ s.lookParams ≠ none
        ∧ ({ s with cam.lookTick := true } : State).cam.lookTick = true) := by
  refine ⟨by decide +kernel, by decide +kernel, by decide +kernel, ?_, by decide +kernel, by decide +kernel, by decide +kernel, by decide +kernel⟩
  intro o m ho hm
  have h : up.meshOf {} o = none := by
    have : o = 0 ∨ o = 1 ∨ o = 2 := by omega
    rcases this with rfl | rfl | rfl <;> decide +kernel
  rw [h] at hm
  cases hm

theorem witness_Presence : (let s : State := { viewing {} with cam.presOn := true, cam.scoreDue := true }
      s.running 0 = true ∧ s.cam.presOn = true ∧ s.cam.noSignal = false ∧ s.cam.scoreDue = true ∧ s.presenceBlock = some dawnBase
        ∧ s.running 8 = true ∧ s.cam.present = false) := by decide +kernel

/-- A sample set of one image of 16 × 16: its descriptor, index, data, bad list, output ring and cache in host memory, and the tag of
sample 0 in the cache. -/
def setDesc : List Byte :=
  leBytes 4 1 ++ leBytes 4 0x00010001 ++ leBytes 4 0x00100010 ++ List.replicate 20 0 ++ leBytes 4 1 ++ leBytes 4 2 ++ leBytes 4 3
    ++ leBytes 4 0x00020004 ++ leBytes 4 0x80000005 ++ List.replicate 76 0
def sampling (x : Option SampleSet) : State :=
  let host (i : Nat) : Obj := { owner := 5, place := 0, tiles := 4, host := true, hostBase := 0x1000020000 + 0x4000 * i }
  let s : State := { (ctxIn .ready true).put (Reg.IPL_SET_DESC 7) 0 with
    tiers := { objs := (List.range 6).map (fun i => (i, host i)) }
    ddr := { trainDone := true, trainMask := 0xFF, trainSpeed := 2 } }
  let s := (s.wrLE 0x1000020000 128 (leNat setDesc)).wrLE (0x1000020000 + 0x4000 * 5) 4 1
  { s with sets := match x with | some x => [(7, x)] | none => [] }

theorem witness_SampleSets : (let s := sampling none
      s.reaches .kernel (Reg.IPL_SET_CTRL 7) ∧ thas s.sets 7 = false ∧ (s.ctx 5).state = .ready
        ∧ (match (s.readSet 7 5).2 with | .ok d => d.n == 1 | .error _ => false) = true ∧ (s.ctx 6).state = .free)
    ∧ (let s := sampling (some { owner := 5, index := 0 })
       let d := setDescOf setDesc
       s.running 8 = true ∧ thas s.sets 7 = true ∧ (s.theSet 7).ready = false ∧ (s.theSet 7).gone = false
        ∧ (s.cached d (perm 0 d.n d.seed d.epoch)).2 = some (List.replicate 256 0))
    ∧ (let s := sampling (some { owner := 5, index := 1, samples := [(0, List.replicate 256 0)], ready := true })
       (s.theSet 7).ready = true ∧ (0 + 1) % (setDescOf setDesc).outSlots ≠ s.rf (Reg.IPL_SET_ACK 7) 0 4
        ∧ (s.badBits (setDescOf setDesc)).2 ≠ none ∧ (setDescOf setDesc).n ≤ (s.theSet 7).index ∧ s.rb (Reg.IPL_SET_CTRL 7) 1 = false)
    ∧ (sampling none).reaches .kernel (Reg.IPL_SET_ACK 7) := by decide +kernel

/-- A ROLE section of two devices, and a plan that has it with a band buffer of stream 31 in region 0. -/
def roleTwo : List Byte :=
  leBytes 4 2 ++ List.replicate 12 0 ++ leBytes 4 0 ++ leBytes 4 0 ++ leBytes 8 0 ++ leBytes 4 1 ++ leBytes 4 0 ++ leBytes 8 0
def ringed : Plan :=
  { twoModes with hasRole := true, role := roleTwo, digest := List.replicate 48 7, regions := [⟨0, 0, true, false, 31, 3, 0x1FFFF00, 256, []⟩] }
/-- Device `chip` of that ring, both ports trained and up, the ring in a state. -/
def onRing (chip : Nat) (ring : RingState) : State :=
  { up with plan := { running := ringed }, pins.chipId := chip
            vil := { ring := ring, waiting := decide (ring = .forming), ports := [(0, { up := true, trained := true }), (1, { up := true, trained := true })] } }
/-- A flit of stream 31 for the last bytes of buffer 0. -/
def bandFlit : Flit := { flitZero with stream := 31, buf := 0, offset := 127, plen := 2, payload := [1, 2], last := true, xid := 15, gen := 1 }

theorem witness_LinkRetry : (let s := onRing 1 .closed
      s.portLive 1 = true ∧ flitZero.seq % 4096 = ((s.port 1).rxSeq + 1) % 4096
        ∧ ({ flitZero with seq := 1 } : Flit).seq % 4096 ≠ ((s.port 1).rxSeq + 1) % 4096 ∧ (s.port 1).unacked = [])
    ∧ (let s := (onRing 1 .closed).modPort 1 (fun x => { x with unacked := [(0, flitZero)], replays := 7 })
       (s.port 1).unacked ≠ [] ∧ (s.port 1).replays < 8)
    ∧ (let s := (onRing 1 .closed).modPort 1 (fun x => { x with unacked := [(0, flitZero)], replays := 8 })
       (s.port 1).unacked ≠ [] ∧ 8 ≤ (s.port 1).replays) := by decide +kernel

/-- A transfer of stream 31 that reads the neighbour of port 0 under XID 15. -/
def portRead : Transfer :=
  { owner := .stream 31, grove := 0, xid := 15, tag := 1, desc := leBytes 4 0x00010006 ++ leBytes 4 0 ++ leBytes 8 0 ++ leBytes 8 0x2000 ++ leBytes 8 0 }

theorem witness_ExchangeFlits : (let s := onRing 1 .closed
      s.portLive 0 = true ∧ bandFlit.seq % 4096 = ((s.port 0).rxSeq + 1) % 4096 ∧ s.badLines = [] ∧ s.running 1 = true
        ∧ s.exchangeAt 0 bandFlit 2 = some 0x21FFFFFE ∧ s.exchangeAt 0 bandFlit 3 = none ∧ s.vil.ring = .closed ∧ s.chipId ≠ 0
        ∧ s.tick.stopped = false ∧ s.readFor 0 bandFlit = none ∧ s.forwards 0 = false ∧ fld (u32 flitZero.payload 0) 0 2 = 0)
    ∧ ((onRing 1 .closed).modDom 1 (fun x => { x with inReset := true })).running 1 = false
    ∧ (let s : State := { onRing 1 .closed with plan := { running := { ringed with role := leBytes 4 3 ++ roleTwo.drop 4 ++ List.replicate 16 0 } } }
       s.forwards 0 = true)
    ∧ (let s : State := { onRing 1 .closed with dma := { xfers := [(3, portRead)], next := 4 } }
       s.readFor 0 bandFlit = some 3 ∧ s.stale (s.xfer 3) = false ∧ bandFlit.last = true)
    ∧ (let s : State := { onRing 1 .closed with vil.following := true }
       s.followsRoot = true ∧ s.running 1 = true ∧ s.tick.stopped = false) := by decide +kernel

/-- A port that has had `n` attempts to train. -/
def attempted (n : Nat) : State :=
  { onRing 0 .forming with vil.ports := [(0, { attempts := n }), (1, { trained := true })] }
/-- The token with the entries of both devices. -/
def fullToken : Flit := { flitZero with payload := ringPayload false [leBytes 4 0, leBytes 4 1], plen := 72 }

theorem witness_RingFormation : (let s := attempted 0
      s.ringForming = true ∧ s.running 6 = true ∧ (s.port 0).attempts = 0)
    ∧ (let s := attempted 1
       1 ≤ (s.port 0).attempts ∧ (s.port 0).trained = false)
    ∧ (let s := attempted 0
       s.portLive 1 = true ∧ flitZero.seq % 4096 = ((s.port 1).rxSeq + 1) % 4096 ∧ (s.port 1).up = false ∧ (s.port 1).held = false
        ∧ s.helloBad 1 0 0x7140 (List.replicate 48 7) = true ∧ s.helloBad 1 1 0x7140 (List.replicate 48 7) = false)
    ∧ (let s := onRing 0 .forming
       s.portLive 0 = true ∧ s.ringForming = true ∧ s.chipId = 0 ∧ s.tokenFull (ringEntries fullToken) = true ∧ ringClose fullToken = false)
    ∧ ringClose { flitZero with payload := leBytes 4 1 } = true
    ∧ ((onRing 1 .forming).chipId ≠ 0 ∧ ((onRing 1 .forming).port 1).up = true
        ∧ (({ onRing 1 .forming with vil.ports := [(0, { up := true, trained := true })] } : State).port 1).up = false)
    ∧ (onRing 0 .closed).peerDue 1 = true ∧ (onRing 0 .closed).vil.ring = .closed
    ∧ (onRing 0 .forming).peerDue 1 = true ∧ (onRing 0 .forming).vil.ring = .forming := by decide +kernel

/-- A plan that allows every device state, with mode 1 in S1. -/
def sleeper : Plan := { twoModes with power := leBytes 4 0xF ++ leBytes 4 0x201 ++ romPlan.power.drop 8 }
/-- The device with that plan in device state `n`, aiming at another. -/
def inState (n : Nat) (pwr : Power) : State := { (up.putF Reg.PWR_STATUS 0 2 n) with plan := { running := sleeper }, pwr := pwr }

theorem witness_StateRequests : (let s := inState 0 {}
      s.reaches .kernel Reg.PWR_STATE_REQ ∧ s.pwr.target = none ∧ s.thePlan.stateAllowed 3 = true ∧ requestLegal s.devState 3 = true ∧ s.devState < 2)
    ∧ ((inState 1 {}).devState = 1 ∧ requestLegal (inState 1 {}).devState 0 = true ∧ (inState 1 {}).thePlan.stateAllowed 0 = true)
    ∧ (up.thePlan.stateAllowed 1 = false ∧ up.devState ≠ 1)
    ∧ (let s := inState 0 { target := some 1, begun := true }
       s.pwr.target = some 1 ∧ s.devState < 1 ∧ s.pwr.begun = true ∧ requestLegal 1 2 = true ∧ requestLegal 1 1 = false)
    ∧ up.reaches .kernel (Reg.PWR_VOTE 0) ∧ up.reaches .kernel (Reg.PWR_VOTE 4)
    ∧ (let s := inState 0 { target := some 2 }
       s.pwr.target = some 2 ∧ s.devState < 2 ∧ s.pwr.begun = false)
    ∧ (let s := inState 2 {}
       s.running 0 = true ∧ s.pwr.target = none ∧ s.thePlan.stateAllowed 0 = true ∧ 2 ≤ s.devState)
    ∧ (let s := (inState 2 { timerRun := true }).put Reg.PWR_TIMER 0x01000000
       s.running 0 = true ∧ s.pwr.timerRun = true ∧ s.devState = 2 ∧ s.pwr.target = none ∧ s.rf Reg.PWR_TIMER 24 2 = 1
        ∧ s.thePlan.stateAllowed 1 = true) := by decide +kernel

theorem witness_StateTransitions : (let s := inState 0 { target := some 1, begun := true }
      s.running 0 = true ∧ s.entering 1 = true ∧ s.devState = 0 ∧ s.pwr.next = none ∧ (s.dom 8).power ≠ .off ∧ s.mode.cur ≠ s.soloed s.thePlan.modeS1)
    ∧ (let s := inState 1 { target := some 2, begun := true }
       s.entering 2 = true ∧ s.mayStop = true ∧ s.pwr.next = none)
    ∧ (let s := inState 2 { target := some 1, voltage := 4 }
       s.mayExit = true ∧ s.pwr.target = some 1 ∧ s.heldInReset 3 = false)
    ∧ (let s := inState 2 { target := some 3, begun := true }
       s.entering 3 = true ∧ s.devState = 2 ∧ s.pwr.next = none)
    ∧ (let s : State := { inState 3 { target := some 0 } with boot := { cold := false } }
       s.running 0 = true ∧ s.devState = 3 ∧ s.pwr.target = some 0 ∧ s.pwr.tripHold = false ∧ s.pwr.exitFailed = false
        ∧ s.pins.pgRet = true ∧ s.pins.pgRun = true ∧ s.heldInReset 1 = false) := by decide +kernel

theorem witness_Supplies : (let s : State := { up with pwr.pmbus := some (.raise, 2, 1) }
      s.running 0 = true ∧ s.pwr.pmbus = some (.raise, 2, 1) ∧ 1 ≠ 2)
    ∧ (({ up with pwr.pmbus := some (.exit, 4, 0) } : State).pwr.pmbus = some (.exit, 4, 0))
    ∧ (({ up with pwr.pmbus := some (.lower, 0, 2) } : State).pwr.pmbus = some (.lower, 0, 2))
    ∧ (let s : State := { up with pwr.exitFailed := true }
       s.pwr.pmbus = none ∧ s.pwr.exitFailed = true)
    ∧ (up.running 0 = true ∧ up.pwr.pmbus = none ∧ up.pwr.voltage < 5 ∧ up.devState < 3)
    ∧ (let s : State := { up with pins := { porAsserted := true, pgRun := false } }
       s.pins.porAsserted = true ∧ s.pins.enRet = true ∧ s.pins.enRun = true ∧ s.pins.pgRet = true)
    ∧ ((up.pins.enRun && up.pins.pgRun) = true ∧ (up.pins.enRet && up.pins.pgRet) = true ∧ up.boot.staging = none ∧ 10 < 11)
    ∧ (let s : State := { up with pins := { pgRun := false } }
       (s.pins.enRun && !s.pins.pgRun) = true ∧ s.pins.porAsserted = false) := by decide +kernel

theorem witness_Thermal : up.running 0 = true ∧ hottest (([479, 300] : List Int).take 6) = some (479, 0)
    ∧ hottest (([0, 0, 0, 0, 0, 480, 999] : List Int).take 6) = some (480, 5) ∧ up.pwr.critical = false
    ∧ (up.lastTemp < up.thePlan.tHot)
    ∧ (let s := (inState 0 {}).put Reg.PWR_TEMP 400
       s.thePlan.tHot ≤ s.lastTemp ∧ s.pwr.hot = false ∧ s.awayFromS0 = false ∧ s.coolerMode.2 ≠ s.coolerMode.1)
    ∧ (let s : State := { inState 0 { hot := true } with mode := { thermalHold := true, held := some 1 } }
       s.pwr.hot = true ∧ s.lastTemp < s.thePlan.tHot - s.thePlan.hyst ∧ s.mode.thermalHold = true ∧ s.mode.held = some 1
        ∧ s.awayFromS0 = false) := by decide +kernel

theorem witness_Lookout : (executing.running 1 = true ∧ (executing.grove 1).run = some (execOf (.ctx 5)) ∧ executing.blockLive 0x11 = true
        ∧ (executing.grove 0).run = some (execOf (.stream 0)))
    ∧ thas (moving_ storing).dma.xfers 0 = true
    ∧ (let s := (ctxIn .swapped false).modGrove 1 (fun x => { x with swap := some { incoming := some 5, victims := [6] } })
       (s.grove 1).swap = some { incoming := some 5, victims := [6] } ∧ 5 ∉ ([6] : List Nat) ∧ (s.ctx 5).stopReq = false)
    ∧ (let s : State := { up.put Reg.LKT_SWD_MS 100 with lkt.serviceArmed := true }
       s.running 5 = true ∧ s.lkt.serviceArmed = true ∧ s.rn Reg.LKT_SWD_MS ≠ 0)
    ∧ (up.put Reg.VOUT_STATUS 1).rb Reg.VOUT_STATUS 0 = true
    ∧ (let s : State := { up.put Reg.LKT_MISS_LIMIT 2 with tick.missRun := [(31, 2)] }
       2 ≤ s.rn Reg.LKT_MISS_LIMIT ∧ s.rn Reg.LKT_MISS_LIMIT ≤ 1000 ∧ s.rn Reg.LKT_MISS_LIMIT ≤ tget 0 s.tick.missRun 31)
    ∧ up.reaches .kernel Reg.LKT_KICK_K ∧ up.reaches .kernel Reg.LKT_KICK_S ∧ up.reaches .kernel Reg.LKT_TILE_NS := by decide +kernel

theorem witness_ServiceTests : (let s : State := { planned with mode := { restart := true } }
      s.running 1 = true ∧ s.running 2 = true ∧ s.mode.restart = true ∧ s.mode.restartReady = false)
    ∧ (let s := (planned.put Reg.LKT_TEST_CFG 0x301).modGrove 1 (fun x => { x with logicDone := 255, delayDone := 15 })
       s.testTileOk 1 false = true ∧ s.testTileOk 1 true = true ∧ ((s.grove 1).logicDone + 1) % 256 = 0 ∧ ((s.grove 1).delayDone + 1) % 16 = 0)
    ∧ up.reaches .kernel Reg.LKT_TEST_REQ ∧ planned.testRefusal = none ∧ (inState 1 {}).testRefusal = some 5
    ∧ (let s : State := { planned with lkt.test := true }
       s.lkt.test = true ∧ ∀ g, g < 16 → s.role g = .open → s.groveQuiet g = true) := by decide +kernel

/-- The device with context 5 in a tenant slot, its keys derived, and quotas. -/
def tenant5 : List Byte := leBytes 4 0x00003005 ++ leBytes 4 0 ++ leBytes 4 512 ++ leBytes 4 0
def devKeys : DeviceKeys := { identity := 1, wrap := 1, id := (List.range 16).map (BitVec.ofNat 8) }
def tenanted (st : CtxState) : State :=
  { ctxIn st false with
    plan := { running := { twoModes with quota := quotas, tenants := [tenant5] } }
    sec := { seed := true, keys := devKeys, attestKey := some 1, certificate := [1] } }
/-- Mailbox `b` of a state with a request pending: OP, its LEN arguments, and TAG 255. -/
def ask (b op : Nat) (args : List Nat) (s : State) : State :=
  ((args.zip (List.range args.length)).foldl (fun s p => s.put (Reg.MBX_REQ b (1 + p.2)) p.1)
    (s.put (Reg.MBX_REQ b 0) (op + args.length * 2 ^ 16 + 255 * 2 ^ 24))).put (Reg.MBX_STATUS b) 1
def words_ (n : Nat) : List Nat := List.replicate n 0

theorem witness_MailboxProtocol : up.reaches .kernel (Reg.MBX_DOORBELL 1) ∧ up.mbxBusy 1 = false
    ∧ ((ask 1 0x25 [] up).reaches .kernel (Reg.MBX_DOORBELL 1) ∧ (ask 1 0x25 [] up).mbxBusy 1 = true)
    ∧ mbxOp ((up.put (Reg.MBX_REQ 1 0) 0x0F).mbxOpCode 1) = none ∧ mbxOp ((up.put (Reg.MBX_REQ 1 0) 0x27).mbxOpCode 1) ≠ none
    ∧ up.mbxDue 0 = false
    ∧ (let s := ask 1 0x0D [0, 0] up
       s.mbxDue 1 = true ∧ s.mbxOpCode 1 ≠ 0x0C ∧ s.mbxOpCode 1 = 0x0D ∧ ¬ (s.mbxLen 1 < 2 ∨ 63 < s.mbxLen 1))
    ∧ (let s := ask 1 0x27 [0, 0] up
       s.mbxDue 1 = true ∧ bitOf 1 1 = false ∧ s.mbxOpCode 1 = 0x27)
    ∧ (let s := ask 0 0x27 [0, 0, 0] up
       s.mbxDue 0 = true ∧ s.mbxOpCode 0 = 0x27 ∧ bitOf 1 0 = true ∧ s.mbxLen 0 < 4) := by decide +kernel

/-- CTX_START of a context with a ring at 0x10_0000_0000, `kib` of Grove SRAM and a PRIO. -/
def startArgs (c kib prio : Nat) : List Nat := [c, 0, 0x10, 16, kib, 2, prio, 10000]

theorem witness_ContextServices : (let s := ask 0 0x01 (startArgs 5 128 7) (tenanted .stopped)
      s.asked 0 0x01 8 ∧ s.hasCtx 5 = true ∧ (s.ctx 5).state = .stopped ∧ tenantCeil (s.thePlan.slotOf 5) ≤ 7
        ∧ 128 ≤ tenantMaxKib (s.thePlan.slotOf 5) ∧ s.thePlan.neverOpen 2 = false ∧ s.ddrFits 5 (128 / 4) = true
        ∧ tenantSeal (s.thePlan.slotOf 5) = false)
    ∧ (let s := ask 0 0x01 (startArgs 5 512 7) (tenanted .stopped)
       s.asked 0 0x01 8 ∧ 512 ≤ tenantMaxKib (s.thePlan.slotOf 5) ∧ s.ddrFits 5 (512 / 4) = false)
    ∧ (let s := ask 0 0x01 (startArgs 127 64 0) (tenanted .ready)
       s.asked 0 0x01 8 ∧ s.hasCtx 127 = false ∧ s.hasCtx 5 = true ∧ (s.ctx 5).state ≠ .stopped ∧ ¬ tenantCeil (s.thePlan.slotOf 5) ≤ 2)
    ∧ (let s := ask 0 0x02 [5] (tenanted .ready)
       s.asked 0 0x02 1 ∧ s.hasCtx 5 = true ∧ (s.ctx 5).state ≠ .stopped ∧ s.inSwap 5 = false
        ∧ (∀ g, g < 16 → (s.grove g).run = none))
    ∧ (let s := (tenanted .running).modGrove 1 (fun x => { x with run := some (execOf (.ctx 5)) })
       (s.grove 1).run = some (execOf (.ctx 5)) ∧ (execOf (.ctx 5)).owner = .ctx 5)
    ∧ (ask 0 0x03 [5, 3] (tenanted .ready)).asked 0 0x03 2 ∧ (ask 0 0x03 [5, 2] (tenanted .ready)).asked 0 0x03 2 := by decide +kernel

/-- A package of 16 bytes 0x05 for this device (Table 19.9), sealed with the model's own AES under a content key of 32 zero bytes
and wrapped under the base point. -/
def package : List Byte :=
  [0x57504B470000010050010000010100000000000010000000000000000000000000000000ADCD479C203826B0298955EF60E62EAF00000000,
   0x41D1C64F068CF45FFA2A63A81B7C13F6B8847A3E77EF14FE3DB7FCAFE0CBD10E8E826E03436D646AAEF87B2E247D4AF,
   0x1E8ABE1D7520F9C2A45CB1EB8E95CFD55262B70B29FEEC5864E19C054FF99129280E4646217791811142820341263C531500000000000000,
   0x0,
   0x102030405060708090A0B0C0D0E0F0C5D6469343EF9FA,
   0x8959322D8F24096FDAAFBE7C69CAC47504DA66CE1E2EB9A4F5F80ED782E5971AC60CEFD0E6BF11A5CBA2453848656E6B024BC0D6BFF6981D].flatMap (beBytes 56)
/-- Its digest, and that of 512 bytes 0xFF. -/
def digests : List Nat :=
  [31143479835500095468702299401150634138453712519234217396523876174114844384517516816777573512198881147346965445248458,
   35635782480896960037116857864284084425194279698729041044812220392294568827869255904065828157780496544113034053958758]
def digestOf (i : Nat) : List Byte := beBytes 48 (nth 0 digests i)
def digestArgs (i : Nat) : List Nat := (List.range 12).map (fun j => u32 (digestOf i) (4 * j))
def loadState : State :=
  let s : State := { tenanted .ready with
    sec := { seed := true, keys := devKeys }
    tiers := { objs := [(0, { owner := 5, place := 0, tiles := 1, host := true, hostBase := 0x1000020000 }),
                         (4095, { owner := 5, place := 0, tiles := 1 })] } }
  let s := { s with mem := ((List.range 336).zip package).filterMap (fun p => if p.2 = 0 then none else some ⟨0x1000020000 + p.1, p.2⟩) }
  ask 0 0x07 ([5, 0, 0, 4095] ++ digestArgs 0) s

theorem witness_ContextServices_packages : (let s := loadState
      let digest := (List.range 12).flatMap (fun i => leBytes 4 (s.mbxArg 0 (5 + i)))
      s.asked 0 0x07 16 ∧ s.sec.seed = true ∧ s.hasCtx 5 = true ∧ s.hasObj 0 = true ∧ (s.obj 0).host = true
        ∧ s.rdLE 0x1000020008 4 = 336 ∧ s.rdBytes 0x1000020000 336 = package ∧ (s.packagesOf 5).length < 64 ∧ digest = digestOf 0
        ∧ (s.obj 4095).owner = 5 ∧ (s.obj 4095).host = false ∧ (s.obj 4095).sealed = false ∧ (s.obj 4095).state = .ready
        ∧ s.objBusy 4095 = false)
    ∧ (let pkg := package
       sha384 pkg = digestOf 0 ∧ pkgHeaderOk pkg = true ∧ pkgTarget pkg = 0 ∧ ceilDiv (pkgPayload pkg) 4096 ≤ 1)
    ∧ pkgEntry { devKeys with id := [] } package = none := by decide +kernel
theorem witness_ContextServices_opens :
    (match openPackage devKeys package (digestOf 0) with | .ok p => p == List.replicate 16 5 | .error _ => false) = true
    ∧ (match openPackage { devKeys with wrap := 0 } package (digestOf 0) with | .ok _ => false | .error e => e == 0xA) = true := by
  decide +kernel

theorem witness_WindowServices : (let s := ask 0 0x04 [0x0003, 0x90000000, 0, 0x1000] (tenanted .ready)
      s.asked 0 0x04 4 ∧ (0x0003 &&& 0x0FFF7FF7) = 0x0003)
    ∧ (let s := ask 0 0x04 [0x7F03, outboundBase % 2 ^ 32, outboundBase / 2 ^ 32, 0x1000] (tenanted .ready)
       let e : WinEntry := { w0 := 0x7F03, base := outboundBase, size := 0x1000 }
       s.asked 0 0x04 4 ∧ (0x7F03 &&& 0x0FFF7FF7) = 0x7F03 ∧ e.init ≤ 2 ∧ e.ctx = 0x7F ∧ bitOf 0x7F03 0 = true ∧ bitOf 0x7F03 6 = false
        ∧ 0 < e.size ∧ e.base % 4096 = 0 ∧ e.size % 4096 = 0 ∧ grantOutbound e = true ∧ bitOf (s.rn (Reg.SEC_WIN 0 0)) 0 = false)
    ∧ (let s := ask 0 0x05 [255] (windowed 0 true 0x402D0000 0x10000 up)
       s.asked 0 0x05 1 ∧ bitOf (s.rn (Reg.SEC_WIN 255 0)) 0 = true ∧ bitOf (s.rn (Reg.SEC_WIN 255 0)) 6 = false)
    ∧ (let s := ask 0 0x06 [15, 0x010502, 512, 0xFFFFFF, 0x1000, 0x10]
         (tenantWin ((tenanted .ready).modCtx 5 (fun k => { k with iso := 1 })))
       s.asked 0 0x06 6 ∧ s.hasCtx 5 = true ∧ (s.ctx 5).iso = 1 ∧ fld 0x010502 8 7 = 5 ∧ fld 0x010502 1 2 = 1 ∧ fld 0x010502 16 8 ≠ 0
        ∧ s.tenantWindow 5 0x1000001000 (roundUp (0x40 + 36 * 512) 4096) = true ∧ (∀ e ∈ s.seqt.entries, e.2.group ≠ 15))
    ∧ (let s := ask 0 0x0E [127, 0, 0, 0, 0, 4, 12] (up.put (Reg.QP_CFG 127) 1)
       s.asked 0 0x0E 7 ∧ s.rb (Reg.QP_CFG 127) 0 = true)
    ∧ (let o : Obj := { owner := 5, place := 0, tiles := 2, host := true, hostBase := 0x1000020000 }
       let s : State := { ask 0 0x0E [127, 1, 1, 5, 4095, 4, 4] (tenanted .ready) with tiers := { objs := [(4095, o)] } }
       s.asked 0 0x0E 7 ∧ s.hasCtx 5 = true ∧ s.rb (Reg.QP_CFG 127) 0 = false ∧ s.hasObj 4095 = true ∧ o.state ≠ .draining
        ∧ qpBytes 4 4 ≤ o.tiles * 4096 ∧ bitOf (s.rn (Reg.SEC_WIN 0 0)) 0 = false ∧ bitOf (s.rn (Reg.SEC_WIN 1 0)) 0 = false)
    ∧ (let s := ask 0 0x0E [127, 1, 0, 0, 0, 12, 12] (up.put Reg.SEC_SVC_BYTES_LO 0x80000)
       s.asked 0 0x0E 7 ∧ s.rb (Reg.QP_CFG 127) 0 = false ∧ roundUp (qpBytes 12 12) 4096 ≤ s.r64 Reg.SEC_SVC_BYTES_LO
        ∧ bitOf (s.rn (Reg.SEC_WIN 0 0)) 0 = false ∧ bitOf (s.rn (Reg.SEC_WIN 1 0)) 0 = false) := by decide +kernel

/-- A window of an initiator over 1 MiB at 0x10_0000_0000, with writes, as word 0 codes it. -/
def ddrWin (init : Nat) (s : State) : State :=
  (((s.put (Reg.SEC_WIN 9 0) (1 + init * 2 + 32 + 0x7F00)).put (Reg.SEC_WIN 9 1) 0).put (Reg.SEC_WIN 9 2) 0x10).put (Reg.SEC_WIN 9 3) 0x100000

theorem witness_DeviceServices : (ask 0 0x08 [0x1C] up).asked 0 0x08 1 ∧ (0x1C &&& 0x1C) = 0x1C ∧ (0x20 &&& 0x1C) ≠ 0x20
    ∧ (let s : State := { ask 0 0x09 [15, 4000] up with ddr := { trainDone := true, trainMask := 0xFF } }
       s.asked 0 0x09 2 ∧ s.swapRateOk 15 4000 = true ∧ s.swapRateOk 15 4001 = false)
    ∧ (let s := ask 0 0x0A [1] planned
       s.asked 0 0x0A 1 ∧ s.testRefusal = none ∧ (ask 0 0x0A [1] (inState 1 {})).testRefusal = some 5)
    ∧ (let s := ask 1 0x0B [2, 0, 0x10, 16] (ddrWin 1 up)
       s.asked 1 0x0B 4 ∧ s.running 8 = true ∧ ddrBase ≤ 0x1000000000 ∧ s.windowOk (.app 0) false true 0x1000000000 (16 * 8192) = true)
    ∧ (let s := ask 1 0x0B [1, outboundBase % 2 ^ 32, outboundBase / 2 ^ 32, 0x1000] up
       s.asked 1 0x0B 4 ∧ outboundBase % 4096 = 0)
    ∧ (let s := ask 0 0x0C [0xFF, 0, 0, 0, 0, 0, 0, 0, 0, 0, 0x10] (ddrWin 0 (tenanted .ready))
       s.asked 0 0x0C 11 ∧ s.badLines = [] ∧ s.sec.seed = true ∧ s.sec.attestKey = some 1 ∧ regionOf 0x1000000000 = .ddr
        ∧ s.reqWrites 0 0x1000000000 (0x110 + 64 * (s.reportEntries (0xFF % 256)).length + 256) = true ∧ s.hasCtx 127 = false)
    ∧ (let s := ask 1 0x0D [0, 0x10] (ddrWin 1 (tenanted .ready))
       s.asked 1 0x0D 2 ∧ s.sec.certificate ≠ [] ∧ s.reqWrites 1 0x1000000000 720 = true ∧ s.reqWrites 1 0x10000FFFFF 720 = false) := by
  decide +kernel

/-- The device with a staging session of an OS image of 512 bytes open. -/
def staging (s : State) : State := { s with boot := { cold := false, staging := some { component := 4, bytes := 512 } } }

theorem witness_UpdateServices : (let s := ask 0 0x20 [4, 0x1000] up
      s.asked 0 0x20 2 ∧ 0x1000 ≤ s.slotSize 4 ∧ s.boot.staging = none ∧ s.emmc.commit = .idle ∧ s.slotSelected 4 (s.inactiveSlot 4) = false)
    ∧ (let s := staging (ask 0 0x21 [0x100, 0, 0x10, 0x100] (ddrWin 0 up))
       s.boot.staging = some { component := 4, bytes := 512 } ∧ s.asked 0 0x21 4 ∧ s.reqReads 0 0x1000000000 0x100 = true
        ∧ regionOf 0x1000000000 = .ddr ∧ 0x100 % 256 = 0 ∧ 0x100 + 0x100 ≤ 512)
    ∧ (let s := staging (ask 0 0x22 (digestArgs 1) up)
       let img := padTo 0xFF 512 (s.slotBytes 4 (s.inactiveSlot 4))
       s.asked 0 0x22 12 ∧ (List.range 12).flatMap (fun i => leBytes 4 (s.mbxArg 0 (1 + i))) = digestOf 1 ∧ sha384 img = digestOf 1
        ∧ s.stagedOk 4 img = true) := by decide +kernel
theorem witness_UpdateServices_more : (staging (ask 0 0x22 (words_ 12) up)).asked 0 0x22 12
    ∧ (staging (ask 0 0x24 [] up)).asked 0 0x24 0 ∧ (ask 0 0x25 [] up).asked 0 0x25 0
    ∧ ((ask 0 0x21 (words_ 4) up).asked 0 0x21 4 ∧ (ask 0 0x22 (words_ 12) up).asked 0 0x22 12 ∧ (ask 0 0x24 [] up).asked 0 0x24 0
        ∧ up.boot.staging = none)
    ∧ (let s : State := { ask 0 0x23 [8] up with boot := { cold := false, staged := 8, stagedDigests := [[], [], [], sha384 []] } }
       s.asked 0 0x23 1 ∧ (8 &&& s.boot.staged) = 8 ∧ s.emmc.commit = .idle ∧ s.emmc.readable = true ∧ s.stagedMatch 8 = true
        ∧ s.flash.dir.gen + 1 < 2 ^ 32)
    ∧ (let s := ask 0 0x26 [up.dataStart, 2048, 0, 0x10] (ddrWin 0 up)
       s.asked 0 0x26 4 ∧ s.badLines = [] ∧ s.dataStart ≤ up.dataStart ∧ s.emmc.readable = true
        ∧ s.reqWrites 0 0x1000000000 (512 * 2048) = true)
    ∧ (let s := ask 0 0x27 [up.dataStart, 2048, 0, 0x10] (ddrWin 0 up)
       s.asked 0 0x27 4 ∧ s.reqReads 0 0x1000000000 (512 * 2048) = true) := by decide +kernel

/-- The link up and queue pair 127 bound to the service core, its rings of 16 entries. -/
def queued : State := linked.put (Reg.QP_CFG 127) 0x00440001

theorem witness_Pcie : (linked.acts .pcie = true ∧ linked.blockLive 0x2B = true ∧ linked.pci.linkUp = true)
    ∧ (up.running 0 = true ∧ (up.dom 1).power ≠ .off ∧ up.pci.linkUp = false)
    ∧ tfind ({ linked with staged := [(Reg.PCI_OB_BASE_LO, 5)] } : State).staged Reg.PCI_OB_BASE_LO = some 5
    ∧ (queued.qpOn 127 = true ∧ 15 < queued.sqSize 127 ∧ 15 < queued.cqSize 127 ∧ queued.sqSize 127 ≤ 16 ∧ queued.cqSize 127 ≤ 16)
    ∧ queued.reaches .kernel (Reg.QP_SQ_HEAD 127) ∧ queued.reaches .kernel (Reg.QP_CQ_TAIL 127) ∧ queued.reaches .kernel (Reg.PCI_SQ_PEND 3)
    ∧ bitOf (queued.msixWord (4 * 127 + 3)) 0 = true
    ∧ bitOf (({ queued with pci.msix := [(4 * 127 + 3, 0)] } : State).msixWord (4 * 127 + 3)) 0 = false := by decide +kernel

/-- The management port up, with the keys of the device, a credential, and perhaps a session and a challenge. -/
def managed (cred : List Byte) (session : Option Session) (challenge : Option (List Byte)) : State :=
  { tenanted .ready with emmc.credential := cred, mgt := { link := true, session := session, challenge := challenge } }
/-- An OPEN whose signature holds of 32 zero bytes and DEVICE_ID under `openKey`: r and s are the digest, and the key is chosen to it. -/
def openSig : Nat :=
  0x70a427ee10e18cc264b6d51ace4e868ac15795a8d4d1bdfab25dd5fcacd35fc77d65510be8f340980548d28deafb2957
def openKey : Nat × Nat :=
  (0x39995a0aae0ec44efbac70edc2cef7e46e0b50d98af88a7e757dce9633050f4fc983f08c7023072cb1f27ca05a3a9e79,
   0x37e456eaf00eaa65e1b6bc4ed17ab879411a663e9b5c95e720e8c5024f1554c61b77aa52966dfd20198ab96f26163db0)

theorem witness_ManagementPort : (up.running 0 = true ∧ up.mgt.link = false)
    ∧ (let s := managed (keyBytes (some openKey)) none (some (List.replicate 32 0))
       let d := dg 1 (beBytes 48 openSig ++ beBytes 48 openSig)
       s.running 1 = true ∧ s.mgt.link = true ∧ s.blockLive 0x2C = true ∧ d.payload.length ≤ 1280 ∧ d.seq = 1 ∧ s.credential ≠ []
        ∧ ecdsaVerify s.credential (List.replicate 32 0 ++ s.devId) (beNat (slice d.payload 0 48)) (beNat (slice d.payload 48 48)) = true)
    ∧ (({ managed [] none none with pins.mgtEnroll := true } : State).pins.mgtEnroll = true ∧ (managed [] none none).emmc.credential = []
        ∧ (managed [] none none).sec.seed = true ∧ (managed [] none none).emmc.readable = true
        ∧ (keyBytes ecG).length = 97 ∧ (readKey (keyBytes ecG)).isSome = true)
    ∧ (managed [] (some { challenge := [], lastSeq := 7 }) none).mgt.session.isSome = true := by decide +kernel

/-- A session whose challenge is 32 bytes `ch`, request 2 of it with a body, and a signature that holds of it by its key as above. -/
def signedAsk (ch : Byte) (body : List Byte) (e x y : Nat) : State × Session × Datagram :=
  let ss : Session := { challenge := List.replicate 32 ch, lastSeq := 1 }
  (managed (keyBytes (some (x, y))) (some ss) none, ss, { seq := 2, payload := body, sigR := e, sigS := e })
/-- The request is valid, and its words are these. -/
def valid_ (r : State × Session × Datagram) (ws : List Nat) : Bool :=
  r.1.running 1 && r.1.mgt.link && decide (r.1.mgt.session = some r.2.1) && r.2.2.seq != r.2.1.lastSeq
    && r.1.requestValid r.2.1 r.2.2 && decide ((List.range ws.length).map (mgmtWord r.2.2) = ws)
def askNone : State × Session × Datagram :=
  signedAsk 0 []
    0x358BBA7B969E67C8B45FF7188AAF532F4121FE3B2A954BDEA3D904EF5194F247D415B715C2493F550FE545C74892992F
    0x15AD95D7DB7DAF1DFA09D6C9CE1A1E0F44DED704515C816DFD62CD94656376D9DAE64568030CE7846B2FC94C5C9FA80D
    0x6994F66803BE2613AAAC33E4EAF29F77EBA53ED7EC8E2BD1BCCE5C5CFD934BA72E2EEC1DF2680FC5982D0AAAF068607A
def askZeros : State × Session × Datagram :=
  signedAsk 3 (leBytes 4 0 ++ leBytes 4 0 ++ leBytes 4 1 ++ List.replicate 28 0)
    0x787EA17A5701E9BFA3D17166000737CA23837EEA95E67F1916E26FF507C57325681BA83A36543E252C472101892BFAC7
    0x6039641D71118FCBAACE7D61B970991642ADE02DE35020C98AB055FC7F10FF6C65C242893B0DC4EA3C7FCE2FD7486511
    0x482B3F545FCD997A605FFBA1919850CA74C8797DE853719E5ACB9D2A8983974BEBAE71107B846C70F172FE3878F535DC
def askResets : State × Session × Datagram :=
  signedAsk 2 (leBytes 4 0x13C ++ List.replicate 36 0)
    0x193D04BBF01563933E74FEECDA7A735D73CFD8FC3B478DE35736C7FAB689CF55FC6D61D12D773C7BC816CE6F3A00495B
    0x3EABAD2EF91C9540B64D1E08CD409FA6DE17314B0586BDE26E073620B3B33BE02D2CFA953B5155646ABB50DE57A568C3
    0x2CE32153EA17CFB12672E7ABF856CC4D67F9F42467D1372C76788EAEB1110FCABD73168F240CAC6AF4262DEA7AD7A4C6
def askOne : State × Session × Datagram :=
  signedAsk 7 (leBytes 4 1)
    0x13BC67B70B35E6D0FD8B7253B9AAFD8CD82FED84DD391B7C3FB413B1CFF0297137170E4ADF7BD3DC08A38A7D310F0467
    0x3E9A2564DC347F16D6BBEB780B8A6F8532D41C03AF5DDB557A4B9F8D5C68F26C58E4FC563AB62C265FE4BC5BF9ED7063
    0xFEC1168F121C0908EA3452401F8F7A1B59FB03E8C64CC9B3277AD8FACB2D127623C66D7DA3822559D114C4ABC5CB461
def askOpen : State × Session × Datagram :=
  signedAsk 1 (leBytes 4 0x20 ++ leBytes 4 4 ++ leBytes 4 0x1000)
    0x22D406B680A8496F6D0C1AA0F06DF6C76973194419A9772E2E9159EC45578B45954A793F51F2015646731E39C920CF62
    0x73B8CD87BFF9B97716FB11E62150DDA814F25FCD2448F77A416CF0873B89F74C7FCF5113D90273F1AC7774A540F059F3
    0x867CE2C4D6E58A5996F3CABBEFCEA5EED6F7D487B9BA8459CBD93AEFDE5448F5A3C36E729FFBE6E4F1E43A30D27CCAAD
def askWrite : State × Session × Datagram :=
  signedAsk 2 (leBytes 4 0x21 ++ leBytes 4 0 ++ leBytes 4 256 ++ List.replicate 256 0)
    0x78650B22C39E2F72086A138B3CFF33C8196480D48DD23D2F3B43ACDBDBA5999350672ACC6715ACD308192002077889AE
    0x39549E7D8BE8D688EC04BDBE6A295F41A59354E0B217645A61E9812E8F97C6FDF6F63C1B51FD3293554665E0452A470E
    0x730EAAD91475082E3F60E70116A359905E0DDD80CA40A8BC42835BF9D0646ECDB3AB4328380AB7DC30583BD9FE2ADC7A
def askRead : State × Session × Datagram :=
  signedAsk 4 (leBytes 4 0x26)
    0x5DEE2E97A9C4A77238A551997150C55DBC93B45A73E8A911C9E506AEF39395102F6FA62A6933A341B7DA6969B30F0203
    0x195BA6E92A5D6E9DD5E6FCE6454E515C2F5CECF0F75C3908365F296C4C3907BCF4EBC6E9CC11693294124C090B03AB96
    0xEC8FC448A9BAAC86DB25B1ECDBA2D196A80779E443C56DD9A1C48AA41313401249FCED1E40D358924CBBB2990121F36
def askKey : State × Session × Datagram :=
  signedAsk 3 (keyBytes ecG)
    0x3831241B45B98153C6FFFAF4C1549454E4690D91F08DD3F529B1E39B1AB3C3EA9DAA4ECB08A0BA67A0E4BBDA3CD278E1
    0xAE2BCCEA1FB6E4F163A22D6761D9977D3A9859DC68BC3D4A6BB123E9939DBDD8212C625C7ADEBA3B23A4DAEC8058FD
    0x493E6173C0E3F3727470CBCC2B5CD8CF7778AEF579C01662A616F2452D2951B81AD886478C089E678B709882A8771F80
def askSlot : State × Session × Datagram :=
  signedAsk 0 (leBytes 4 3 ++ keyBytes ecG)
    0xE017ABD8A8AB5A259BA22BDFA3543F6EA67B9F86C0E73A62F3DEB6CD98FF1AE4DBF4C5AB7B31955D7DA658EC178BA2C
    0xF6C7225A0D68799D2EFB69C63BC3CF60759157C76844DD662CF449F39EEEEE2F20D3D501DC4D2D4FE8B8584859FC26D
    0x1CC0BF8CB1A0EC7C16A671A6B7F7306C3201F2DC3B91C9BBE74E6C165D19673E19B0FC139CF03E4BD8EB6CB89969D97E
theorem witness_ManagementRequests : up.mgt.session = none
    ∧ (let s := managed [] (some { challenge := [], lastSeq := 7 }) none
       (dg 8 []).seq ≠ 7 ∧ s.requestValid { challenge := [], lastSeq := 7 } (dg 8 []) = false)
    ∧ valid_ askNone [] = true ∧ askNone.1.boot.staging = none ∧ askNone.1.testRefusal = none
    ∧ valid_ askZeros [0, 0, 1, 0, 0, 0, 0, 0, 0, 0] = true ∧ tfind askZeros.1.evr.last 0 = none
    ∧ valid_ askResets [0x13C] = true ∧ (0x13C &&& 0x13C) = 0x13C ∧ 128 ≤ 0x13C := by decide +kernel
theorem witness_ManagementRequests_more : valid_ askOne [1] = true ∧ (1 &&& 0x13C) ≠ 1
    ∧ valid_ askOpen [0x20, 4, 0x1000] = true ∧ 0x1000 ≤ askOpen.1.slotSize 4
    ∧ askOpen.1.slotSelected 4 (askOpen.1.inactiveSlot 4) = false
    ∧ valid_ askWrite [0x21, 0, 256] = true ∧ askWrite.2.2.payload.length = 12 + 256
    ∧ valid_ askRead [0x26] = true := by decide +kernel
theorem witness_ManagementRequests_keys : valid_ askKey [] = true ∧ askKey.2.2.payload.length = 97
    ∧ (readKey askKey.2.2.payload).isSome = true
    ∧ valid_ askSlot [3] = true ∧ (askSlot.2.2.payload.drop 4).length = 97 ∧ (readKey (askSlot.2.2.payload.drop 4)).isSome = true := by
  decide +kernel

end Sys2Proof.Tests
end

section
/-! SUPPORT. Laws for the statements of chapter 0: numbers in memory and in bit fields, frames that compose, and what a
register write, a denial and an access to plain memory do. -/
namespace Sys2Proof.Machine
open Sys2Proof

/-! ### Numbers, bytes and bit fields (R4) -/

@[simp] theorem length_leBytes (n v : Nat) : (leBytes n v).length = n := by
  induction n generalizing v with
  | zero => rfl
  | succ n ih => simp [leBytes, ih]

theorem nth_leBytes (n v i : Nat) (h : i < n) : nth 0 (leBytes n v) i = BitVec.ofNat 8 (v / 256 ^ i) := by
  induction n generalizing v i with
  | zero => omega
  | succ n ih =>
    cases i with
    | zero => simp [leBytes, nth]
    | succ i =>
      have := ih (v / 256) i (by omega)
      rwa [Nat.div_div_eq_div_mul, ← Nat.pow_succ'] at this

theorem leNat_leBytes (n v : Nat) : leNat (leBytes n v) = v % 256 ^ n := by
  induction n generalizing v with
  | zero => simp [leBytes, leNat, Nat.mod_one]
  | succ n ih =>
    have hbyte : (BitVec.ofNat 8 v).toNat = v % 256 := BitVec.toNat_ofNat v 8
    have hpow : 256 ^ (n + 1) = 256 * 256 ^ n := Nat.pow_succ'
    rw [leBytes, leNat, ih, hbyte, hpow, Nat.mod_mul]

/-- A field reads as it was written. -/
theorem fld_setFld_same (x lo w v : Nat) : fld (setFld x lo w v) lo w = v % 2 ^ w := by
  have hlow : x % 2 ^ lo < 2 ^ lo := Nat.mod_lt _ (Nat.two_pow_pos lo)
  have hsplit : setFld x lo w v = x % 2 ^ lo + 2 ^ lo * (v % 2 ^ w + 2 ^ w * (x / 2 ^ (lo + w))) := by
    unfold setFld; rw [Nat.pow_add, Nat.mul_add]; ac_rfl
  rw [fld, hsplit, Nat.add_mul_div_left _ _ (Nat.two_pow_pos lo), Nat.div_eq_of_lt hlow, Nat.zero_add,
    Nat.add_mul_mod_self_left, Nat.mod_mod]

/-- A field within the low `n` bits does not see the others. -/
theorem fld_mod_two_pow (x lo w n : Nat) (h : lo + w ≤ n) : fld (x % 2 ^ n) lo w = fld x lo w := by
  obtain ⟨m, rfl⟩ := Nat.exists_eq_add_of_le (Nat.le_trans (Nat.le_add_right lo w) h)
  unfold fld
  rw [Nat.pow_add, Nat.mod_mul_right_div_self, Nat.mod_mod_of_dvd _ (Nat.pow_dvd_pow 2 (by omega))]

theorem bitOf_eq_fld (x n : Nat) : bitOf x n = (fld x n 1 == 1) := rfl

theorem State.rdBytes_eq (s : State) (a : Nat) (bs : List Byte) (h : ∀ i, i < bs.length → s.rd8 (a + i) = nth 0 bs i) :
    s.rdBytes a bs.length = bs := by
  induction bs generalizing a with
  | nil => rfl
  | cons b bs ih =>
    have hhead : s.rd8 a = b := h 0 (Nat.zero_lt_succ _)
    have htail : s.rdBytes (a + 1) bs.length = bs := by
      refine ih (a + 1) fun i hi => ?_
      rw [Nat.add_assoc, Nat.add_comm 1 i]
      exact h (i + 1) (Nat.succ_lt_succ hi)
    rw [List.length_cons, State.rdBytes, hhead, htail]

theorem State.rd8_wrBytes_nth (s : State) (a : Nat) (bs : List Byte) (ha : 0x3FFFF < a) {i : Nat} (hi : i < bs.length) :
    (s.wrBytes a bs).rd8 (a + i) = nth 0 bs i := by
  rw [s.rd8_wrBytes_inside a bs ha hi, nth, List.getD_eq_getElem?_getD, List.getElem?_eq_getElem hi, Option.getD_some]

theorem State.rd8_wrLE_inside (s : State) (a n v : Nat) (ha : 0x3FFFF < a) {i : Nat} (hi : i < n) :
    (s.wrLE a n v).rd8 (a + i) = BitVec.ofNat 8 (v / 256 ^ i) := by
  rw [State.wrLE, s.rd8_wrBytes_nth a _ ha (by simpa using hi), nth_leBytes n v i hi]

theorem State.rd8_wrLE_outside (s : State) (a n v : Nat) {x : Nat} (h : x < a ∨ a + n ≤ x) : (s.wrLE a n v).rd8 x = s.rd8 x :=
  s.rd8_wrBytes_outside a _ (by simpa using h)

/-- A number stored reads back as its low bytes. -/
theorem State.rdLE_wrLE (s : State) (a n v : Nat) (ha : 0x3FFFF < a) : (s.wrLE a n v).rdLE a n = v % 256 ^ n := by
  have hbytes := (s.wrLE a n v).rdBytes_eq a (leBytes n v) fun i hi => s.rd8_wrBytes_nth a _ ha hi
  rw [length_leBytes] at hbytes
  rw [State.rdLE, hbytes, leNat_leBytes]

/-! ### Frames -/

variable {s t u : State}

theorem Part.same_trans {p : Part} (h : p.same s t) (k : p.same t u) : p.same s u := by cases p <;> exact k.trans h

theorem ChangesOnly.trans {ps : List Part} (h : ChangesOnly ps s t) (k : ChangesOnly ps t u) : ChangesOnly ps s u :=
  fun p hp => Part.same_trans (h p hp) (k p hp)

theorem ChangesOnly.mono {ps qs : List Part} (h : ChangesOnly ps s t) (sub : ps ⊆ qs) : ChangesOnly qs s t :=
  fun p hp => h p fun hq => hp (sub hq)

theorem State.answer_changesOnly (s : State) (b : BusAnswer) : ChangesOnly [.bus] s (s.answer b) := by
  intro p hp; cases p <;> simp [Part.same] at hp ⊢

theorem State.setReg_changesOnly (s : State) (k v : Nat) : ChangesOnly [.regs] s (s.setReg k v) := by
  intro p hp; cases p <;> simp [Part.same] at hp ⊢

theorem State.count_changesOnly (s : State) (k n : Nat) : ChangesOnly [.regs] s (s.count k n) := by
  intro p hp; cases p <;> simp [Part.same] at hp ⊢

theorem State.evt_changesOnly (s : State) (k n : Nat) : ChangesOnly [.regs] s (s.evt k n) := by
  intro p hp; cases p <;> simp [Part.same] at hp ⊢

theorem State.report_changesOnly (s : State) (code src : Nat) (args : List Nat) (ctx stream : Option Nat) :
    ChangesOnly [.regs, .evr] s (s.report code src args ctx stream) := by
  intro p hp; cases p <;> simp [Part.same] at hp ⊢

theorem State.wrLE_changesOnly (s : State) (a n v : Nat) : ChangesOnly [.mem, .lost, .badLines, .ddr] s (s.wrLE a n v) := by
  intro p hp; cases p <;> simp [Part.same] at hp ⊢

@[simp] theorem State.rn_answer (s : State) (b : BusAnswer) (k : Nat) : (s.answer b).rn k = s.rn k := rfl

theorem State.running_congr (hd : t.domains = s.domains) (d : Nat) : t.running d = s.running d := by
  unfold State.running State.inReset State.dom; rw [hd]

theorem State.blockDomain_congr (hg : t.groves = s.groves) (b : Nat) : t.blockDomain b = s.blockDomain b := by
  unfold State.blockDomain State.role State.grove; rw [hg]

/-- Whether a block answers depends on the domains and the Groves alone. -/
theorem State.blockLive_congr (hd : t.domains = s.domains) (hg : t.groves = s.groves) (b : Nat) : t.blockLive b = s.blockLive b := by
  unfold State.blockLive
  rw [State.blockDomain_congr hg]
  cases s.blockDomain b with
  | none => rfl
  | some d => exact State.running_congr hd d

/-! ### Register fields and pairs (R6, R7) -/

theorem State.rn_storeReg (s : State) (kernel : Bool) (k v j : Nat) :
    (s.storeReg kernel k v).rn j =
      if j = k then ((regFields k).foldl (fieldStore kernel (!s.written.contains k) v) (s.rn k)) % 2 ^ 32 else s.rn j := by
  unfold State.storeReg
  dsimp only
  split <;> exact State.rn_setReg _ _ _ _

theorem State.storeReg_changesOnly (s : State) (kernel : Bool) (k v : Nat) :
    ChangesOnly [.regs, .written] s (s.storeReg kernel k v) := by
  unfold State.storeReg
  dsimp only
  split
  · intro p hp; cases p <;> simp [Part.same] at hp ⊢
  · exact (s.setReg_changesOnly k _).mono (by simp)

theorem State.storePair_lo (s : State) (kernel : Bool) (k v : Nat) (h : isLo k = true) :
    s.storePair kernel k v = { s with staged := tput s.staged k (BitVec.ofNat 32 v) } := by
  unfold State.storePair; rw [if_pos h]

theorem isHi_add_four (k : Nat) : isHi (k + 4) = isLo k := by simp [isHi]

/-- A write of `_HI` with `_LO` staged commits both halves, and nothing stays staged. -/
theorem State.storePair_hi (s : State) (kernel : Bool) (k v : Nat) (w : Word) (hlo : isLo k = true) (hhi : isLo (k + 4) = false)
    (hs : tfind s.staged k = some w) :
    s.storePair kernel (k + 4) v = { (s.storeReg kernel k w.toNat).storeReg kernel (k + 4) v with
      staged := tdel (s.storeReg kernel k w.toNat).staged k } := by
  simp only [State.storePair, hhi, isHi_add_four, hlo, Nat.add_sub_cancel, hs, if_true, Bool.false_eq_true, if_false]

theorem State.storePair_single (s : State) (kernel : Bool) (k v : Nat) (hlo : isLo k = false) (hhi : isHi k = false) :
    s.storePair kernel k v = s.storeReg kernel k v := by
  simp only [State.storePair, hlo, hhi, Bool.false_eq_true, if_false]

theorem State.readPair_lo (s : State) (k v hi : Nat) (h : isLo k = true) :
    s.readPair k v hi = ({ s with captured := tput s.captured (k + 4) (BitVec.ofNat 32 hi) }, v) := by
  unfold State.readPair; rw [if_pos h]

theorem State.readPair_captured (s : State) (k v hi : Nat) (w : Word) (h : isLo k = false) (hc : tfind s.captured k = some w) :
    s.readPair k v hi = ({ s with captured := tdel s.captured k }, w.toNat) := by
  simp only [State.readPair, h, hc, Bool.false_eq_true, if_false]

/-! ### The register map's keys -/

theorem blockRows_beyond {b : Nat} (h : 0x2E ≤ b) : blockRows b = [] := by
  unfold blockRows
  rw [if_neg (by omega)]
  split
  case h_25 => rfl
  all_goals omega

/-- A key that the map lists lies in the register window. -/
theorem key_lt_of_findRow {k : Nat} (h : (findRow k).isSome = true) : k < 0x1000000 := by
  refine Nat.lt_of_not_le fun hk => ?_
  have hnone : findRow k = none := by rw [findRow, blockRows_beyond (by omega), List.find?_nil]
  rw [hnone, Option.isSome_none] at h
  exact Bool.false_ne_true h

/-- A key whose row is missing has no field, and so none that is RK. -/
theorem findRow_of_regIsRk {k : Nat} (h : regIsRk k = true) : (findRow k).isSome = true := by
  cases hrow : findRow k with
  | some r => rfl
  | none =>
    rw [regIsRk, regFields, hrow, Option.map_none, Option.getD_none, List.any_nil] at h
    exact absurd h Bool.false_ne_true

theorem key_lt_of_rkReg {k : Nat} (h : rkReg k = true) : k < 0x1000000 := by
  rcases (Bool.or_eq_true _ _).mp h with hfield | hvote
  · exact key_lt_of_findRow (findRow_of_regIsRk hfield)
  · rw [beq_iff_eq.mp hvote]; decide

theorem regAddr_eq (k : Nat) : regAddr k = 0x40000000 + k := rfl

theorem regAddr_sub (k : Nat) : regAddr k - regBase = k := Nat.add_sub_cancel_left ..

theorem regionOf_regAddr {k : Nat} (h : k < 0x1000000) : regionOf (regAddr k) = .registers (k / 0x10000) := by
  have haddr := regAddr_eq k
  unfold regionOf
  repeat rw [if_neg (by omega)]
  rw [if_pos (by omega), haddr, Nat.add_sub_cancel_left]

theorem wordSpan_regAddr {k : Nat} (h : k % 4 = 0) : wordSpan (regAddr k) 4 = (regAddr k, 4) := by
  have haligned : regAddr k / 4 * 4 = regAddr k := by rw [regAddr_eq]; omega
  unfold wordSpan
  rw [if_neg (by omega), haligned]

/-! ### A 32-bit write of a register (R5, R7, R19) -/

theorem completes_registerWrite {s : State} {i : Initiator} {a n v : Nat} {P : State → Prop} (h : P (s.access i .write a n v 0)) :
    Completes (.registerWrite i a n v) s P := ⟨_, rfl, h⟩

theorem State.access_register (s : State) (i : Initiator) (kind : AccessKind) (k v : Nat) (hacts : s.acts i = true)
    (hlt : k < 0x1000000) : s.access i kind (regAddr k) 4 v 0 = s.registerAccess i kind (regAddr k) 4 v := by
  unfold State.access
  rw [hacts, regionOf_regAddr hlt]
  rfl

theorem State.access_registerWrite_pass (s : State) (i : Initiator) (k v : Nat) (hk : k % 4 = 0) (hlt : k < 0x1000000)
    (hr : s.reaches i k) : s.access i .write (regAddr k) 4 v 0 = (s.writeReg i k (v % 2 ^ 32)).answer .done := by
  obtain ⟨hacts, hpass⟩ := hr
  have hwrite : (AccessKind.write == AccessKind.write) = true := rfl
  rw [s.access_register i .write k v hacts hlt, State.registerAccess, wordSpan_regAddr hk]
  simp only [hwrite, hpass, regAddr_sub, State.wordAccess, hk, and_self, if_true]

theorem State.access_registerWrite_denied (s : State) (i : Initiator) (k v : Nat) (hk : k % 4 = 0) (hlt : k < 0x1000000)
    (hacts : s.acts i = true) (hdenied : s.gate i (regAddr k) 4 true = .denied) :
    s.access i .write (regAddr k) 4 v 0 = s.denyAccess i (regAddr k) true := by
  have hwrite : (AccessKind.write == AccessKind.write) = true := rfl
  rw [s.access_register i .write k v hacts hlt, State.registerAccess, wordSpan_regAddr hk]
  simp only [hwrite, hdenied]

/-- The blocks none of whose registers has an effect of its own. -/
theorem State.regEffect_plain (s : State) (i : Initiator) (k v : Nat)
    (hb : k / 0x10000 ∈ [0x06, 0x09, 0x21, 0x22, 0x23, 0x28, 0x29, 0x2C, 0x2D]) :
    s.regEffect i k v = s.storePair (decide (i = .kernel)) k v := by
  simp only [List.mem_cons, List.not_mem_nil, or_false] at hb
  unfold State.regEffect State.plainStore
  rcases hb with hb | hb | hb | hb | hb | hb | hb | hb | hb <;> rw [hb] <;> rfl

theorem State.writeReg_plain (s : State) (i : Initiator) (k v : Nat)
    (hb : k / 0x10000 ∈ [0x06, 0x09, 0x21, 0x22, 0x23, 0x28, 0x29, 0x2C, 0x2D]) (hrow : (findRow k).isSome = true)
    (hlo : isLo k = false) (hhi : isHi k = false) (hrk : rkReg k = false ∨ i = .kernel) :
    s.writeReg i k v = s.storeReg (decide (i = .kernel)) k (v % 2 ^ 32) := by
  have hopen : (rkReg k && decide (i ≠ .kernel)) = false := by rcases hrk with h | h <;> simp [h]
  have hlisted : (findRow k).isNone = false := by rw [← Option.not_isSome, hrow]; rfl
  rw [State.writeReg, hopen, hlisted, if_neg Bool.false_ne_true, if_neg Bool.false_ne_true, s.regEffect_plain i k _ hb,
    s.storePair_single _ _ _ hlo hhi]

theorem State.writeReg_rk (s : State) (i : Initiator) (k v : Nat) (hrk : rkReg k = true) (hi : i ≠ .kernel) :
    s.writeReg i k v = s.denyRk i k := by
  simp [State.writeReg, hrk, hi]

/-! ### Denials (R7, R19) -/

/-- What every denial leaves: the count, the event bit and the access-fault event. -/
def State.recordDenial (s : State) (code : Nat) (args : List Nat) : State :=
  ((s.count Reg.SEC_DENIED 1).evt Reg.SEC_EVT 1).report code 0x01 args

theorem State.denyRk_eq (s : State) (i : Initiator) (k : Nat) :
    s.denyRk i k = (s.recordDenial 0x0A02 [initCode i, regAddr k]).answer .done := rfl

theorem State.denyAccess_eq (s : State) (i : Initiator) (a : Nat) (write : Bool) (hi : i ≠ .pcie) :
    s.denyAccess i a write = (s.recordDenial 0x0A01 [initCode i, a % 2 ^ 32, a / 2 ^ 32]).answer .busError := by
  unfold State.denyAccess; exact if_neg hi

theorem State.rn_recordDenial_denied (s : State) (code : Nat) (args : List Nat) (h1 : s.running 1 = true) :
    (s.recordDenial code args).rn Reg.SEC_DENIED = satAdd32 (s.rn Reg.SEC_DENIED) 1 := by
  have hlive : s.blockLive (Reg.SEC_DENIED / 0x10000) = true := h1
  have hsat : satAdd32 (s.rn Reg.SEC_DENIED) 1 < 2 ^ 32 := by unfold satAdd32; omega
  rw [State.recordDenial, State.rn_report _ _ _ _ _ _ (by decide), State.rn_evt_other _ _ (by decide), State.count, if_pos hlive,
    State.incReg, State.rn_setReg, if_pos rfl, Nat.mod_eq_of_lt hsat]

theorem State.rb_evt_live (s : State) (k n : Nat) (hn : n < 32) (hlive : s.blockLive (k / 0x10000) = true) :
    (s.evt k n).rb k n = true := by
  rw [State.rb, State.evt, if_pos hlive, State.rn_setRb, if_pos rfl, bitOf_eq_fld, fld_mod_two_pow _ _ _ _ (by omega),
    fld_setFld_same]
  rfl

theorem State.rb_recordDenial_event (s : State) (code : Nat) (args : List Nat) (h1 : s.running 1 = true) :
    (s.recordDenial code args).rb Reg.SEC_EVT 1 = true := by
  have hlive : (s.count Reg.SEC_DENIED 1).blockLive (Reg.SEC_EVT / 0x10000) = true :=
    (State.blockLive_congr (by simp) (by simp) _).trans h1
  rw [State.rb, State.recordDenial, State.rn_report _ _ _ _ _ _ (by decide)]
  exact State.rb_evt_live _ _ 1 (by decide) hlive

theorem State.recordDenial_sameRegs (s : State) (code : Nat) (args : List Nat) :
    SameRegsBut (fun j => j = Reg.SEC_DENIED ∨ j = Reg.SEC_EVT ∨ j / 0x10000 = 3) s (s.recordDenial code args) := by
  intro j hj
  obtain ⟨hcount, hevt, hrec⟩ : j ≠ Reg.SEC_DENIED ∧ j ≠ Reg.SEC_EVT ∧ j / 0x10000 ≠ 3 := by simpa only [not_or] using hj
  rw [State.recordDenial, State.rn_report _ _ _ _ _ _ hrec, State.rn_evt_other _ _ hevt, State.rn_count_other _ _ hcount]

theorem State.recordDenial_changesOnly (s : State) (code : Nat) (args : List Nat) :
    ChangesOnly [.regs, .evr] s (s.recordDenial code args) :=
  (((s.count_changesOnly _ _).trans (State.evt_changesOnly _ _ _)).mono (by simp)).trans (State.report_changesOnly _ _ _ _ _ _)

/-- A denial of either kind, answered with `b`. -/
theorem State.recordDenial_answer (s : State) (code : Nat) (args : List Nat) (b : BusAnswer) (h1 : s.running 1 = true) :
    let t := (s.recordDenial code args).answer b
    t.rn Reg.SEC_DENIED = satAdd32 (s.rn Reg.SEC_DENIED) 1 ∧ t.rb Reg.SEC_EVT 1 = true ∧ t.bus = b
      ∧ SameRegsBut (fun j => j = Reg.SEC_DENIED ∨ j = Reg.SEC_EVT ∨ j / 0x10000 = 3) s t ∧ ChangesOnly [.bus, .regs, .evr] s t :=
  ⟨s.rn_recordDenial_denied code args h1, s.rb_recordDenial_event code args h1, rfl, s.recordDenial_sameRegs code args,
    ((s.recordDenial_changesOnly code args).mono (by simp)).trans ((State.answer_changesOnly _ b).mono (by simp))⟩

/-! ### Plain memory (R17, R20, R394) -/

/-- The `n` bytes from `a` are memory above the control ROM, and none of their lines is uncorrectable. -/
structure State.PlainMemory (s : State) (a n : Nat) : Prop where
  above : 0x3FFFF < a
  noRegister : ∀ b, regionOf a ≠ .registers b
  noCapability : regionOf a ≠ .capability
  noOutbound : regionOf a ≠ .outbound
  sound : s.badIn a n = []

theorem completes_memoryAccess {s : State} {i : Initiator} {kind : AccessKind} {a n v e : Nat} {P : State → Prop}
    (h : P (s.access i kind a n v e)) : Completes (.memoryAccess i kind a n v e) s P := ⟨_, rfl, h⟩

theorem regionOf_ne_rom {a : Nat} (h : 0x3FFFF < a) : regionOf a ≠ .rom := by
  unfold regionOf
  rw [if_neg (by omega)]
  repeat' split
  all_goals simp

theorem State.access_memory_pass (s : State) (i : Initiator) (kind : AccessKind) (a n v : Nat) (hacts : s.acts i = true)
    (hn : 0 < n) (hreg : ∀ b, regionOf a ≠ .registers b) (hpass : s.gate i a n (kind == .write) = .pass) :
    s.access i kind a n v 0 = s.memAccess i kind a n v 0 := by
  have hsize : (n == 0) = false := beq_false_of_ne (by omega)
  simp only [State.access, hacts, hsize, hpass]
  cases hregion : regionOf a
  case registers b => exact absurd hregion (hreg b)
  all_goals rfl

/-- With no error symbol met and no line uncorrectable, the bytes are read or stored. -/
theorem State.memAccess_plain (s : State) (i : Initiator) (kind : AccessKind) (a n v : Nat) (h : s.PlainMemory a n) :
    s.memAccess i kind a n v 0 =
      if kind = .read then s.answer (.data (s.rdLE a n)) else (s.wrLE a n v).answer .done := by
  have hclean : s.meetErrors a 0 = s := rfl
  have hsound : (s.badIn a n).isEmpty = true := by rw [h.sound]; rfl
  unfold State.memAccess
  cases hregion : regionOf a
  case rom => exact absurd hregion (regionOf_ne_rom h.above)
  case capability => exact absurd hregion h.noCapability
  case outbound => exact absurd hregion h.noOutbound
  all_goals
    simp only [hclean, hsound]
    cases kind <;> rfl

theorem State.access_read_plain (s : State) (i : Initiator) (a n v : Nat) (hacts : s.acts i = true) (hn : 0 < n)
    (h : s.PlainMemory a n) (hpass : s.gate i a n false = .pass) :
    s.access i .read a n v 0 = s.answer (.data (s.rdLE a n)) := by
  rw [s.access_memory_pass i .read a n v hacts hn h.noRegister hpass, s.memAccess_plain i .read a n v h, if_pos rfl]

theorem State.access_write_plain (s : State) (i : Initiator) (a n v : Nat) (hacts : s.acts i = true) (hn : 0 < n)
    (h : s.PlainMemory a n) (hpass : s.gate i a n true = .pass) :
    s.access i .write a n v 0 = (s.wrLE a n v).answer .done := by
  rw [s.access_memory_pass i .write a n v hacts hn h.noRegister hpass, s.memAccess_plain i .write a n v h, if_neg (by decide)]

end Sys2Proof.Machine
end

section
/-! PROOFS. The statements about register pairs, memory and accesses. -/
namespace Sys2Proof.Machine
open Sys2Proof

/-- Settles O6: the cases of a pair's write and read, each by its own law. -/
theorem registerPairs : Obligations.RegisterPairs := by
  refine ⟨?stage, ?commit, ?capture⟩
  case stage =>
    intro s kernel k v hlo
    rw [s.storePair_lo kernel k v hlo]
    exact ⟨fun _ => rfl, tfind_tput_same _ _ _⟩
  case commit =>
    intro s kernel k v w hlo hhi hs
    rw [s.storePair_hi kernel k v w hlo hhi hs]
    exact ⟨fun _ => rfl, tfind_tdel_same _ _⟩
  case capture =>
    intro s t k v hi v' hi' hlo hhi hlt hcap
    rw [s.readPair_lo k v hi hlo] at hcap ⊢
    have hfound : tfind t.captured (k + 4) = some (BitVec.ofNat 32 hi) := by rw [hcap]; exact tfind_tput_same _ _ _
    rw [t.readPair_captured (k + 4) v' hi' _ hhi hfound]
    exact ⟨rfl, by rw [BitVec.toNat_ofNat, Nat.mod_eq_of_lt hlt], tfind_tdel_same _ _⟩

/-- Settles O7: the bytes of a store, and a number as the bytes that `leBytes` gives. -/
theorem memoryBytes : Obligations.MemoryBytes :=
  ⟨fun s a bs ha => ⟨fun _ hi => s.rd8_wrBytes_nth a bs ha hi, fun _ hx => s.rd8_wrBytes_outside a bs hx⟩,
    fun s a n v ha => ⟨fun _ hi => s.rd8_wrLE_inside a n v ha hi, s.rdLE_wrLE a n v ha⟩⟩

/-- Settles O20: an aligned register write that passes stores by access code or is denied for RK, one that no window passes is
denied, and a memory access that passes is a read or a store of plain bytes. -/
theorem accesses : Obligations.Accesses := by
  refine ⟨⟨?plain, ?rk, ?denied⟩, fun s i a n v hacts hn ha hreg hcap hout hbad => ⟨fun hpass => ?read, fun hpass => ?write⟩⟩
  case plain =>
    intro s i k v hk hr hb hrow hlo hhi hrk
    refine completes_registerWrite ?_
    rw [s.access_registerWrite_pass i k v hk (key_lt_of_findRow hrow) hr, s.writeReg_plain i k _ hb hrow hlo hhi hrk, Nat.mod_mod]
    refine ⟨by rw [State.rn_answer, State.rn_storeReg, if_pos rfl], rfl, fun j hj => ?_, ?_⟩
    · rw [State.rn_answer, State.rn_storeReg, if_neg hj]
    · exact ((s.storeReg_changesOnly _ _ _).mono (by simp)).trans ((State.answer_changesOnly _ _).mono (by simp))
  case rk =>
    intro s i k v hk hr hrk hi h1
    refine completes_registerWrite ?_
    rw [s.access_registerWrite_pass i k v hk (key_lt_of_rkReg hrk) hr, s.writeReg_rk i k _ hrk hi, s.denyRk_eq]
    exact s.recordDenial_answer _ _ .done h1
  case denied =>
    intro s i k v hk hlt hacts hi hdenied h1
    refine completes_registerWrite ?_
    rw [s.access_registerWrite_denied i k v hk hlt hacts hdenied, s.denyAccess_eq i _ _ hi]
    exact s.recordDenial_answer _ _ .busError h1
  case read =>
    refine completes_memoryAccess ?_
    rw [s.access_read_plain i a n v hacts hn ⟨ha, hreg, hcap, hout, hbad⟩ hpass]
    exact ⟨rfl, s.answer_changesOnly _⟩
  case write =>
    refine completes_memoryAccess ?_
    rw [s.access_write_plain i a n v hacts hn ⟨ha, hreg, hcap, hout, hbad⟩ hpass]
    refine ⟨rfl, fun j hj => s.rd8_wrLE_inside a n v ha hj, fun x hx => s.rd8_wrLE_outside a n v hx, ?_⟩
    exact ((s.wrLE_changesOnly a n v).mono (by simp)).trans ((State.answer_changesOnly _ _).mono (by simp))

end Sys2Proof.Machine
end

section
/-! SUPPORT. A command leaves the queue as it was, and what every step keeps: the laws of the commands taken together. -/
namespace Sys2Proof.Machine
open Sys2Proof

variable {a s : State}

/-- Every command keeps the queue and what every step keeps, each by its own law. -/
theorem exec_follows (h : Follows a s) : ∀ c : Instr, Yields a (exec c s)
  | .registerWrite _ _ _ _ => execRegisterWrite_follows h
  | .memoryAccess _ _ _ _ _ _ => execMemoryAccess_follows h
  | .sysDomainReq _ _ => execSysDomainReq_follows h
  | .domainReset _ => execDomainReset_follows h
  | .domainRelease _ => execDomainRelease_follows h
  | .powerOnReset => execPowerOnReset_follows h
  | .externalReset _ => execExternalReset_follows h
  | .coldStart _ => execColdStart_follows h
  | .ddrTraining _ => execDdrTraining_follows h
  | .ddrTrainingEnd => execDdrTrainingEnd_follows h
  | .ddrRestore _ _ => execDdrRestore_follows h
  | .planAdmission => execPlanAdmission_follows h
  | .planReplacesRom => execPlanReplacesRom_follows h
  | .planReadmission => execPlanReadmission_follows h
  | .modeReq _ _ => execModeReq_follows h
  | .modeChangeTake => execModeChangeTake_follows h
  | .modeWeightsResident => execModeWeightsResident_follows h
  | .modeSwitch => execModeSwitch_follows h
  | .tickBoundary => execTickBoundary_follows h
  | .hdmiFrameStart _ => execHdmiFrameStart_follows h
  | .frameStartTimeout => execFrameStartTimeout_follows h
  | .aliveTimerToggle => execAliveTimerToggle_follows h
  | .doorbellWrite _ _ _ => execDoorbellWrite_follows h
  | .tileBoundary _ => execTileBoundary_follows h
  | .swapComplete _ _ => execSwapComplete_follows h
  | .windowBoundary _ _ _ => execWindowBoundary_follows h
  | .groveIdle _ => execGroveIdle_follows h
  | .schCtxSel _ _ => execSchCtxSel_follows h
  | .schSwapMbps _ _ _ => execSchSwapMbps_follows h
  | .nop _ => execNop_follows h
  | .matmul _ => execMatmul_follows h
  | .conv _ => execConv_follows h
  | .poolMax _ => execPoolMax_follows h
  | .poolAvg _ => execPoolAvg_follows h
  | .argmax _ => execArgmax_follows h
  | .ew _ => execEw_follows h
  | .scan _ => execScan_follows h
  | .attn _ => execAttn_follows h
  | .moveBytes _ => execMoveBytes_follows h
  | .xfer _ => execXfer_follows h
  | .waitXfers _ => execWaitXfers_follows h
  | .tally _ => execTally_follows h
  | .commandComplete _ _ => execCommandComplete_follows h
  | .capStop _ => execCapStop_follows h
  | .transferPiece _ => execTransferPiece_follows h
  | .transferComplete _ => execTransferComplete_follows h
  | .copyOnWrite _ _ => execCopyOnWrite_follows h
  | .frameDrainEnd _ => execFrameDrainEnd_follows h
  | .listNew _ _ => execListNew_follows h
  | .listFree _ _ => execListFree_follows h
  | .listAppend _ _ => execListAppend_follows h
  | .listTruncate _ _ => execListTruncate_follows h
  | .listFork _ _ => execListFork_follows h
  | .listPublish _ _ => execListPublish_follows h
  | .poolAudit _ _ => execPoolAudit_follows h
  | .seqAdmit _ _ => execSeqAdmit_follows h
  | .seqRetire _ _ => execSeqRetire_follows h
  | .seqHold _ _ => execSeqHold_follows h
  | .seqRelease _ _ => execSeqRelease_follows h
  | .seqPrio _ _ => execSeqPrio_follows h
  | .seqEntSel _ _ => execSeqEntSel_follows h
  | .seqSubmit _ _ _ => execSeqSubmit_follows h
  | .seqOutack _ _ _ => execSeqOutack_follows h
  | .stepBuild _ => execStepBuild_follows h
  | .seqGrpGo _ _ _ => execSeqGrpGo_follows h
  | .stepCompletion _ => execStepCompletion_follows h
  | .scheduledBoundary _ => execScheduledBoundary_follows h
  | .objNew _ _ => execObjNew_follows h
  | .objFree _ _ => execObjFree_follows h
  | .objPlace _ _ => execObjPlace_follows h
  | .objFlush _ _ => execObjFlush_follows h
  | .objectMoveDone _ => execObjectMoveDone_follows h
  | .objectDrainEnd _ => execObjectDrainEnd_follows h
  | .ageEviction => execAgeEviction_follows h
  | .tierObjSel _ _ => execTierObjSel_follows h
  | .tierQuotaSel _ _ => execTierQuotaSel_follows h
  | .scrubLine _ => execScrubLine_follows h
  | .hdmiLinkLock _ => execHdmiLinkLock_follows h
  | .hdmiLinkLoss => execHdmiLinkLoss_follows h
  | .inputLost => execInputLost_follows h
  | .timingChange _ => execTimingChange_follows h
  | .inputRow _ _ => execInputRow_follows h
  | .bandDecision => execBandDecision_follows h
  | .outputFrameStart => execOutputFrameStart_follows h
  | .dpLinkTrain _ _ _ => execDpLinkTrain_follows h
  | .dpTrainRetry _ => execDpTrainRetry_follows h
  | .dpSinkIrq _ => execDpSinkIrq_follows h
  | .voutMute _ _ => execVoutMute_follows h
  | .bypCtrl _ _ => execBypCtrl_follows h
  | .vinHpd _ _ => execVinHpd_follows h
  | .micFrame _ => execMicFrame_follows h
  | .dawnHop _ => execDawnHop_follows h
  | .biasFault _ => execBiasFault_follows h
  | .micMute _ _ => execMicMute_follows h
  | .followTimeout => execFollowTimeout_follows h
  | .cascadeVoteTimeout => execCascadeVoteTimeout_follows h
  | .hostWakeHoldExpiry => execHostWakeHoldExpiry_follows h
  | .dawnHostWake _ _ => execDawnHostWake_follows h
  | .camVsync => execCamVsync_follows h
  | .camFrameEnd _ => execCamFrameEnd_follows h
  | .camNoSignal => execCamNoSignal_follows h
  | .iplCommit _ _ => execIplCommit_follows h
  | .presenceMark => execPresenceMark_follows h
  | .presenceScore _ => execPresenceScore_follows h
  | .setEnable _ _ _ => execSetEnable_follows h
  | .sampleDecodeDone _ _ _ _ => execSampleDecodeDone_follows h
  | .batchWrite _ => execBatchWrite_follows h
  | .iplSetAck _ _ _ => execIplSetAck_follows h
  | .portTraining _ _ => execPortTraining_follows h
  | .portTrainRetry _ _ => execPortTrainRetry_follows h
  | .ringWaitExpiry => execRingWaitExpiry_follows h
  | .flitIdle _ _ => execFlitIdle_follows h
  | .flitWrite _ _ => execFlitWrite_follows h
  | .flitReadReq _ _ => execFlitReadReq_follows h
  | .flitReadData _ _ => execFlitReadData_follows h
  | .flitHello _ _ => execFlitHello_follows h
  | .flitRing _ _ => execFlitRing_follows h
  | .flitStatus _ _ => execFlitStatus_follows h
  | .flitTick _ _ => execFlitTick_follows h
  | .reservedFlit _ type _ => execReservedFlit_follows (_type := type) h
  | .replayTimeout _ => execReplayTimeout_follows h
  | .tickFlitTimeout => execTickFlitTimeout_follows h
  | .peerTimeout _ => execPeerTimeout_follows h
  | .pwrStateReq _ _ => execPwrStateReq_follows h
  | .pwrVote _ _ _ => execPwrVote_follows h
  | .s1Entry => execS1Entry_follows h
  | .s2Entry => execS2Entry_follows h
  | .s2Exit => execS2Exit_follows h
  | .s3Entry => execS3Entry_follows h
  | .s3Exit => execS3Exit_follows h
  | .wakeInRise _ => execWakeInRise_follows h
  | .wakeTimerExpiry => execWakeTimerExpiry_follows h
  | .pmbusPowerGood => execPmbusPowerGood_follows h
  | .pmbusTimeout => execPmbusTimeout_follows h
  | .pmbusRetry => execPmbusRetry_follows h
  | .thermalSample _ => execThermalSample_follows h
  | .thermalDwellExpiry => execThermalDwellExpiry_follows h
  | .thermalHoldExpiry => execThermalHoldExpiry_follows h
  | .pgFail _ _ => execPgFail_follows h
  | .pgTimeout _ => execPgTimeout_follows h
  | .tileTimerExpiry _ => execTileTimerExpiry_follows h
  | .lktGroveStuck _ => execLktGroveStuck_follows h
  | .lktDmaTimeout _ _ _ => execLktDmaTimeout_follows h
  | .lktKernelWd => execLktKernelWd_follows h
  | .lktServiceWd => execLktServiceWd_follows h
  | .lktVideoStall => execLktVideoStall_follows h
  | .lktMissLimit _ => execLktMissLimit_follows h
  | .lktKickK _ v => execLktKickK_follows (_value := v) h
  | .lktKickS _ v => execLktKickS_follows (_value := v) h
  | .lktTileNs _ _ => execLktTileNs_follows h
  | .standingImageRewrite => execStandingImageRewrite_follows h
  | .testTile _ _ _ => execTestTile_follows h
  | .lktTestReq _ _ => execLktTestReq_follows h
  | .testEnd _ _ => execTestEnd_follows h
  | .mbxDoorbell _ _ v => execMbxDoorbell_follows (_value := v) h
  | .ctxStart _ => execCtxStart_follows h
  | .ctxStop _ => execCtxStop_follows h
  | .ctxPrio _ => execCtxPrio_follows h
  | .winGrant _ => execWinGrant_follows h
  | .winRevoke _ => execWinRevoke_follows h
  | .seqGroup _ => execSeqGroup_follows h
  | .pkgLoad _ => execPkgLoad_follows h
  | .mbxReset _ => execMbxReset_follows h
  | .swapRate _ => execSwapRate_follows h
  | .mbxTest _ => execMbxTest_follows h
  | .camRing _ => execCamRing_follows h
  | .mbxAttest _ => execMbxAttest_follows h
  | .mbxCert _ => execMbxCert_follows h
  | .qpBind _ => execQpBind_follows h
  | .updOpen _ => execUpdOpen_follows h
  | .updWrite _ => execUpdWrite_follows h
  | .updClose _ => execUpdClose_follows h
  | .updCommit _ => execUpdCommit_follows h
  | .updAbort _ => execUpdAbort_follows h
  | .updStatus _ => execUpdStatus_follows h
  | .osRead _ => execOsRead_follows h
  | .osWrite _ => execOsWrite_follows h
  | .eventRecord _ => execEventRecord_follows h
  | .rateWindowEnd => execRateWindowEnd_follows h
  | .evrSel _ _ _ => execEvrSel_follows h
  | .perst => execPerst_follows h
  | .flr => execFlr_follows h
  | .pcieLinkDown => execPcieLinkDown_follows h
  | .pcieInboundAccess _ _ _ _ _ => execPcieInboundAccess_follows h
  | .pciObBase _ _ => execPciObBase_follows h
  | .qppSqTail _ _ => execQppSqTail_follows h
  | .qppCqHead _ _ => execQppCqHead_follows h
  | .qpSqHead _ _ _ => execQpSqHead_follows h
  | .qpCqTail _ _ _ => execQpCqTail_follows h
  | .pciSqPend _ _ _ => execPciSqPend_follows h
  | .mgtHello _ => execMgtHello_follows h
  | .mgtOpen _ => execMgtOpen_follows h
  | .mgtEnroll _ => execMgtEnroll_follows h
  | .mgtClose _ => execMgtClose_follows h
  | .mgtLogRead _ => execMgtLogRead_follows h
  | .mgtAttest _ => execMgtAttest_follows h
  | .mgtCert _ => execMgtCert_follows h
  | .mgtReset _ => execMgtReset_follows h
  | .mgtTest _ => execMgtTest_follows h
  | .mgtUpdate _ => execMgtUpdate_follows h
  | .mgtCredSet _ => execMgtCredSet_follows h
  | .mgtPlankey _ => execMgtPlankey_follows h
  | .sessionTimeout => execSessionTimeout_follows h
  | .tapExtest => execTapExtest_follows h
  | .tapSamplePreload => execTapSamplePreload_follows h
  | .tapIdcode => execTapIdcode_follows h
  | .tapClamp => execTapClamp_follows h
  | .tapHighz => execTapHighz_follows h
  | .tapBypass => execTapBypass_follows h
  | .powerUp => execPowerUp_follows h
  | .powerGoodRise _ => execPowerGoodRise_follows h
  | .pmbAlert => execPmbAlert_follows h
  | .pcieLinkUp => execPcieLinkUp_follows h
  | .mgtLinkUp => execMgtLinkUp_follows h
  | .mgtLinkDown => execMgtLinkDown_follows h
  | .arpRequest _ _ _ => execArpRequest_follows h
  | .icmpEchoRequest _ _ => execIcmpEchoRequest_follows h
  | .infoframeCapture _ _ => execInfoframeCapture_follows h
  | .badFlit _ _ flit => execBadFlit_follows (_flit := flit) h

/-- The invariant does not speak of the queue. -/
theorem State.Inv.withPending (h : s.Inv) (q : List Instr) : ({ s with pending := q } : State).Inv :=
  ⟨h.memory, h.registers, h.tags, h.resets, h.recorder, h.cache, h.balls⟩

end Sys2Proof.Machine
end

section
/-! PROOFS. The statements about the invariant and the state after reset. -/
namespace Sys2Proof.Machine
open Sys2Proof

/-- Settles O3: an idle step by its own law, a step that runs a command by the law of that command. -/
theorem stepKeepsInvariant : Obligations.StepKeepsInvariant := by
  intro s t hinv hstep
  unfold step at hstep
  split at hstep
  next =>
    cases hstep
    exact (State.idle_follows (Follows.same s)).2 hinv
  next c rest _ => exact (exec_follows (Follows.same { s with pending := rest }) c t hstep).2 (hinv.withPending rest)

/-- Settles O4. -/
theorem resetMeetsInvariant : Obligations.ResetMeetsInvariant := State.reset_inv

/-- The domains after reset: D0 released, each other as a domain that the table does not list. -/
theorem State.dom_reset (d : Nat) : State.reset.dom d = if 0 = d then { inReset := false } else domainDefault := rfl

/-- The roles after reset: Grove 0 standing, each other as a Grove that the table does not list. -/
theorem State.role_reset (g : Nat) : State.reset.role g = if 0 = g then .standing else .off := by
  show (tget groveDefault [(0, { role := .standing })] g).role = _
  unfold tget
  split <;> rfl

/-- Settles O5: the tables of domains and of Groves looked up, and the tables that are empty. -/
theorem resetState : Obligations.ResetState := by
  refine ⟨rfl, ?released, ?tags, rfl, rfl, ?off, fun _ => rfl, rfl, rfl, rfl⟩
  case released =>
    intro d hd _
    rw [State.inReset, State.dom_reset, if_neg (by omega)]
    rfl
  case tags =>
    intro d
    rw [State.dom_reset]
    split <;> rfl
  case off =>
    intro g hg
    rw [State.role_reset, if_neg (by omega)]

end Sys2Proof.Machine
end

section
/-! SUPPORT. Work within the domains: what clearing a domain's logic, and what follows its release, leave as they were. -/
namespace Sys2Proof.Machine
open Sys2Proof

/-- `t` comes of `s` by work that the domains' logic does: no domain enters or leaves reset, and the queue, the clock of D0, the free
values taken, the answer on the bus, the capability table, the microphones and the test access port are as they were. -/
def LogicOnly (s t : State) : Prop :=
  t.domains = s.domains ∧ t.cap = s.cap ∧ t.pending = s.pending ∧ t.timeUs = s.timeUs ∧ t.fresh = s.fresh ∧ t.bus = s.bus
    ∧ t.mic = s.mic ∧ t.tap = s.tap

namespace LogicOnly

variable {a s t : State}

theorem same (s : State) : LogicOnly s s := ⟨rfl, rfl, rfl, rfl, rfl, rfl, rfl, rfl⟩

theorem trans (h : LogicOnly a s) (k : LogicOnly s t) : LogicOnly a t := by
  obtain ⟨h1, h2, h3, h4, h5, h6, h7, h8⟩ := h
  obtain ⟨k1, k2, k3, k4, k5, k6, k7, k8⟩ := k
  exact ⟨k1.trans h1, k2.trans h2, k3.trans h3, k4.trans h4, k5.trans h5, k6.trans h6, k7.trans h7, k8.trans h8⟩

theorem ite {c : Prop} [Decidable c] (h : LogicOnly a s) (k : LogicOnly a t) : LogicOnly a (if c then s else t) := by
  split <;> assumption

theorem foldl {α : Type} {l : List α} {f : State → α → State} (h : LogicOnly a s)
    (k : ∀ t e, LogicOnly a t → LogicOnly a (f t e)) : LogicOnly a (l.foldl f s) := by
  induction l generalizing s with
  | nil => exact h
  | cons e l ih => exact ih (k s e h)

theorem forRange {n : Nat} {f : State → Nat → State} (h : LogicOnly a s)
    (k : ∀ t e, LogicOnly a t → LogicOnly a (f t e)) : LogicOnly a (forRange n s f) := foldl h k

/-- A state that differs from `e` in no part that `LogicOnly` names. -/
theorem upd {e : State} (h : LogicOnly a e)
    {v1 v2 v3 v4 v5 v6 v7 v8 v9 v10 v11 v12 v13 v14 v15 v16 v17 v18 v19 v20 v21 v22 v23 v24 v25 v26 v27 v28 v29 v30 v31 v32} :
    LogicOnly a { pending := e.pending, timeUs := e.timeUs, fresh := e.fresh, epoch := v1, bus := e.bus, regs := v2, staged := v3,
                  captured := v4, written := v5, mem := v6, lost := v7, badLines := v8, cap := e.cap, evr := v9,
                  domains := e.domains, groves := v10, ctxs := v11, plan := v12, mode := v13, tick := v14, ddr := v15,
                  pages := v16, tiers := v17, dma := v18, seqt := v19, pic := v20, mic := e.mic, cam := v21, sets := v22,
                  vil := v23, pwr := v24, lkt := v25, sec := v26, flash := v27, emmc := v28, boot := v29, pci := v30, mgt := v31,
                  tap := e.tap, pins := v32 } := h

/-! ### Registers, memory and events -/

variable {k n p w v : Nat}

theorem evt (h : LogicOnly a s) : LogicOnly a (s.evt k n) := ite h.upd h

theorem put (h : LogicOnly a s) : LogicOnly a (s.put k v) := ite h.upd h

theorem putF (h : LogicOnly a s) : LogicOnly a (s.putF k n w v) := ite h.upd h

theorem count (h : LogicOnly a s) : LogicOnly a (s.count k n) := ite h.upd h

theorem wrBytes {bs : List Byte} (h : LogicOnly a s) : LogicOnly a (s.wrBytes p bs) := ite h h.upd

theorem report {args : List Nat} {ctx stream : Option Nat} (h : LogicOnly a s) : LogicOnly a (s.report k n args ctx stream) :=
  h.trans (by simp [LogicOnly])

theorem countBytes (h : LogicOnly a s) : LogicOnly a (s.countBytes k n) := ite h.upd h

theorem uncorrectable (h : LogicOnly a s) : LogicOnly a (s.uncorrectable k n) := by
  have hcount := ite (c := (s.errUnit k).1 = 0) (h.count (k := Reg.DDR_UNCORR (s.errUnit k).2) (n := 1))
    (h.count (k := Reg.SRAM_UNCORR) (n := 1))
  exact (ite hcount.evt.putF hcount.evt.put.put.put).report

theorem missResult (h : LogicOnly a s) : LogicOnly a (s.missResult n) := h.count.evt.upd.report

theorem showDmaFault {o : Owner} (h : LogicOnly a s) : LogicOnly a (s.showDmaFault o k n p w) :=
  ((ite h.evt.evt h.evt).put.put).report

/-! ### Groves, images and the mode -/

theorem markDirty (h : LogicOnly a s) : LogicOnly a (s.markDirty k n p) := ite h h.upd

theorem localWrite {bs : List Byte} (o : Owner) (h : LogicOnly a s) : LogicOnly a (s.localWrite o k n bs) := by
  cases o with
  | stream i => exact h.wrBytes
  | ctx c => exact ite h.wrBytes.markDirty h.upd

theorem setRecord {o : Owner} {b : Bool} {tag : Option Nat} (h : LogicOnly a s) : LogicOnly a (s.setRecord o k n b tag) :=
  h.localWrite o

theorem writeRegion {r : RegionRec} (h : LogicOnly a s) : LogicOnly a (s.writeRegion p r) := h.upd.wrBytes

theorem loadImage {q : Plan} (h : LogicOnly a s) : LogicOnly a (s.loadImage q k n) :=
  foldl (foldl (foldl h fun _ _ h => h.writeRegion) fun _ _ h => ite h.setRecord h) fun _ _ h => ite h.setRecord h

theorem loadImages {q : Plan} {gs : List Nat} (h : LogicOnly a s) : LogicOnly a (s.loadImages q k gs) :=
  foldl h fun _ _ h => ite h.loadImage h

theorem showMode (h : LogicOnly a s) : LogicOnly a s.showMode := h.put

theorem abandonChange {b : Bool} (h : LogicOnly a s) : LogicOnly a (s.abandonChange b) :=
  ite h (ite h.loadImages h).upd.evt.showMode.report

theorem clearGrove (h : LogicOnly a s) : LogicOnly a (s.clearGrove n) := h.upd

theorem markDawn (h : LogicOnly a s) : LogicOnly a s.markDawn := ite h h.putF

theorem showPower (h : LogicOnly a s) : LogicOnly a s.showPower := by
  unfold State.showPower
  dsimp only
  split <;> exact h.upd

theorem abandonTest (h : LogicOnly a s) : LogicOnly a s.abandonTest := ite h h.upd.put.evt.showPower

theorem awaitRestart (h : LogicOnly a s) : LogicOnly a s.awaitRestart := h.upd

theorem clearD2 (h : LogicOnly a s) : LogicOnly a s.clearD2 := by
  have hmissed : LogicOnly a (if s.running 1 then s.missing.foldl State.missResult s else s) :=
    ite (foldl h fun _ _ h => h.missResult) h
  unfold State.clearD2
  exact abandonTest (markDawn (awaitRestart (forRange (abandonChange hmissed) fun _ _ h => ite h.clearGrove h)))

/-! ### Contexts, entries and page lists -/

theorem dropFrame (h : LogicOnly a s) : LogicOnly a (s.dropFrame n) := ite h.upd (ite h.upd h.upd)

theorem dropList (h : LogicOnly a s) : LogicOnly a (s.dropList n) := foldl h.upd fun _ _ h => h.dropFrame

theorem freeEntry (h : LogicOnly a s) : LogicOnly a (s.freeEntry n) := h.upd.dropList

theorem endStepEntry (h : LogicOnly a s) : LogicOnly a (s.endStepEntry n) := ite h.freeEntry h.upd

theorem retireEntry (h : LogicOnly a s) : LogicOnly a (s.retireEntry n) := ite h.upd h.freeEntry

theorem abandonStep (h : LogicOnly a s) : LogicOnly a (s.abandonStep n) := by
  unfold State.abandonStep
  split
  · exact h
  · exact (foldl h.upd fun _ _ h => ite h.endStepEntry h).evt

theorem contextLost (h : LogicOnly a s) : LogicOnly a (s.contextLost n) :=
  foldl (forRange h.upd fun _ _ h => ite h.abandonStep h) fun _ _ h => ite h.retireEntry h

theorem faultCtx (h : LogicOnly a s) : LogicOnly a (s.faultCtx k n) := h.upd.report.contextLost

theorem saveImage (h : LogicOnly a s) : LogicOnly a (s.saveImage n) := h.upd.countBytes

theorem evictCtx (h : LogicOnly a s) : LogicOnly a (s.evictCtx n) := by
  unfold State.evictCtx
  dsimp only
  split
  · exact h.saveImage.upd
  · exact h.saveImage.upd.uncorrectable.showDmaFault.faultCtx

theorem clearD3 (h : LogicOnly a s) : LogicOnly a s.clearD3 := by
  unfold State.clearD3
  refine abandonTest (forRange (forRange (forRange h.abandonChange fun t g h => ?_) fun _ _ h => h.abandonStep)
    fun _ _ h => ite h.clearGrove h)
  split
  · exact foldl h.upd fun _ _ h => h.evictCtx
  · exact h

end LogicOnly
end Sys2Proof.Machine
end

section
/-! SUPPORT. What clearing the logic of each domain leaves as it was (R375 step 4). -/
namespace Sys2Proof.Machine
open Sys2Proof

namespace LogicOnly

variable {a s t : State} {k n p q v : Nat}

/-! ### Transfers and objects -/

theorem evictCopy (h : LogicOnly a s) : LogicOnly a (s.evictCopy n) := h.countBytes.upd.evt.count.report

/-- The state in which a search for Canopy tiles ends, where it does not fail. -/
theorem makeRoom {within : Bool} {fuel : Nat} (h : LogicOnly a s)
    (ht : State.makeRoom k n within fuel s = .ok t ∨ State.makeRoom k n within fuel s = .wait t) : LogicOnly a t := by
  fun_induction State.makeRoom k n within fuel s with
  | case1 => obtain ht | ht := ht <;> cases ht; exact h
  | case2 => obtain ht | ht := ht <;> cases ht; exact h
  | case3 => obtain ht | ht := ht <;> cases ht
  | case4 => obtain ht | ht := ht <;> cases ht
  | case5 _ _ _ _ _ ih => exact ih h.evictCopy ht

theorem makeObj {o : Obj} (h : LogicOnly a s) : LogicOnly a (s.makeObj k o n) := by
  unfold State.makeObj
  exact ite h.upd h.upd

theorem room (h : LogicOnly a s) (ht : s.room k n = .ok t ∨ s.room k n = .wait t) : LogicOnly a t := h.makeRoom ht

theorem iteOp {c : Prop} [Decidable c] {x y : ObjOutcome} (h : LogicOnly a x.state) (k : LogicOnly a y.state) :
    LogicOnly a (if c then x else y).state := by
  split <;> assumption

theorem objNew (h : LogicOnly a s) : LogicOnly a (s.objNew k n).state := by
  unfold State.objNew
  refine iteOp h (iteOp h ?_)
  split
  next => exact h
  next =>
    refine iteOp h (iteOp h (iteOp h (iteOp h.makeObj ?_)))
    split
    next e => exact (h.room (.inl e)).makeObj
    next e => exact h.room (.inr e)
    next => exact h

theorem revokeObject (h : LogicOnly a s) : LogicOnly a (s.revokeObject n) := forRange h fun _ _ h => ite h.upd h

theorem objFree (h : LogicOnly a s) : LogicOnly a (s.objFree n).state := by
  unfold State.objFree
  split
  · exact h
  · exact iteOp h.revokeObject.upd h.revokeObject.upd

theorem objPlace (h : LogicOnly a s) : LogicOnly a (s.objPlace k n).state := by
  unfold State.objPlace
  refine iteOp h ?_
  split
  next => exact h
  next =>
    refine iteOp h (iteOp h.upd ?_)
    split
    next e => exact (h.room (.inl e)).upd
    next e => exact h.room (.inr e)
    next => exact h

theorem objFlush (h : LogicOnly a s) : LogicOnly a (s.objFlush n).state := by
  unfold State.objFlush
  split
  · exact h
  · exact iteOp h.upd h

theorem objOp (h : LogicOnly a s) : LogicOnly a (s.objOp k n p v).state := by
  unfold State.objOp
  split
  · exact h.objNew
  · exact h.objFree
  · exact h.objPlace
  · exact h.objFlush
  · exact h

theorem showObjOp {r : ObjOutcome} {x : Nat × Nat × Nat × Nat} (h : LogicOnly a r.state) : LogicOnly a (s.showObjOp x r) := by
  cases r with
  | done r => exact (ite h.upd.put.put h.upd.put).evt
  | wait t => exact h.upd.put

theorem retryTierOp (h : LogicOnly a s) : LogicOnly a s.retryTierOp := by
  unfold State.retryTierOp
  split
  · exact h.objOp.showObjOp
  · exact h

theorem checkWait (h : LogicOnly a s) : LogicOnly a (s.checkWait n) := ite h.upd h

theorem wakeOnGrove (h : LogicOnly a s) : LogicOnly a (s.wakeOnGrove n) := forRange h fun _ _ h => ite h.upd.checkWait h

theorem endXfer {b : Bool} (h : LogicOnly a s) : LogicOnly a (s.endXfer n b) := by
  unfold State.endXfer
  refine retryTierOp (wakeOnGrove ?_)
  split
  · exact h.upd.checkWait
  · exact h.upd

/-! ### The logic of each domain -/

theorem setSlot {bs : List Byte} (h : LogicOnly a s) : LogicOnly a (s.setSlot k n bs) := by
  unfold State.setSlot
  split <;> exact h.upd

theorem closeStaging (h : LogicOnly a s) : LogicOnly a s.closeStaging := by
  unfold State.closeStaging
  split
  · exact h.upd.setSlot
  · exact h

theorem capChange {f : Tbl Word → Tbl Word} (h : LogicOnly a s) :
    LogicOnly { a with cap := (s.capChange f).cap } (s.capChange f) := by
  obtain ⟨h1, _, h3, h4, h5, h6, h7, h8⟩ := h
  exact ⟨h1, rfl, h3, h4, h5, h6, h7, h8⟩

theorem clearD1 (h : LogicOnly a s) : ∃ c, LogicOnly { a with cap := c } s.clearD1 := by
  unfold State.clearD1
  have hsets : LogicOnly a (if s.sets.isEmpty then s else (s.endSets 1).evt Reg.IPL_EVT 2) :=
    ite h (foldl h fun _ _ h => h.upd).evt
  exact ⟨_, upd (closeStaging (capChange (foldl (upd hsets) fun _ _ h => h.upd)))⟩

theorem clearPort (h : LogicOnly a s) : LogicOnly a (s.clearPort n) := foldl h.upd fun _ _ h => h.count.endXfer

theorem showTick (h : LogicOnly a s) : LogicOnly a s.showTick := h.putF.putF.put.put

theorem loseLock {now : Option Nat} (h : LogicOnly a s) : LogicOnly a (s.loseLock now) := ite h.upd.showTick.evt h

theorem clearD8 (h : LogicOnly a s) : LogicOnly a s.clearD8 := by
  unfold State.clearD8
  exact (foldl (foldl h.loseLock fun _ _ h => h.upd) fun _ _ h => h.upd).upd

theorem clearMailbox (h : LogicOnly a s) : LogicOnly a (s.clearMailbox n) := h.put

/-- A domain's logic is cleared: of what `LogicOnly` names, the capability table alone may change, with D1's (R24). -/
theorem clearDomain (h : LogicOnly a s) (d : Nat) : ∃ c, LogicOnly { a with cap := c } (s.clearDomain d) := by
  unfold State.clearDomain
  split
  · exact h.clearD1
  · exact ⟨_, h.clearD2⟩
  · exact ⟨_, h.clearD3⟩
  · exact ⟨_, h.clearMailbox.upd⟩
  · exact ⟨_, h.clearMailbox.closeStaging.upd⟩
  · exact ⟨_, h.clearPort⟩
  · exact ⟨_, h.clearPort⟩
  · exact ⟨_, h.clearD8⟩
  · exact ⟨_, h⟩

end LogicOnly
end Sys2Proof.Machine
end

section
/-! SUPPORT. Resets: what the domains show once one has entered or left reset, and what a reset and a release leave as they were. -/
namespace Sys2Proof.Machine
open Sys2Proof

namespace LogicOnly

variable {a s : State} {k n p q v : Nat}

/-! ### What a release of each domain begins (Table 18.4) -/

theorem storeLast {r : Record} (h : LogicOnly a s) : LogicOnly a (s.storeLast r) := h.trans (by simp [LogicOnly])

theorem resumeRecorder (h : LogicOnly a s) : LogicOnly a s.resumeRecorder := by
  have hqueue := foldl (l := s.evr.queue) (f := State.storeLast) h fun _ _ h => h.storeLast
  unfold State.resumeRecorder
  exact ite hqueue.upd hqueue.upd.report

theorem clearLast (h : LogicOnly a s) : LogicOnly a s.clearLast := h.upd

theorem showLink (h : LogicOnly a s) : LogicOnly a s.showLink := h.put

theorem showMgmt (h : LogicOnly a s) : LogicOnly a s.showMgmt := h.put.put

theorem commitDirectory (h : LogicOnly a s) : LogicOnly a s.commitDirectory := by
  unfold State.commitDirectory
  dsimp only
  split <;> exact h.upd

theorem resolveCommit (h : LogicOnly a s) : LogicOnly a s.resolveCommit := by
  unfold State.resolveCommit
  split
  · exact h
  · exact h.upd
  · exact ite h.upd (ite h.commitDirectory.upd h.upd.report)

theorem showIdentity (h : LogicOnly a s) : LogicOnly a s.showIdentity :=
  ite (forRange h.put fun _ _ h => h.put).put h.put

theorem showLayout (h : LogicOnly a s) : LogicOnly a s.showLayout := ite (forRange h fun _ _ h => h.upd) h

theorem stopNow (h : LogicOnly a s) : LogicOnly a (s.stopNow n) :=
  contextLost (forRange (forRange h.upd fun _ _ h => ite h.upd h) fun _ _ h => ite h.upd h)

theorem releaseD3 (h : LogicOnly a s) : LogicOnly a s.releaseD3 := by
  refine foldl h fun t c h => ?_
  dsimp only
  split
  case h_4 => exact h
  all_goals exact ite h.upd.faultCtx.stopNow h.upd.faultCtx

theorem afterRelease (h : LogicOnly a s) : LogicOnly a (s.afterRelease n) := by
  unfold State.afterRelease
  split
  · exact h.releaseD3
  · exact ite h h.wrBytes.upd
  · exact ite h h.wrBytes.upd
  · exact h

theorem writePicture (h : LogicOnly a s) : LogicOnly a s.writePicture := by
  unfold State.writePicture
  split
  · exact h
  · exact ite h.put.put.put.put.put (forRange h.put.put.put.put.put fun _ _ h => h.put)

theorem showGeometry (h : LogicOnly a s) : LogicOnly a s.showGeometry := by
  unfold State.showGeometry
  dsimp only
  split
  · exact (ite h.writePicture.putF.putF.putF.evt h.writePicture.putF.putF.putF).put.put
  · exact (ite h.writePicture.putF.putF.putF.evt h.writePicture.putF.putF.putF).put

theorem showPresence (h : LogicOnly a s) : LogicOnly a s.showPresence := by
  unfold State.showPresence
  dsimp only
  split
  · exact h.putF.putF.putF
  · exact h.putF

theorem writeEdid (h : LogicOnly a s) : LogicOnly a s.writeEdid := by
  unfold State.writeEdid
  split
  · exact forRange h fun _ _ h => h.put
  · exact h

theorem loadEdid (h : LogicOnly a s) : LogicOnly a s.loadEdid := by
  unfold State.loadEdid
  split
  · exact h.writeEdid
  · exact forRange h fun _ _ h => h.put

theorem showHpd (h : LogicOnly a s) : LogicOnly a s.showHpd := h.putF

theorem startVideo (h : LogicOnly a s) : LogicOnly a s.startVideo := by
  unfold State.startVideo
  exact putF (showPresence (showHpd (showGeometry (loadEdid (foldl h fun _ _ h => ite h.upd.put h.upd.put)))))

theorem showPorts (h : LogicOnly a s) : LogicOnly a s.showPorts := forRange h fun _ _ h => h.put

end LogicOnly

variable {s t : State} {d : Nat}

/-! ### The domains' table -/

theorem State.dom_congr (h : t.domains = s.domains) (e : Nat) : t.dom e = s.dom e := by unfold State.dom; rw [h]

theorem State.inReset_congr (h : t.domains = s.domains) (e : Nat) : t.inReset e = s.inReset e := by
  unfold State.inReset; rw [State.dom_congr h]

/-- Requests for the resets of distinct domains: each domain listed has one more. -/
theorem State.dom_requestResets (q : ResetRequest) (e : Nat) : ∀ (l : List Nat) (s : State), l.Nodup →
    (l.foldl (fun s d => s.requestReset d q) s).dom e =
      { s.dom e with requests := (s.dom e).requests ++ if e ∈ l then [q] else [] }
  | [], s, _ => by simp
  | d :: l, s, hl => by
    obtain ⟨hd, hl⟩ := List.nodup_cons.mp hl
    rw [List.foldl_cons, State.dom_requestResets q e l _ hl, State.requestReset, State.dom_modDom]
    by_cases he : e = d
    · subst he; simp [hd]
    · simp [he]

theorem State.domainReq_dom (s : State) (v e : Nat) : (s.domainReq v).dom e =
    { s.dom e with requests := (s.dom e).requests ++ if 1 ≤ e ∧ e ≤ 8 ∧ bitOf v e = true then [{ requester := 1 }] else [] } := by
  have hlisted : (e ∈ [1, 2, 3, 4, 5, 6, 7, 8].filter (bitOf v)) ↔ 1 ≤ e ∧ e ≤ 8 ∧ bitOf v e = true := by
    rw [List.mem_filter, ← and_assoc]
    refine and_congr_left fun _ => ?_
    simp only [List.mem_cons, List.not_mem_nil, or_false]
    omega
  have hnodup : ([1, 2, 3, 4, 5, 6, 7, 8].filter (bitOf v)).Nodup := List.Pairwise.filter _ (by decide)
  rw [State.domainReq, State.dom_requestResets _ _ _ _ hnodup]
  simp only [hlisted]

theorem ChangesOnly.foldl {ps : List Part} {α : Type} {f : State → α → State} (hf : ∀ s e, ChangesOnly ps s (f s e)) :
    ∀ (l : List α) (s : State), ChangesOnly ps s (l.foldl f s)
  | [], s => fun p _ => by cases p <;> rfl
  | e :: l, s => (hf s e).trans (ChangesOnly.foldl hf l (f s e))

theorem State.modDom_changesOnly (s : State) (d : Nat) (f : Domain → Domain) : ChangesOnly [.domains] s (s.modDom d f) := by
  intro p hp; cases p <;> simp [Part.same] at hp ⊢

theorem State.domainReq_changesOnly (s : State) (v : Nat) : ChangesOnly [.domains] s (s.domainReq v) :=
  ChangesOnly.foldl (fun s d => s.modDom_changesOnly d _) _ s

/-- A write by the kernel that passes takes effect (R7, R394). -/
theorem State.viaWrite_kernel (s : State) (k : Nat) (rk : Bool) (eff : State → State) (h : s.reaches .kernel k) :
    s.viaWrite .kernel k rk eff = (eff s).answer .done := by
  obtain ⟨hacts, hpass⟩ := h
  simp [State.viaWrite, hacts, hpass]

theorem sameMemory_of_changesOnly {ps : List Part} (h : ChangesOnly ps s t) (hmem : .mem ∉ ps) (hlost : .lost ∉ ps) :
    SameMemory s t := by
  intro a
  have h1 : t.mem = s.mem := h .mem hmem
  have h2 : t.lost = s.lost := h .lost hlost
  rw [State.rd8, State.rd8, State.unlisted, State.unlisted, h1, h2]

/-! ### Entering a reset (R27, R28) -/

theorem State.dom_markReset (s : State) (hd : d ≠ 0) (e : Nat) : (s.markReset d).dom e =
    if e = d then { s.dom d with tag := nextTag (s.dom d).tag, inReset := true, requests := [] }
    else if d = 1 ∧ (e = 2 ∨ e = 3) then { s.dom e with inReset := true } else s.dom e := by
  unfold State.markReset
  rw [if_neg hd]
  dsimp only
  split
  next h1 =>
    subst h1
    simp only [List.foldl_cons, List.foldl_nil, State.dom_modDom]
    by_cases h2 : e = 2
    · simp [h2]
    · by_cases h3 : e = 3 <;> simp [h2, h3]
  next h1 => simp [State.dom_modDom, h1]

theorem State.markReset_changesOnly (s : State) (d : Nat) : ChangesOnly [.domains] s (s.markReset d) := by
  unfold State.markReset
  split
  · intro p _; cases p <;> rfl
  · dsimp only
    split
    · exact (s.modDom_changesOnly d _).trans (ChangesOnly.foldl (fun s e => s.modDom_changesOnly e _) _ _)
    · exact s.modDom_changesOnly d _

/-- What a domain's reset may change: of the parts of the state, all but six. -/
def resetParts : List Part :=
  [.epoch, .regs, .staged, .captured, .written, .mem, .lost, .badLines, .cap, .evr, .domains, .groves, .ctxs, .plan, .mode, .tick, .ddr,
   .pages, .tiers, .dma, .seqt, .pic, .cam, .sets, .vil, .pwr, .lkt, .sec, .flash, .emmc, .boot, .pci, .mgt, .pins]

theorem LogicOnly.changesOnly {c : Tbl Word} (h : LogicOnly { s with cap := c } t) : ChangesOnly resetParts s t := by
  obtain ⟨_, _, hpending, htime, hfresh, hbus, hmic, htap⟩ := h
  intro p hp
  cases p
  case pending => exact hpending
  case timeUs => exact htime
  case fresh => exact hfresh
  case bus => exact hbus
  case mic => exact hmic
  case tap => exact htap
  all_goals exact absurd (by decide) hp

/-- A domain that is not in reset enters it: its tag steps, its logic is cleared, and the event is recorded. -/
theorem State.enterReset_logicOnly (s : State) (d : Nat) (q : ResetRequest) (h : s.inReset d = false) :
    ∃ c, LogicOnly { s.markReset d with cap := c } (s.enterReset d q) := by
  obtain ⟨c, hc⟩ := (LogicOnly.same (s.markReset d)).clearDomain d
  rw [State.enterReset, if_neg (by rw [h]; decide)]
  exact ⟨c, hc.report⟩

theorem State.dom_enterReset (s : State) (q : ResetRequest) (hd : d ≠ 0) (h : s.inReset d = false) (e : Nat) :
    (s.enterReset d q).dom e =
      if e = d then { s.dom d with tag := nextTag (s.dom d).tag, inReset := true, requests := [] }
      else if d = 1 ∧ (e = 2 ∨ e = 3) then { s.dom e with inReset := true } else s.dom e := by
  obtain ⟨c, hdomains, _⟩ := s.enterReset_logicOnly d q h
  rw [State.dom_congr hdomains]
  exact s.dom_markReset hd e

theorem State.enterReset_changesOnly (s : State) (d : Nat) (q : ResetRequest) (h : s.inReset d = false) :
    ChangesOnly resetParts s (s.enterReset d q) := by
  obtain ⟨c, hc⟩ := s.enterReset_logicOnly d q h
  exact ((s.markReset_changesOnly d).mono (by decide)).trans hc.changesOnly

end Sys2Proof.Machine
end

section
/-! SUPPORT. A reset and a release of a domain with the domains that go with it (R27, R29, R375). -/
namespace Sys2Proof.Machine
open Sys2Proof

variable {s t : State} {d : Nat}

/-! ### The roles of the ROM plan (R31) -/

/-- What a change of a Grove's role may change. -/
def roleParts : List Part := [.epoch, .regs, .staged, .captured, .written, .mem, .lost, .groves]

theorem State.setRole_changesOnly (s : State) (r : Role) (g : Nat) : ChangesOnly roleParts s (s.setRole r g) := by
  unfold State.setRole
  split
  · intro p _; cases p <;> rfl
  · dsimp only
    split <;> (intro p hp; cases p <;> simp [roleParts, Part.same] at hp ⊢)

theorem State.romRoles_changesOnly (s : State) : ChangesOnly roleParts s s.romRoles :=
  ChangesOnly.foldl (fun s g => s.setRole_changesOnly _ g) _ s

/-! ### A reset with those it implies (R27, R28) -/

/-- A domain as it enters reset: its tag steps, and its requests merge. -/
def Domain.entered (x : Domain) : Domain := { x with tag := nextTag x.tag, inReset := true, requests := [] }

theorem State.resetDomain_one (s : State) (q : ResetRequest) (h : s.inReset 1 = false) :
    let i : ResetRequest := { requester := 5, implier := 1 }
    s.resetDomain 1 q = (((s.enterReset 2 i).enterReset 3 i).enterReset 1 q).romRoles := by
  unfold State.resetDomain; rw [if_pos ⟨rfl, h⟩]

theorem State.resetDomain_other (s : State) (q : ResetRequest) (h : d ≠ 1) : s.resetDomain d q = s.enterReset d q := by
  unfold State.resetDomain; rw [if_neg fun k => h k.1]

/-- A domain of its own, or one that D1 has not marked, enters reset. -/
theorem State.dom_enterReset_other (s : State) (q : ResetRequest) (hd : d ≠ 0) (h1 : d ≠ 1) (h : s.inReset d = false) (e : Nat) :
    (s.enterReset d q).dom e = if e = d then (s.dom e).entered else s.dom e := by
  rw [s.dom_enterReset q hd h e]
  by_cases he : e = d
  · subst he; rw [if_pos rfl, if_pos rfl]; rfl
  · rw [if_neg he, if_neg he, if_neg fun k => h1 k.1]

theorem State.inReset_enterReset_other (s : State) (q : ResetRequest) (hd : d ≠ 0) (h1 : d ≠ 1) (h : s.inReset d = false) {e : Nat}
    (he : e ≠ d) : (s.enterReset d q).inReset e = s.inReset e := by
  rw [State.inReset, s.dom_enterReset_other q hd h1 h, if_neg he, State.inReset]

/-- While D1 to D3 run, D3 still runs when D2 has entered reset, and D1 when both have. -/
theorem State.implied_notInReset (s : State) (q : ResetRequest) (h1 : s.inReset 1 = false) (h2 : s.inReset 2 = false)
    (h3 : s.inReset 3 = false) :
    (s.enterReset 2 q).inReset 3 = false ∧ ((s.enterReset 2 q).enterReset 3 q).inReset 1 = false := by
  have hin3 : (s.enterReset 2 q).inReset 3 = false :=
    (s.inReset_enterReset_other q (by decide) (by decide) h2 (by decide)).trans h3
  have hin1 : (s.enterReset 2 q).inReset 1 = false :=
    (s.inReset_enterReset_other q (by decide) (by decide) h2 (by decide)).trans h1
  exact ⟨hin3, (State.inReset_enterReset_other _ q (by decide) (by decide) hin3 (by decide)).trans hin1⟩

/-- A domain's reset takes it, and D2 and D3 with D1, and no other. -/
theorem State.dom_resetDomain (s : State) (q : ResetRequest) (hd : d ≠ 0) (h : s.inReset d = false)
    (h23 : d = 1 → s.inReset 2 = false ∧ s.inReset 3 = false) (e : Nat) :
    (s.resetDomain d q).dom e = if e = d ∨ (d = 1 ∧ (e = 2 ∨ e = 3)) then (s.dom e).entered else s.dom e := by
  by_cases h1 : d = 1
  · subst h1
    obtain ⟨h2, h3⟩ := h23 rfl
    obtain ⟨hin3, hin1⟩ := s.implied_notInReset { requester := 5, implier := 1 } h h2 h3
    rw [s.resetDomain_one q h, State.dom_congr (State.romRoles_changesOnly _ .domains (by decide)),
      State.dom_enterReset _ q (by decide) hin1]
    simp only [State.dom_enterReset_other _ _ (show (3 : Nat) ≠ 0 by decide) (by decide) hin3,
      State.dom_enterReset_other _ _ (show (2 : Nat) ≠ 0 by decide) (by decide) h2]
    by_cases e1 : e = 1
    · subst e1; rfl
    by_cases e2 : e = 2
    · subst e2; rfl
    by_cases e3 : e = 3
    · subst e3; rfl
    simp [e1, e2, e3]
  · rw [s.resetDomain_other q h1, s.dom_enterReset_other q hd h1 h]
    simp [h1]

theorem State.resetDomain_changesOnly (s : State) (q : ResetRequest) (h : s.inReset d = false)
    (h23 : d = 1 → s.inReset 2 = false ∧ s.inReset 3 = false) : ChangesOnly resetParts s (s.resetDomain d q) := by
  by_cases h1 : d = 1
  · subst h1
    obtain ⟨h2, h3⟩ := h23 rfl
    obtain ⟨hin3, hin1⟩ := s.implied_notInReset { requester := 5, implier := 1 } h h2 h3
    rw [s.resetDomain_one q h]
    exact (((s.enterReset_changesOnly 2 _ h2).trans (State.enterReset_changesOnly _ 3 _ hin3)).trans
      (State.enterReset_changesOnly _ 1 q hin1)).trans ((State.romRoles_changesOnly _).mono (by decide))
  · rw [s.resetDomain_other q h1]
    exact s.enterReset_changesOnly d q h

/-- D1 in reset leaves the ROM plan, no context and no sequence entry (R34, R376). -/
theorem State.enterReset_one (s : State) (q : ResetRequest) (h : s.inReset 1 = false) :
    (s.enterReset 1 q).plan.running = romPlan ∧ (s.enterReset 1 q).ctxs = [] ∧ (s.enterReset 1 q).seqt.entries = [] := by
  rw [State.enterReset, if_neg (by rw [h]; decide)]
  simp only [State.report_frame]
  exact ⟨rfl, rfl, rfl⟩

theorem State.resetDomain_one_leaves (s : State) (q : ResetRequest) (h1 : s.inReset 1 = false) (h2 : s.inReset 2 = false)
    (h3 : s.inReset 3 = false) :
    (s.resetDomain 1 q).plan.running = romPlan ∧ (s.resetDomain 1 q).ctxs = [] ∧ (s.resetDomain 1 q).seqt.entries = [] := by
  obtain ⟨_, hin1⟩ := s.implied_notInReset { requester := 5, implier := 1 } h1 h2 h3
  have hroles := State.romRoles_changesOnly (((s.enterReset 2 { requester := 5, implier := 1 }).enterReset 3
    { requester := 5, implier := 1 }).enterReset 1 q)
  have hplan := hroles .plan (by decide)
  have hctxs := hroles .ctxs (by decide)
  have hseqt := hroles .seqt (by decide)
  simp only [Part.same] at hplan hctxs hseqt
  rw [s.resetDomain_one q h1, hplan, hctxs, hseqt]
  exact State.enterReset_one _ q hin1

/-! ### Leaving a reset (R29, R375) -/

/-- A domain as it leaves reset: its requests merge. -/
def Domain.released (x : Domain) : Domain := { x with inReset := false, requests := [] }

/-- Neither D0 nor TEST_EN, nor D1 where `d` is D2 or D3, keeps domain `d` in reset (R27, R458). -/
structure State.MayLeave (s : State) (d : Nat) : Prop where
  d0 : s.inReset 0 = false
  testEn : s.pins.testEn = false
  d1 : d = 2 ∨ d = 3 → s.inReset 1 = false

theorem State.mayLeave_of_heldInReset (h : s.heldInReset d = false) : d ≠ 0 ∧ s.MayLeave d := by
  unfold State.heldInReset at h
  simp only [Bool.or_eq_false_iff, decide_eq_false_iff_not] at h
  obtain ⟨⟨⟨hd, h0⟩, ht⟩, hown⟩ := h
  refine ⟨hd, h0, ht, ?_⟩
  rintro (rfl | rfl) <;> exact hown

theorem State.leaveReset_eq (h : s.MayLeave d) : s.leaveReset d = s.modDom d Domain.released := by
  unfold State.leaveReset
  refine if_neg ?_
  have h1 := h.d1
  simp only [h.d0, h.testEn, Bool.or_eq_true, Bool.and_eq_true, beq_iff_eq, Bool.false_eq_true, false_or, not_and,
    Bool.not_eq_true]
  exact h1

theorem State.dom_leaveReset (h : s.MayLeave d) (e : Nat) :
    (s.leaveReset d).dom e = if e = d then (s.dom e).released else s.dom e := by
  rw [State.leaveReset_eq h, State.dom_modDom]
  split
  next he => rw [he]
  next => rfl

theorem State.mayLeave_leaveReset {e : Nat} (h : s.MayLeave d) (k : s.MayLeave e) : (s.leaveReset d).MayLeave e := by
  have hkeep : ∀ x, s.inReset x = false → (s.leaveReset d).inReset x = false := fun x hx => by
    unfold State.inReset at hx ⊢
    rw [State.dom_leaveReset h]
    split
    · rfl
    · exact hx
  refine ⟨hkeep 0 k.d0, ?_, fun he => hkeep 1 (k.d1 he)⟩
  rw [State.leaveReset_eq h]
  exact k.testEn

/-- A domain that goes with D1 leaves reset unless it is OFF. -/
def State.leaveUnlessOff (s : State) (d : Nat) : State := if (s.dom d).power = .off then s else s.leaveReset d

theorem State.dom_leaveUnlessOff (h : s.MayLeave d) (e : Nat) :
    (s.leaveUnlessOff d).dom e = if e = d ∧ (s.dom e).power ≠ .off then (s.dom e).released else s.dom e := by
  unfold State.leaveUnlessOff
  split
  next hoff =>
    rw [if_neg]
    rintro ⟨rfl, hon⟩
    exact hon hoff
  next hon =>
    rw [State.dom_leaveReset h]
    by_cases he : e = d
    · subst he; simp [hon]
    · simp [he]

theorem State.mayLeave_leaveUnlessOff {e : Nat} (h : s.MayLeave d) (k : s.MayLeave e) : (s.leaveUnlessOff d).MayLeave e := by
  unfold State.leaveUnlessOff
  split
  · exact k
  · exact State.mayLeave_leaveReset h k

/-- What D1's release does to the domains, before the kernel's work. -/
def State.leaveD1 (s : State) : State :=
  [2, 3].foldl (fun s d => if (s.dom d).power = .off then s else s.leaveReset d)
    ((s.leaveReset 1).putF Reg.TICK_STATUS 2 1 (b2n ((s.leaveReset 1).running 8)))

theorem State.dom_leaveD1 (h : s.MayLeave 1) (hpower : (s.dom 1).power ≠ .off) (e : Nat) :
    s.leaveD1.dom e = if (e = 1 ∨ e = 2 ∨ e = 3) ∧ (s.dom e).power ≠ .off then (s.dom e).released else s.dom e := by
  let s1 := (s.leaveReset 1).putF Reg.TICK_STATUS 2 1 (b2n ((s.leaveReset 1).running 8))
  have hdomains : s1.domains = (s.leaveReset 1).domains := ((LogicOnly.same _).putF).1
  have hpins : s1.pins = (s.leaveReset 1).pins := by simp [s1]
  have hdom : ∀ x, s1.dom x = if x = 1 then (s.dom x).released else s.dom x := fun x =>
    (State.dom_congr hdomains x).trans (State.dom_leaveReset h x)
  have hmay : ∀ x, s1.MayLeave x := fun x => by
    have hone := State.mayLeave_leaveReset h h
    refine ⟨(State.inReset_congr hdomains 0).trans hone.d0, by rw [hpins]; exact hone.testEn, fun _ => ?_⟩
    rw [State.inReset, hdom, if_pos rfl, Domain.released]
  show ((s1.leaveUnlessOff 2).leaveUnlessOff 3).dom e = _
  simp only [State.dom_leaveUnlessOff (State.mayLeave_leaveUnlessOff (hmay 2) (hmay 3)), State.dom_leaveUnlessOff (hmay 2), hdom]
  by_cases e1 : e = 1
  · subst e1; simp [hpower]
  by_cases e2 : e = 2
  · subst e2; simp
  by_cases e3 : e = 3
  · subst e3; simp
  simp [e1, e2, e3]

/-- D1's release as its parts: the domains leave reset, the recorder resumes, the kernel fills the capability table and shows what it
keeps, and outside a cold start resolves the commit record (R24, R414, R429). -/
theorem State.releaseD1_eq (s : State) : s.releaseD1 =
    let x := (if s.leaveD1.boot.cold then s.leaveD1.clearLast else s.leaveD1).resumeRecorder
    let y := x.capLocal.showMode.showLink.showMgmt
    if y.boot.cold then y else y.resolveCommit.showIdentity.showLayout := by
  unfold State.releaseD1 State.leaveD1
  rfl

theorem State.releaseD1_logicOnly (s : State) : ∃ x, LogicOnly s.leaveD1 x ∧ LogicOnly x.capLocal s.releaseD1 := by
  have hshown (x : State) : LogicOnly x x.showMode.showLink.showMgmt := (LogicOnly.same x).showMode.showLink.showMgmt
  rw [State.releaseD1_eq]
  exact ⟨_, (LogicOnly.ite (LogicOnly.same _).clearLast (LogicOnly.same _)).resumeRecorder,
    LogicOnly.ite (hshown _) (hshown _).resolveCommit.showIdentity.showLayout⟩

/-- The kernel sets LOCAL_VALID (R24). -/
theorem State.capLocal_valid (s : State) : bitOf (s.capLocal.capWord 0x10) 0 = true := by
  dsimp only [State.capLocal, State.capChange, State.capWord, capPut]
  rw [tget_tput_other _ _ _ (by decide), tget_tput_same, BitVec.toNat_ofNat, bitOf_eq_fld, fld_mod_two_pow _ _ _ _ (by decide),
    fld_setFld_same]
  rfl

theorem State.dom_releaseD1 (h : s.MayLeave 1) (hpower : (s.dom 1).power ≠ .off) (e : Nat) : s.releaseD1.dom e =
    if (e = 1 ∨ e = 2 ∨ e = 3) ∧ (s.dom e).power ≠ .off then (s.dom e).released else s.dom e := by
  obtain ⟨x, ⟨hx, _⟩, ht, _⟩ := s.releaseD1_logicOnly
  have hcap : x.capLocal.domains = x.domains := (LogicOnly.same x).capChange.1
  rw [State.dom_congr (ht.trans (hcap.trans hx)), State.dom_leaveD1 h hpower]

theorem State.capWord_releaseD1 (s : State) : bitOf (s.releaseD1.capWord 0x10) 0 = true := by
  obtain ⟨x, _, _, hcap, _⟩ := s.releaseD1_logicOnly
  have hword : s.releaseD1.capWord 0x10 = x.capLocal.capWord 0x10 := by unfold State.capWord; rw [hcap]
  rw [hword, x.capLocal_valid]

/-- A domain that nothing holds in reset leaves it. -/
theorem State.releaseDomain_eq (hin : s.inReset d = true) (hpower : (s.dom d).power ≠ .off) (hheld : s.heldInReset d = false) :
    s.releaseDomain d = if d = 1 then s.releaseD1 else (s.leaveReset d).afterRelease d := by
  unfold State.releaseDomain
  rw [if_neg (by simp [hin, hpower, hheld])]

/-- What the picture path and the ports show of a release is no more than registers. -/
theorem State.release_logicOnly (s : State) (d : Nat) : LogicOnly (s.releaseDomain d) (s.release d) := by
  have h := LogicOnly.same (s.releaseDomain d)
  exact LogicOnly.ite h.startVideo (LogicOnly.ite h.showPorts h)

/-- A release takes the domain out of reset, and D2 and D3 with D1 unless they are OFF; no other domain changes. -/
theorem State.dom_release (hin : s.inReset d = true) (hpower : (s.dom d).power ≠ .off) (hheld : s.heldInReset d = false) (e : Nat) :
    (s.release d).dom e =
      if (e = d ∨ (d = 1 ∧ (e = 2 ∨ e = 3))) ∧ (s.dom e).power ≠ .off then (s.dom e).released else s.dom e := by
  obtain ⟨_, hmay⟩ := State.mayLeave_of_heldInReset hheld
  rw [State.dom_congr (s.release_logicOnly d).1, State.releaseDomain_eq hin hpower hheld]
  by_cases h1 : d = 1
  · subst h1
    rw [if_pos rfl, State.dom_releaseD1 hmay hpower]
    simp
  · rw [if_neg h1, State.dom_congr ((LogicOnly.same _).afterRelease).1, State.dom_leaveReset hmay]
    by_cases he : e = d
    · subst he; simp [hpower]
    · simp [he, h1]

theorem State.capWord_release_one (hin : s.inReset 1 = true) (hpower : (s.dom 1).power ≠ .off) (hheld : s.heldInReset 1 = false) :
    bitOf ((s.release 1).capWord 0x10) 0 = true := by
  have hcap : (s.release 1).cap = s.releaseD1.cap := by
    rw [(s.release_logicOnly 1).2.1, State.releaseDomain_eq hin hpower hheld, if_pos rfl]
  unfold State.capWord
  rw [hcap]
  exact s.capWord_releaseD1

end Sys2Proof.Machine
end

section
/-! PROOFS. The statement about resets. -/
namespace Sys2Proof.Machine
open Sys2Proof

/-- A write of SYS_DOMAIN_REQ appends the requests that it names, and does no more. -/
theorem sysDomainReq_completes (s : State) (v : Word) (hreach : s.reaches .kernel Reg.SYS_DOMAIN_REQ) :
    Completes (.sysDomainReq .kernel v) s fun t =>
      (∀ d, t.dom d = (s.domainReq v.toNat).dom d) ∧ ChangesOnly [.domains, .bus] s t := by
  refine ⟨(s.domainReq v.toNat).answer .done, ?_, fun _ => rfl, ?_⟩
  · show execSysDomainReq .kernel v s = _
    rw [execSysDomainReq, s.viaWrite_kernel _ _ _ hreach]
  · exact ((s.domainReq_changesOnly _).mono (by decide)).trans ((State.answer_changesOnly _ _).mono (by decide))

/-- A domain whose reset is requested takes its first request. -/
theorem State.takeReset_eq (s : State) (d : Nat) (hd : d ≠ 0) (hreq : (s.dom d).requests ≠ []) :
    ∃ q, s.takeReset d = s.resetDomain d q := by
  obtain ⟨q, rest, hq⟩ := List.exists_cons_of_ne_nil hreq
  exact ⟨q, by rw [State.takeReset, hq]; exact if_neg hd⟩

/-- Settles O11: what the requests, the resets and the releases each leave in the table of domains, and their frames. -/
theorem domainResets : Obligations.DomainResets := by
  refine ⟨fun s v hreach => ?request, fun s d hd hin hreq h23 => ?reset, fun s d hin hpower hheld => ?release⟩
  case request =>
    obtain ⟨t, hexec, hdom, hframe⟩ := sysDomainReq_completes s v hreach
    simp only [State.domainReq_dom] at hdom
    refine ⟨t, hexec, fun d => by rw [hdom], fun d => ⟨by rw [State.inReset, hdom, State.inReset], by rw [hdom]⟩,
      hframe .regs (by decide), sameMemory_of_changesOnly hframe (by decide) (by decide), ?_⟩
    exact ⟨hframe .flash (by decide), hframe .emmc (by decide), hframe .pins (by decide), hframe .tap (by decide)⟩
  case reset =>
    obtain ⟨q, hq⟩ := s.takeReset_eq d.val hd hreq
    have hdom := s.dom_resetDomain q hd hin h23
    refine ⟨s.resetDomain d.val q, by rw [← hq]; rfl, ?_, ?_, fun e _ => ?_, fun h1 => ?_, fun e he h1 => ?_,
      s.resetDomain_changesOnly q hin h23⟩
    · rw [State.inReset, hdom, if_pos (.inl rfl)]; rfl
    · rw [hdom, if_pos (.inl rfl)]; rfl
    · rw [hdom]; split <;> rfl
    · obtain ⟨h2, h3⟩ := h23 h1
      refine ⟨?_, ?_, ?_⟩
      · rw [State.inReset, hdom, if_pos (.inr ⟨h1, .inl rfl⟩)]; rfl
      · rw [State.inReset, hdom, if_pos (.inr ⟨h1, .inr rfl⟩)]; rfl
      · rw [h1] at hin ⊢
        exact s.resetDomain_one_leaves q hin h2 h3
    · rw [State.inReset, hdom, if_neg (not_or.mpr ⟨he, h1⟩), State.inReset]
  case release =>
    have hdom := State.dom_release hin hpower hheld
    refine ⟨s.release d.val, rfl, ?_, ?_, fun e => ?_, fun h1 => ⟨?_, fun h2 => ?_, fun h3 => ?_⟩⟩
    · rw [State.inReset, hdom, if_pos ⟨.inl rfl, hpower⟩]; rfl
    · rw [hdom, if_pos ⟨.inl rfl, hpower⟩]; rfl
    · rw [hdom]; split <;> rfl
    · rw [h1] at hin hpower hheld ⊢
      exact State.capWord_release_one hin hpower hheld
    · rw [State.inReset, hdom, if_pos ⟨.inr ⟨h1, .inl rfl⟩, h2⟩]; rfl
    · rw [State.inReset, hdom, if_pos ⟨.inr ⟨h1, .inr rfl⟩, h3⟩]; rfl

end Sys2Proof.Machine
end
